-- ==== Sys2Proof/Word.lean ====
section
/-! DEFINITION. The words of the NJ4840: bytes, tick numbers, and the sparse table in its one canonical form. -/
namespace Sys2Proof

/-- One byte. Bit 0 is the least significant bit (R1). -/
abbrev Byte := BitVec 8

/-- A tick number: the 32-bit counter 2001h.02 (R18, R19). -/
abbrev TickNo := BitVec 32

/-- A sparse table from Nat keys: keys strictly rising, no entry equal to what its key reads as when unlisted. -/
abbrev Tbl (α : Type) := List (Nat × α)

end Sys2Proof
end

