-- ==== Sys2Proof/Syntax.lean ====
section
/-! DEFINITION. The commands the block takes: one constructor per row of the opcode table, with the operands each event brings from outside. -/
namespace Sys2Proof

/-- The four ports of R420: host SPI, network CAN FD, GaltLink relay, service. -/
inductive Port where
  | h | n | g | s
  deriving DecidableEq, Repr, Inhabited

/-- How an object access arrives: its port, the system clock cycle of the current tick in which it completes,
and, on port G only, the origin port byte and the origin node of the ACCESS frame (R435, R456). -/
structure Via where
  port   : Port
  cyc    : Nat
  origin : Nat := 1
  node   : Nat := 0
  deriving DecidableEq, Repr, Inhabited

/-- The level of a conversion's reference differential (R176): at or above 0.45 V, below it, or at or below 0 V. -/
inductive RefLevel where
  | ok | low | nonPositive
  deriving DecidableEq, Repr, Inhabited

/-- A source of reference events (R20). -/
inductive RefSource where
  | tickin | sync | galtlink
  deriving DecidableEq, Repr, Inhabited

/-- The clock faults of R131 that stop the tick; a self-check loss brings the frequency measured, in kHz, 0 where no edge comes
(R136). -/
inductive ClockCause where
  | xoLoss | pllUnlock | selfCheckLoss (khz : BitVec 16)
  deriving DecidableEq, Repr, Inhabited

/-- An element of the touch chapter: an electrode or a press channel. -/
inductive Element where
  | electrode (i : Fin 24)
  | press (c : Fin 16)
  deriving DecidableEq, Repr

/-- What a complete USDO request asks, or how it offends the USDO protocol (R430). -/
inductive UsdoReq where
  | read (idx : BitVec 16) (sub : BitVec 8)
  | write (idx : BitVec 16) (sub : BitVec 8) (data : List Byte)
  | openSegmented
  /-- The last segment of a write has arrived. -/
  | segmentedWrite (idx : BitVec 16) (sub : BitVec 8) (data : List Byte)
  /-- The last segment of a read has gone out. -/
  | endSegmented
  | badToggle
  | badCommand
  deriving DecidableEq, Repr

/-- One entry of an ENUM or TABLE payload (R456). -/
structure EnumEntry where
  product  : BitVec 32
  revision : BitVec 32
  serial   : BitVec 32
  offBus   : Bool
  fresh    : Bool
  deriving DecidableEq, Repr

/-- A received GaltLink frame beside its type and payload: destination, origin, the CRC-16 it carries, and whether its characters
came without a code error and without ABORT (R454, R456). -/
structure FrameHead where
  dst : BitVec 8
  org : BitVec 8
  crc : BitVec 16
  clean : Bool
  deriving DecidableEq, Repr

/-- The supply over the conversion of SUPPLY_STAMP: AVDD in µV, and VIO in mV. -/
structure SupplyLevels where
  avddUv : Nat
  vioMv : Nat
  deriving DecidableEq, Repr

/-- What a comparator compares at an edge: the compared quantity in nV, and the reference of an amplifier input's slot in nV. -/
structure CompInput where
  v : Int
  vref : Nat
  deriving DecidableEq, Repr

/-- A threshold readback: the converter's code, and the cycle at which it sampled. -/
structure ThresholdReading where
  code : Fin 1024
  cyc : Nat
  deriving DecidableEq, Repr

/-- The number that TIME carries, and where the boundary of node 0 that it numbers lies in the member's own time: ps after its t0. -/
structure NumberedBoundary where
  tick : TickNo
  inst : Int
  deriving DecidableEq, Repr

/-- The relayed access a RESPONSE answers (R466): its session, whether it wrote, and the entry. -/
structure RelayedAccess where
  session : Byte
  write : Bool
  idx : BitVec 16
  sub : BitVec 8
  deriving DecidableEq, Repr

/-- How a sweep ended: whether it found a mismatch, and when. -/
structure SweepEnd where
  mismatch : Bool
  cyc : Nat
  deriving DecidableEq, Repr

/-- A wake: the bit of its source (0 touch, 1 plug, 2 monitor, 3 NCS), and for a monitor the consecutive always-on cycles on which
its comparator output has been asserted. -/
structure Wake where
  source : Fin 4
  cycles : Nat
  deriving DecidableEq, Repr

/-- The commands of the block. Instants are `cyc`, system clock cycles after t0 of the running tick; where the tick stands still,
they go on counting from its t0, as the core clock does (R442). -/
inductive Instr where
  | tickBoundary
  | tickZero
  | bodyOpen
  | halfTick
  | guardWindowOpen
  | supplyStamp (supply : SupplyLevels)
  /-- Whether the signature copies, and the configuration segment, differ. -/
  | rindCheck (signatureDiffers configDiffers : Bool)
  /-- `inst`: the instant at the pin after t0, in system clock cycles; of a GaltLink TICK, the instant of receipt in ps. -/
  | referenceEvent (src : RefSource) (inst : Int)
  | lockLoopEvaluation
  | holdoverLimit
  | trigEdge (rising : Bool) (cyc : Nat)
  /-- `x`: the stage-1 output in Q24.8. -/
  | conversionEnd (lane : Fin 4) (x : Int) (ref : RefLevel)
  | dedicatedOutputSample (lane : Fin 5) (x : Int) (ref : RefLevel) (cyc : Nat)
  | recordStore
  | commit (via : Via)
  | discard (via : Via)
  | checkOnly (via : Via)
  | commitCheckVerdict (cyc : Nat)
  | clockFault (cause : ClockCause) (cyc : Nat)
  | alwaysOnLoss (hz : BitVec 16)
  | alwaysOnRecovery (hz : BitVec 16)
  | xoRestart
  /-- Whether the clock on XI is external. -/
  | pllLock (external : Bool)
  | selfCheckRestart
  | selfCheckQualified (khz : BitVec 16)
  | coreStop
  | pinFaultEntry (x : Fin 40) (above : Bool)
  | pinFaultExit (x : Fin 40)
  /-- Delivered current in nA, the force+ voltage the setting needs and AVDD, in µV. -/
  | excitationReading (e : Fin 8) (currentNa neededUv avddUv : Nat)
  /-- Zero and span codes of point j. -/
  | quadrilleMeasurement (lane : Fin 5) (point : Fin 27) (z s : Int)
  | quadrillePhaseEnd
  | overlapEnd
  | laneFault (lane : Fin 5)
  | laneFaultClear (via : Via) (lane : Fin 5)
  | swapRequest (via : Via) (p : Byte)
  | totaliserClear (via : Via) (p : Fin 16)
  | readRecords (via : Via) (ring : BitVec 8) (count : Fin 17)
  | creditReturn (via : Via) (ring : BitVec 8) (n : BitVec 16)
  | scanStart
  /-- The measurements in fF, in the order of the scan. -/
  | scanEnd (ms : List Nat)
  | repeatAction (el : Element)
  | restLimit (el : Element)
  | startLimit (el : Element)
  | wakeScan (ms : List Nat)
  /-- The detect voltage in mV at the sample. -/
  | plugSample (g : Fin 8) (mv : BitVec 16)
  | settleHoldEnd (g : Fin 8)
  | interruptPendingClear (via : Via) (mask : BitVec 64)
  | comparatorEdge (m : Fin 16) (input : CompInput) (cyc : Nat)
  | monitorOutputChange (m : Fin 16) (asserted : Bool) (cyc : Nat)
  | captureRearm (via : Via) (mask : Byte)
  | monitorReadback (m : Fin 16) (high : Bool) (reading : ThresholdReading)
  | monitorFaultClear (via : Via) (m : Fin 16)
  | monitorPendingClear (via : Via) (mask : BitVec 32)
  | staticCode (via : Via) (n : Fin 4) (code : BitVec 16)
  | updateEvent (n : Fin 4)
  | resetArm (via : Via) (g : Fin 4)
  | resetDisarm (via : Via) (g : Fin 4)
  | phaseReset (g : Fin 4)
  /-- V(OUTn), V(OUTSn), VMID and AVDD in µV, and the load current in nA (out of the pin positive). -/
  | outputReading (n : Fin 4) (vOut vSense : Int) (iOut : Int) (vmid avdd : Int)
  | outputFaultClear (via : Via) (n : Fin 4)
  | faultPendingClear (via : Via) (mask : Byte)
  | zeroCalibration (via : Via)
  | spanCalibration (via : Via)
  | oneShotSelfCalibration (via : Via)
  | calibrationAbort (via : Via)
  | calibrationTimeout
  | selfCalibrationPoint (z s : Int)
  | store (via : Via) (sub : Fin 5)
  | restore (via : Via) (sub : Fin 5)
  /-- Whether the program's verify, normal or margin, found the record weak. -/
  | recordProgram (weak : Bool)
  | eraseComplete
  /-- The scan's duration in µs. -/
  | journalScan (us : BitVec 16)
  | objectWrite (via : Via) (idx : BitVec 16) (sub : BitVec 8) (data : List Byte)
  | pdoMappingCount (via : Via) (tx : Bool) (k : Fin 8) (n : Byte)
  /-- SDI bytes of one NCS low period; whether the response to the last request was ready at the falling edge. -/
  | spiFrame (sdi : List Byte) (cyc : Nat) (ready : Bool)
  | repeatLastResponse (via : Via) (tag : Byte)
  | serviceFrame (bytes : List Byte) (cyc : Nat)
  | usdoRequest (node : BitVec 7) (req : UsdoReq) (cyc : Nat)
  | usdoAbort (node : BitVec 7)
  | usdoSegmentTimeout (node : BitVec 7)
  | syncFrame (cyc : Nat)
  | tpdoEventTimer (k : Fin 8)
  | inhibitTimeEnd (k : Fin 8)
  | tpdoTransmitted (k : Fin 8)
  | rpdo (k : Fin 4) (data : List Byte) (cyc : Nat)
  | nmtStart (node : Byte)
  | nmtStop (node : Byte)
  | nmtEnterPreOperational (node : Byte)
  | nmtResetNode (node : Byte)
  | nmtResetCommunication (node : Byte)
  | heartbeat
  | busOffRecovery
  | seal (via : Via)
  | relock (via : Via)
  | passwordAttempt (via : Via) (value : BitVec 32)
  | challenge (via : Via)
  | responseAttempt (via : Via) (response : List Byte)
  | unlockVerdict
  /-- The end of a timer of the field lock comes at the instant that timer gives, so it has no instant of its own. -/
  | backOffEnd
  | unlockExpiry
  | challengeExpiry
  /-- The received TICK: its offset, and how it passed. -/
  | tickSymbol (offset : BitVec 32) (residence : Nat)
  /-- The 16 round trips node 0 then measures on its outgoing segment, in ps. -/
  | soundingStart (trips : List Nat)
  /-- The 16 round trips measured on the outgoing segment, in ps. -/
  | sound (trips : List Nat)
  | delayFrame (hd : FrameHead) (cablePs : BitVec 32)
  | enumFrame (hd : FrameHead) (count : BitVec 8) (entries : List EnumEntry)
  | enumerationRetry
  | tableFrame (hd : FrameHead) (entries : List EnumEntry)
  | timeSend
  | timeFrame (hd : FrameHead) (tick : NumberedBoundary) (epoch : BitVec 16) (advances : List (BitVec 32))
  | accessFrame (hd : FrameHead) (session originPort : Byte) (write : Bool) (idx : BitVec 16) (sub : BitVec 8)
      (data : List Byte) (cyc : Nat)
  | responseFrame (hd : FrameHead) (access : RelayedAccess) (status : BitVec 16) (abort : BitVec 32) (data : List Byte)
  | accessTimeout (session : Byte)
  | galtlinkNmtFrame (hd : FrameHead) (command : Byte)
  | streamSend (ring : BitVec 8)
  | streamResend (ring : BitVec 8)
  | streamFrame (hd : FrameHead) (ring : BitVec 8) (seq : BitVec 16) (recs : List (BitVec 128))
  | ackFrame (hd : FrameHead) (ring : BitVec 8) (seq : BitVec 16)
  | creditFrame (hd : FrameHead) (ring : BitVec 8) (count : BitVec 16)
  | breakDetected
  | breakFrame (hd : FrameHead) (addr : Byte)
  | characterLock
  | restoredFrame (hd : FrameHead) (addr : Byte)
  | stopClear (via : Via)
  | sweepComplete (result : SweepEnd)
  /-- The reading in 0.01 °C. -/
  | dieTemperatureReading (centi : Int)
  | thermalShutdown
  | shutdownClear (via : Via)
  | runRequest (via : Via)
  | dozeRequest (via : Via)
  | dozeEntry
  | standbyRequest (via : Via)
  | standbyEntry
  | wakeRequest (wake : Wake)
  | wakeReturn
  /-- How many bytes of the journal record under program the flash already holds. -/
  | powerOnReset (programmed : Nat)
  | nrst (programmed : Nat)
  | resetRelease
  /-- The level of GLMASTER. -/
  | fusesLoaded (glmaster : Bool)
  | canErrorConfinement (tec rec : Byte) (busOff : Bool)
  | crxdDominant
  | vrefoReading (uv : BitVec 32)
  deriving DecidableEq, Repr

end Sys2Proof
end

