-- ==== Sys2Proof/Decode.lean ====
section
/-! DEFINITION. The command a word of the opcode table spells: the table gives no row any bits, so none. -/
namespace Sys2Proof

/-- No row of the table has bits: commands come to the block as events, not as encoded words. -/
def decodeTableWord (_nbits _w : Nat) : Option Instr := none

end Sys2Proof
end

