-- ==== Sys2Proof/Config.lean ====
section
/-! DEFINITION. What one device or one implementation fixes and the manual leaves open: free values, opaque constants without a body. -/
namespace Sys2Proof.Config

/-- The serial number of this device before it is brought into the range of 1018h.04 (R10). -/
opaque serialSeed : Nat

/-- The 256-bit device key in fuses, as a number of 32 bytes, first byte most significant (R414). -/
opaque deviceKey : BitVec 256

/-- The entropy source of R440: the n-th challenge drawn. -/
opaque entropy : Nat → BitVec 128

/-- Factory offset of point j of lane l, in 1/256 lane code (R348, 2A01h.01–.05). -/
opaque factoryOffset : Nat → Nat → BitVec 32

/-- Factory gain error of point j of lane l, in 0.01 ppm (R348, 2A01h.01–.05). -/
opaque factoryGain : Nat → Nat → BitVec 32

/-- The internal reference at 25 °C (2A01h.06) before it is brought into the range of R514. -/
opaque vrefSeed : Nat

/-- Factory test temperature in 0.01 °C (2A01h.07). -/
opaque factoryTemp : BitVec 16

/-- ROM section response c (00h–1Eh): a 15-byte section whose coefficients the manual does not give (R212). -/
opaque romSection : Nat → BitVec 120

/-- The CRC-32 of the reference image of an active copy (2E00h.08): the image layout is not given (R484). -/
opaque imageCrc : List (Nat × Nat) → BitVec 32

/-- Natural logarithm of a positive binary64, as bits (the device's ln of R236; its last bits are not given). -/
opaque ln64 : BitVec 64 → BitVec 64

/-- The reference function E(T) of thermocouple type c (0–7 for B E J K N R S T), in mV, as binary64 bits (R232, R234). -/
opaque thermocoupleEmf : Nat → BitVec 64 → BitVec 64

/-- The T at which E(T) of type c equals an EMF, found to within 10^-6 °C (R234): which T is not fixed. -/
opaque thermocoupleInverse : Nat → BitVec 64 → BitVec 64

/-- Whether a record that was judged weak (its address) reads as valid at a later scan (R378). -/
opaque weakReads : Nat → Bool

/-- The node-ID 2C01h.01 of the ring member of a serial number, as the master knows it (R466 does not say how it learns it). -/
opaque memberNodeId : BitVec 32 → Nat

/-- Factory-measured receive path of this node in ps (R460). -/
opaque receivePathPs : Nat

/-- Factory-measured transmit path of this node in ps (R462). -/
opaque transmitPathPs : Nat

/-- The phase of the 96 kHz chopper of lane p, in edges of the common 6.144 MHz grid (R128) at tick 0: the manual ties it to the
grid and does not say at which edges of the grid it turns (R169). -/
opaque chopperPhase : Nat → Nat

/-- A free value for the n-th time an open value is drawn (used where the manual leaves a value open). -/
opaque freeWord : Nat → BitVec 64

end Sys2Proof.Config
end

