-- ==== Sys2Proof/Machine/State.lean ====
section
/-! DEFINITION. The state of the block: every register, queue, counter, mode and pin the manual gives it, as plain data, and its value at reset. -/
namespace Sys2Proof.Machine

/-- Where the device is in the start-up sequence of R490. -/
inductive Boot where
  | inReset | released | fuses | checked | running
  deriving DecidableEq, Repr, Inhabited

/-- The part of the tick that runs (R13). -/
inductive TickPart where
  | prologue | body | guard
  deriving DecidableEq, Repr, Inhabited

/-- The lock states of 2001h.01 (R29). -/
inductive LockState where
  | free | acquiring | locked | holdover | adrift
  deriving DecidableEq, Repr, Inhabited

/-- The power states of 2004h.01 (R495). -/
inductive Power where
  | run | doze | standby
  deriving DecidableEq, Repr, Inhabited

/-- The field-lock states of R437. -/
inductive FieldLock where
  | unsealed | isSealed | unlockedL1 | unlockedL2
  deriving DecidableEq, Repr, Inhabited

/-- The clock the core domain runs on (R132). -/
inductive CoreClock where
  | system | selfCheck
  deriving DecidableEq, Repr, Inhabited

/-- The whey reasons of R251. -/
inductive Reason where
  | busy | superseded | budgetRefused | firmExpired | inputAbsent | ringFull | configChange
  | integrityStop | thermalStop | laneFault
  deriving DecidableEq, Repr, Inhabited

/-- A result record (R249). `word12` holds SEQ and DLY, the epoch of a totaliser, or bytes 12–13 of a relayed record;
`stamped` says that SUPPLY and SUP of its TICK have been taken; `originSerial` is the serial of a relayed record's
origin node (0 for a record of this node); `restarts` those of a totaliser's sum before it (R250). -/
structure Rec where
  kind    : BitVec 3
  val     : BitVec 32 := 0
  aux     : BitVec 24 := 0
  ovr     : Bool := false
  car     : Bool := false
  sup     : Bool := false
  cal     : Bool := false
  stl     : Bool := false
  tick    : TickNo
  word12  : BitVec 16 := 0
  slot    : BitVec 7 := 0
  hold    : Bool := false
  supply  : BitVec 8 := 0
  stamped : Bool := false
  originSerial : BitVec 32 := 0
  restarts : Nat := 0
  deriving DecidableEq, Repr, Inhabited

/-- A record formed and not yet stored, with its ring and the number of triggers it represents (R264). -/
structure Formed where
  ring  : Nat
  r     : Rec
  trigs : Nat
  deriving DecidableEq, Repr, Inhabited

/-- What a closed ring keeps of the records it counted (R261, R262). -/
structure Counted where
  tick    : TickNo
  slot    : Option (BitVec 7)
  trigs   : Nat
  others  : Nat
  hold    : Bool
  sup     : Bool
  supply  : BitVec 8
  stamped : Bool
  deriving DecidableEq, Repr, Inhabited

/-- A result ring (R253, R254, R261): unread and outstanding records oldest first, free places, next SEQ;
`epochs` holds by slot the restarts and the epoch of its last totaliser record stored since the ring's reset (R250). -/
structure Ring where
  free        : Nat := 0
  unread      : List Rec := []
  outstanding : List Rec := []
  seq         : BitVec 12 := 0
  closed      : Bool := false
  refused     : Nat := 0
  nonTrig     : Nat := 0
  counted     : List Counted := []
  epochs      : Tbl (Nat × BitVec 16) := []
  deriving DecidableEq, Repr, Inhabited

/-- The ledger counters of R265 with their snapshot 2600h.01–.06, and 2600h.07, .08. `audit` holds sum, epoch and carries of every
enabled totaliser slot at the snapshot (R275). -/
structure Ledger where
  accepted   : Nat := 0
  data       : Nat := 0
  whey       : Nat := 0
  only       : Nat := 0
  snapAccepted : Nat := 0
  snapData   : Nat := 0
  snapWhey   : Nat := 0
  snapFlight : Nat := 0
  snapOnly   : Nat := 0
  snapTick   : TickNo := 0
  overReturn : Nat := 0
  released   : Nat := 0
  audit      : Tbl (Nat × BitVec 16 × Nat) := []
  deriving DecidableEq, Repr, Inhabited

/-- Resolved triggers waiting for their epilogue (R59, R532). `ring` is set where the record goes to a ring other than
the slot's target ring at writing (R113). -/
structure Whey where
  slot   : Nat
  reason : Reason
  tick   : TickNo
  count  : Nat
  dly    : BitVec 4
  stl    : Bool
  ring   : Option Nat
  deriving DecidableEq, Repr, Inhabited

/-- State of one second-order section: x1, x2, y1, y2 in Q24.8 (R213). -/
structure Section where
  x1 : Int := 0
  x2 : Int := 0
  y1 : Int := 0
  y2 : Int := 0
  deriving DecidableEq, Repr, Inhabited

/-- Rank history, newest first, and section state; `secs = none` until the next first input (R210, R213). -/
structure Filt where
  hist : List Int := []
  secs : Option (List Section) := none
  deriving DecidableEq, Repr, Inhabited

/-- A trigger: the tick it belongs to (R55). -/
structure Trig where
  tick : TickNo
  deriving DecidableEq, Repr, Inhabited

/-- Run-time state of a slot. `prev` is the code of the previous conversion with its polarity and whether over-range or a
saturation marks the records it enters (R157, R203, R241); `leads` the v and `lasts` the VALUE of its qualifying records with their sample instants, newest first
(R162, R235); `totSince` the cycles from the last totaliser addition, or from the start, to t0 of the running tick, none
after a stop (R221); `fresh` that no record has been formed since an activation affected it (R159); `ovrAcc` that the lane of the
pair that delivers has taken an over-range sample since the last delivery (R241); `restarts` how often its sum has restarted from zero (R222, R224, R250). -/
structure SlotRt where
  run       : Option Trig := none
  pend      : Option Trig := none
  events    : Nat := 0
  guardDone : Option TickNo := none
  fresh     : Bool := true
  ovrAcc    : Bool := false
  filt      : Filt := {}
  prev      : Option (Int × Bool × Bool) := none
  leads     : List (TickNo × Nat × Rat) := []
  lasts     : List (TickNo × Nat × BitVec 32) := []
  undefSeen : Bool := false
  ovrNext   : Bool := false
  sum       : Nat := 0
  epoch     : BitVec 16 := 0
  carries   : Nat := 0
  totFresh  : Bool := true
  totSince  : Option Int := some 0
  restarts  : Nat := 0
  absent    : Bool := false
  calStatus : BitVec 8 := 0
  deriving DecidableEq, Repr, Inhabited

/-- A running multiplexed conversion: slot, trigger, start edge, polarity, lane E, and whether its record is marked OVR
by a pin fault seen so far (R47, R145, R156). -/
structure Conv where
  slot  : Nat
  trig  : Trig
  start : Nat
  pos   : Bool
  byE   : Bool
  ovr   : Bool
  deriving DecidableEq, Repr, Inhabited

/-- The last output sample of a dedicated lane: `x` is the sign-corrected lane value and `xSat` that it has saturated, `y`
the stage-5 value (none until stages 4 and 5 have run on it), `unpaired` that its stage-3 value is no pair, `sat` that a
saturation has gone into `y` (R158, R200, R203); whether it is settled, and its cycle after t0 of the running tick. -/
structure Sample where
  x        : Int
  xSat     : Bool
  y        : Option Int
  unpaired : Bool
  sat      : Bool
  settled  : Bool
  at_      : Int
  deriving DecidableEq, Repr, Inhabited

/-- Run-time state of a lane A–E. `conn` counts the system clock cycles from the connection of its input to t0 of the
running tick (R205); `delivIn` the ticks to the next delivery boundary (R50); `plus`, `minus` the half-period samples of
R158 with whether they have saturated, `halfPos` the polarity of the half-period last closed; `takeover` says that since a lane fault no settled lane has delivered (R189). `clearing` counts the ticks left of
the calibration a fault clear asked for, `measured` the points measured in it (R192). Points are (offset, gain) pairs
(R172); `newPoints` act from the next boundary (R178). -/
structure LaneRt where
  conv      : Option Conv := none
  conn      : Option Nat := none
  last      : Option Sample := none
  ovrAcc    : Bool := false
  refLowNow : Bool := false
  filt      : Filt := {}
  plus      : Option (Int × Bool) := none
  minus     : Option (Int × Bool) := none
  halfPos   : Bool := true
  delivIn   : Nat := 0
  takeover  : Bool := false
  faulted   : Bool := false
  cause     : BitVec 8 := 0
  clearing  : Option Nat := none
  measured  : List Nat := []
  windows   : Nat := 0
  trips     : Nat := 0
  abandoned : Nat := 0
  abandonRun : Nat := 0
  points    : Tbl (Rat × Rat) := []
  newPoints : List (Nat × Rat × Rat) := []
  deriving DecidableEq, Repr, Inhabited

/-- Run-time state of an excitation source (R152–R159). `staleLeads` are records of its lead slot formed before its lead entry
.0B changed, which give no xL (R162). -/
structure SourceRt where
  isOpen   : Bool := true
  clip     : Bool := false
  compl    : Bool := false
  pinFault : Bool := false
  pos      : Bool := true
  currentNa : Nat := 0
  leadOhm  : BitVec 32 := 0
  unpaired : Nat := 0
  staleLeads : List (TickNo × Nat × Rat) := []
  deriving DecidableEq, Repr, Inhabited

/-- Run-time state of a crosspoint pin (R142, R144). `left` is set when the pin has left fault and waits for the
boundary that closes its switches. -/
structure PinRt where
  fault   : BitVec 8 := 0
  left    : Bool := false
  entries : Nat := 0
  tick    : TickNo := 0
  deriving DecidableEq, Repr, Inhabited

/-- What the records of one tick share: HOLD, SUPPLY and SUP (R31, R250, R483), and the event records taken (R82). -/
structure TickInfo where
  tick    : TickNo
  hold    : Bool
  supply  : BitVec 8 := 0
  sup     : Bool := false
  stamped : Bool := false
  touchEvents   : Nat := 0
  monitorEvents : Nat := 0
  deriving DecidableEq, Repr, Inhabited

/-- The tick machinery and the lock loop (chapter 01). Times are system clock cycles, exact. `events` are targets
relative to t0 of the running tick; `anchor` is the anchor boundary evaluated next, likewise. `touchNext` counts the event
records already taken for the tick the next boundary opens (R82), `syncs` the SYNC frames since the last prologue (R57).
`arrived` counts the reference events since the last evaluation (R23, R30). `latches` are the events of the pin and monitor
sources on their way to their latch: instant after t0 and source code, in order (R53); `starts` the edges on which lanes with
newly latched triggers start (R49). -/
structure TickSt where
  on        : Bool := false
  counter   : TickNo := 0
  epoch     : BitVec 16 := 0
  part      : TickPart := .prologue
  cyc       : Nat := 0
  stretch   : Rat := 0
  stretchNext : Rat := 0
  lock      : LockState := .free
  lockNext  : Option LockState := none
  holdCause : Nat := 0
  holdTicks : Nat := 0
  anchored  : Bool := false
  events    : List Rat := []
  anchor    : Rat := 0
  phaseErr  : Int := 0
  f         : Rat := 0
  integ     : Rat := 0
  fLast     : List Rat := []
  outliers  : Nat := 0
  missing   : Nat := 0
  unusable  : Nat := 0
  good      : Nat := 0
  holdover  : Nat := 0
  stretched : Nat := 0
  blockFirst : Option Rat := none
  blockCount : Nat := 0
  blockSpan  : Nat := 0
  blockSeen  : List Rat := []
  measured  : Nat := 0
  fault     : BitVec 8 := 0
  tickout   : Bool := false
  hist      : List TickInfo := []
  touchNext : Nat := 0
  syncs     : Nat := 0
  arrived   : Nat := 0
  latches   : List (Nat × Nat) := []
  starts    : List Nat := []
  grid      : Nat := 0
  deriving DecidableEq, Repr, Inhabited

/-- The commit machinery: 2002h and the schedule report 2003h. `fail` is what the check under way has found, with code,
shortfall and subjects; `verdictAt` is the verdict's instant relative to t0 of the running tick (R99). -/
structure CommitSt where
  request   : BitVec 8 := 0
  result    : BitVec 8 := 0
  code      : BitVec 16 := 0
  shortfall : Nat := 0
  dirty     : Bool := false
  subject   : BitVec 32 := 0
  subject2  : BitVec 32 := 0
  tick      : TickNo := 0
  port      : Port := .h
  frozen    : Option (Tbl Nat) := none
  fail      : Option (Nat × Nat × Nat × Nat) := none
  verdictAt : Int := 0
  startOk   : Bool := false
  startCfg  : Tbl Nat := []
  commits   : Nat := 0
  report    : List Nat := [6132, 12, 12, 12, 12, 0, 0, 0, 0, 98112, 0, 49152, 964]
  delayed   : Nat := 0
  maxDly    : Nat := 0
  expired   : Nat := 0
  refusedN  : Nat := 0
  deriving DecidableEq, Repr, Inhabited

/-- Clock supervision (chapter 05). `causes` are the faults present, earliest first; `scTry` says that the self-check RC has
been restarted since its fault (R136); `seen` that the XO and the PLL have run since reset (R131). -/
structure ClockSt where
  external : Bool := false
  causes   : List Nat := []
  faults   : Nat := 0
  tick     : TickNo := 0
  pll      : BitVec 8 := 2
  scKhz    : BitVec 16 := 8000
  aoHz     : BitVec 16 := 32768
  core     : CoreClock := .selfCheck
  scTry    : Bool := false
  seen     : Bool := false
  coreStopped : Bool := false
  deriving DecidableEq, Repr, Inhabited

/-- An overlapped handover on a dedicated lane (R182): the lane A–D, its direction, the ticks left, the length it
started with, and the comparisons made, newest first. -/
structure Overlap where
  lane   : Nat
  intoE  : Bool
  left   : Nat
  len    : Nat
  agree  : List Bool
  deriving DecidableEq, Repr, Inhabited

/-- The Quadrille rotation (R179–R192). `left` counts the ticks of the phase that remain, the running one included;
`len`, `ovl`, `tol` are the phase's length, O and tolerance, read at its start; `held` says that the phase restarts at
the first boundary that runs it (R184, R186); `stuck` that the handover into E was abandoned in this phase (R183);
`parked` the faulted lane E substitutes without end from the next boundary on (R189); `ran` the ticks of the phase in which its
calibration window has been open. -/
structure QuadSt where
  active    : Bool := false
  phase     : Nat := 0
  left      : Nat := 0
  len       : Nat := 0
  ovl       : Nat := 64
  tol       : Nat := 10
  held      : Bool := false
  stuck     : Bool := false
  cycle     : Nat := 0
  serving   : Option Nat := none
  overlap   : Option Overlap := none
  parked    : Option Nat := none
  ran       : Nat := 0
  done      : Nat := 0
  abandoned : Nat := 0
  deriving DecidableEq, Repr, Inhabited

/-- References and banks: 2210h.06, .07; 2380h.02–.04; saturations 2300h+p.0A; cold junction 2440h.02–.04. -/
structure SenseSt where
  extaLow   : Bool := false
  extbLow   : Bool := false
  ratioLow  : List Bool := [false, false, false, false]
  vrefoOut  : Bool := false
  vrefoUv   : BitVec 32 := 0
  bank      : BitVec 16 := 0
  swaps     : List (Nat × Int) := []
  swapCount : Nat := 0
  saturations : Tbl Nat := []
  totClear  : List Nat := []
  tcj       : BitVec 32 := 0
  tcjDie    : Bool := true
  undefined : Nat := 0
  deriving DecidableEq, Repr, Inhabited

/-- The element states of R280. -/
inductive ElemState where
  | idle | pressed | stuck | startHeld
  deriving DecidableEq, Repr, Inhabited

/-- Run-time state of an electrode or press channel. Measurements are exact rationals (fF, or the value of a binary
number). `timer` counts modulator cycles; `touchDue`, `releaseDue` and `repeatDue` are the actions to latch at the next t0,
`touchNow` and `releaseNow` those of the t0 reached; `limitDue` says that the next boundary reaches a limit (R283, R284). -/
structure ElemRt where
  state   : ElemState := .idle
  started : Bool := false
  m       : Rat := 0
  b       : Rat := 0
  d       : Rat := 0
  peak    : Rat := 0
  q       : Rat := 0
  count   : Nat := 0
  timerOn : Bool := false
  timer   : Nat := 0
  touchDue   : Bool := false
  releaseDue : Bool := false
  repeatDue  : Bool := false
  touchNow   : Bool := false
  releaseNow : Bool := false
  limitDue   : Bool := false
  touchTick  : Option TickNo := none
  overRng : Bool := false
  wakeHits : Nat := 0
  deriving DecidableEq, Repr, Inhabited

/-- The touch engine: scan in progress (its start tick and electrodes, and those of it no longer measured, R297), 2720h.07–.0A. -/
structure TouchSt where
  scan    : Option (TickNo × List Nat) := none
  dropped : List Nat := []
  lastUs  : Nat := 0
  scans   : Nat := 0
  pending : BitVec 64 := 0
  lost    : Nat := 0
  deriving DecidableEq, Repr, Inhabited

/-- The states of a plug group (R291). -/
inductive PlugState where
  | unplugged | plugged | shorted | faulted
  deriving DecidableEq, Repr, Inhabited

/-- Run-time state of a plug group: the run of equal samples, the ticks left of its settle hold, the last voltage; `moved` that it
has changed in the STANDBY under way (R296). -/
structure PlugRt where
  state   : PlugState := .unplugged
  cls     : PlugState := .unplugged
  run     : Nat := 0
  hold    : Option Nat := none
  mv      : BitVec 16 := 0
  changes : Nat := 0
  moved   : Bool := false
  deriving DecidableEq, Repr, Inhabited

/-- Run-time state of a window monitor (R302–R311). `analog` is its comparator, `comp` the comparator output after a
fault's forcing, `out` the monitor output; `edge` the tick and offset of its last comparator edge, `since` its instant and
`loAt` and `hiAt` those of the last changes of the codes at the low and the high DAC, relative to t0 of the running tick (R305, R310); `keptComp` and `keptOut`
are the outputs at the entry into its fault (R311). -/
structure MonRt where
  analog  : Bool := false
  comp    : Bool := false
  out     : Bool := false
  faulted : Bool := false
  cause   : BitVec 8 := 0
  rbLow   : Nat := 0
  rbHigh  : Nat := 0
  asserts : Nat := 0
  faults  : Nat := 0
  clearReq : Bool := false
  okLow   : Bool := false
  okHigh  : Bool := false
  edge    : TickNo × Nat := (0, 0)
  since   : Int := 0
  loAt    : Int := -8
  hiAt    : Int := -8
  keptComp : Bool := false
  keptOut  : Bool := false
  deriving DecidableEq, Repr, Inhabited

/-- A capture register (R309). -/
structure CapRt where
  tick   : TickNo := 0
  offset : BitVec 32 := 0
  count  : Nat := 0
  lost   : Nat := 0
  held   : Bool := false
  deriving DecidableEq, Repr, Inhabited

/-- Routing status 2810h.0B, .0C. -/
structure MonSt where
  pending : BitVec 32 := 0
  lost    : Nat := 0
  deriving DecidableEq, Repr, Inhabited

/-- Run-time state of an output (R319–R336). `held` is the last code written; `fresh` the codes written and not yet
applied, and `clearReq` the instant of a clear request, relative to t0 of the running tick; `code` the static code applied, `driven`
that one written since the last mid-scale has been applied (R324); `sampled` the code at the core at this tick's reading, where an
update event has come since it was formed (R319, R334); `hiZ` that the pin is high impedance. -/
structure OutRt where
  hiZ      : Bool := true
  held     : BitVec 16 := 0x8000
  fresh    : List (Int × BitVec 16) := []
  code     : BitVec 16 := 0x8000
  released : Bool := false
  driven   : Bool := false
  sampled  : Option Int := none
  fault    : Bool := false
  clip     : Bool := false
  compl    : Bool := false
  openLoad : Bool := false
  overload : Bool := false
  cause    : BitVec 8 := 0
  clearReq : Option Int := none
  clearOk  : Bool := false
  runOpen  : Nat := 0
  runCompl : Nat := 0
  runOver  : Nat := 0
  runRead  : Nat := 0
  vRead    : Int := 0
  iRead    : Int := 0
  faults   : Nat := 0
  inForce  : BitVec 16 := 0x8000
  deriving DecidableEq, Repr, Inhabited

/-- Run-time state of a generator (R328–R332). `adv` is the output-update cycle of the running tick up to which φ has
advanced; `next` the tick of the next armed reset, `again` that one has been made since the arm. -/
structure GenRt where
  phi    : BitVec 32 := 0
  prbs   : BitVec 31 := 0x7fffffff
  f      : Nat := 0
  a      : Nat := 0
  fFresh : List (Int × Nat) := []
  aFresh : List (Int × Nat) := []
  adv    : Nat := 0
  armed  : Bool := false
  again  : Bool := false
  next   : TickNo := 0
  resets : Nat := 0
  sat    : Nat := 0
  phiB   : BitVec 32 := 0
  deriving DecidableEq, Repr, Inhabited

/-- The kinds of calibration (R349, R351). -/
inductive CalKind where
  | zero | span | self
  deriving DecidableEq, Repr, Inhabited

/-- Calibration 2A00h. `run` holds the kind, slot or lane, expected input, window and ticks left of the calibration in
progress; `coef` an ACCEPTED coefficient waiting for its result boundary (R357); `selfEnd` that a one-shot has ended since the last
boundary (R361). -/
structure CalSt where
  request : BitVec 8 := 0
  run     : Option CalKind := none
  slot    : Nat := 0
  lane    : Nat := 0
  expected : BitVec 32 := 0
  window  : Nat := 0
  left    : Nat := 0
  started : Bool := false
  point   : Nat := 0
  xs      : List Int := []
  result  : BitVec 8 := 0
  cause   : BitVec 8 := 0
  pp      : BitVec 32 := 0
  mean    : BitVec 32 := 0
  tick    : TickNo := 0
  coef    : Option (Nat × Bool × Nat) := none
  selfEnd : Bool := false
  deriving DecidableEq, Repr, Inhabited

/-- A journal record before it is programmed: type, class, payload (R369). A close record's payload stands here without
the sequence of its first data record, which is added as it starts. `own` marks the device-state record of an attempt. -/
structure JRec where
  typ     : Nat
  cls     : Nat
  payload : List Byte
  own     : Bool := false
  deriving DecidableEq, Repr, Inhabited

/-- The record under program: sequence, address, image, whether it goes to the spare sector, and whether a margin read
follows its verify (R378), and whether it is a data record of a store that a shutdown has ended (R382). -/
structure Prog where
  jr     : JRec
  seq    : Nat
  addr   : Nat
  image  : List Byte
  spare  : Bool
  margin : Bool
  stray  : Bool := false
  deriving DecidableEq, Repr, Inhabited

/-- A queued request: store or restore, and its classes (R373). -/
structure Job where
  isStore : Bool
  classes : List Nat
  deriving DecidableEq, Repr, Inhabited

/-- A generation to write: class, data payloads, and the entries captured (R374). -/
structure Plan where
  cls      : Nat
  payloads : List (List Byte)
  captured : List (Nat × Nat)
  deriving DecidableEq, Repr, Inhabited

/-- What the journal does with its spare sector (R380). -/
inductive Compact where
  | idle
  | eraseSpare
  | copying (todo : List JRec)
  deriving DecidableEq, Repr, Inhabited

/-- The NVM journal (chapter 15). `flash` holds both sectors by byte address, FFh unlisted. `queue` holds the requests,
the head under way; `plans` its generations still to write, `todo` the records of the first of them. `run` counts the data
records of the generation written so far and `firstSeq` is the sequence of its first. `gens` are the latest complete
generations by class (none: a class without one), `cut` that whose close record is under program as a shutdown ends its store
(R382), `weak` the addresses of weak records, `bad` that the active sector has
held a torn or weak record (R379), `dev` the device-state records to write. -/
structure JournalSt where
  flash    : Tbl Nat := []
  active   : Nat := 0
  used     : Nat := 0
  spareUsed : Nat := 0
  seq      : Nat := 0
  queue    : List Job := []
  plans    : List Plan := []
  todo     : List JRec := []
  run      : Nat := 0
  firstSeq : Nat := 0
  prog     : Option Prog := none
  dev      : List JRec := []
  devLast  : Option (List Byte) := none
  gens     : Tbl (Option (List (List Byte))) := []
  cut      : Option Plan := none
  bad      : Bool := false
  weak     : List Nat := []
  compact  : Compact := .idle
  erase    : Option Nat := none
  erases0  : Nat := 0
  erases1  : Nat := 0
  retries  : Nat := 0
  result   : BitVec 8 := 0
  lastCls  : BitVec 8 := 0
  tick     : TickNo := 0
  rewrites : Nat := 0
  torn     : Nat := 0
  scanUs   : BitVec 16 := 0
  deriving DecidableEq, Repr, Inhabited

/-- One log entry of 2F00h (subject, tick, detail) (R404). -/
structure EventEntry where
  subject : BitVec 32
  tick    : TickNo
  detail  : BitVec 32
  deriving DecidableEq, Repr, Inhabited

/-- One log entry of 2F02h (R404). -/
structure RefusalEntry where
  code    : BitVec 16
  port    : Port
  subject : BitVec 32
  tick    : TickNo
  deriving DecidableEq, Repr, Inhabited

/-- Diagnostics 2F00h–2F02h. Logs hold the most recent entries, newest first, at most 32 and 16. `eventAt` and `refusalAt` are the
places of the next entries, which do not saturate as the counts do (R404). -/
structure DiagSt where
  events    : List EventEntry := []
  eventN    : Nat := 0
  eventAt   : Nat := 0
  refusals  : List RefusalEntry := []
  refusalN  : Nat := 0
  refusalAt : Nat := 0
  lastAbort : BitVec 32 := 0
  completed : List Nat := [0, 0, 0, 0]
  families  : List Nat := [0, 0, 0, 0, 0, 0]
  noConsumer : Nat := 0
  deriving DecidableEq, Repr, Inhabited

/-- A port of SPI frames: SPI or the service port (R421–R427). -/
structure FramePort where
  resp     : Option (List Byte) := none
  last     : Option (List Byte) := none
  rej      : Bool := false
  frames   : Nat := 0
  crcErrs  : Nat := 0
  formErrs : Nat := 0
  deriving DecidableEq, Repr, Inhabited

/-- The NMT states of R431. -/
inductive Nmt where
  | stopped | operational | preOperational
  deriving DecidableEq, Repr, Inhabited

/-- Run-time state of a TPDO: SYNC count, inhibit time running, deferred event, frames queued with the ring and number of
the records they carry (R259, R433). -/
structure TpdoRt where
  syncs    : Nat := 0
  inhibit  : Bool := false
  deferred : Bool := false
  queued   : List (Nat × Nat × List Byte) := []
  deriving DecidableEq, Repr, Inhabited

/-- The CAN FD port (R428–R434). `held` are RPDO frames that wait for a SYNC; `sessions` the node-IDs with an open segmented
USDO session. -/
structure CanSt where
  started  : Bool := false
  nmt      : Nmt := .preOperational
  busState : BitVec 8 := 0
  txErr    : BitVec 8 := 0
  rxErr    : BitVec 8 := 0
  busOffs  : Nat := 0
  txFrames : Nat := 0
  rxFrames : Nat := 0
  sessions : List Nat := []
  err      : BitVec 8 := 0
  errs     : List (BitVec 32) := []
  shortRpdo : Bool := false
  tpdo     : Tbl TpdoRt := []
  held     : Tbl (Option (List Byte)) := []
  crxDominant : Bool := false
  deriving DecidableEq, Repr, Inhabited

/-- An unlock attempt that waits for its record and verdict (R441); `chal` is the challenge a response answers. -/
structure Attempt where
  response : Bool
  value    : BitVec 128
  chal     : BitVec 128
  verified : Bool
  deriving DecidableEq, Repr, Inhabited

/-- The field lock (R437–R443). Times are modulator cycles from t0 of the running tick; `verifyFailed` says that the record of
the attempt failed verification. -/
structure LockSt where
  state    : FieldLock := .unsealed
  fuse     : Bool := false
  fails    : Nat := 0
  backOff  : Nat := 0
  unlock   : Nat := 0
  pwStored : Bool := false
  chal     : Option (BitVec 128) := none
  chalLeft : Nat := 0
  attempt  : Option Attempt := none
  verifyFailed : Bool := false
  deriving DecidableEq, Repr, Inhabited

/-- A member's stream of one ring (R468): origin SEQ of its oldest unread record, how many from it on are sent and not
acknowledged since the last send from the oldest, how many have taken an origin SEQ, and the last cumulative credit count
received (R470). -/
structure StreamRt where
  seq    : BitVec 16 := 0
  sent   : Nat := 0
  taken  : Nat := 0
  credit : BitVec 16 := 0
  deriving DecidableEq, Repr, Inhabited

/-- What node 0 keeps for one origin and ring (R469, R470). -/
structure OriginRt where
  serial  : BitVec 32
  ring    : Nat
  last    : Option (BitVec 16)
  credits : BitVec 16
  deriving DecidableEq, Repr, Inhabited

/-- What 2D40h+a reports of a node. -/
structure NodeRt where
  present  : Bool := false
  product  : BitVec 32 := 0
  revision : BitVec 32 := 0
  serial   : BitVec 32 := 0
  offBus   : Bool := false
  delay    : BitVec 32 := 0
  deriving DecidableEq, Repr, Inhabited

/-- A relayed access the proxy waits for (R466, R467). -/
structure Session where
  id   : Byte
  node : BitVec 7
  write : Bool
  deriving DecidableEq, Repr, Inhabited

/-- GaltLink (chapter 19). `addr`, `state`, `count`, `hop`, `advance` are 2D00h.02–.06; `cableNext` a cable delay that enters
h at the next boundary. `fresh` is the node's flag of R458. `locked` says that character lock has been held, `detected` that
this node has detected a break that lasts, `broke` that it has detected one since the ring last closed (R472, R474). `table`,
`gotDelay` and `gotTime` are what a closing ring needs (R457); `soundDue` says that an enumeration waits for its sounding, `retry` that one gave more than 64 nodes. `counterNext` is the counter and epoch that
the next boundary takes (R465). -/
structure GaltSt where
  glmaster : Bool := false
  addr     : BitVec 8 := 0
  state    : BitVec 8 := 0
  count    : BitVec 8 := 0
  cableNext : Option (BitVec 32) := none
  hop      : BitVec 32 := 0
  advance  : BitVec 32 := 0
  breaks   : Nat := 0
  codeErrs : Nat := 0
  nodes    : Tbl NodeRt := []
  fresh    : Bool := true
  locked   : Bool := false
  detected : Bool := false
  broke    : Bool := false
  table    : Option (List EnumEntry) := none
  gotDelay : Bool := false
  gotTime  : Bool := false
  soundDue : Bool := false
  retry    : Bool := false
  counterNext : Option (TickNo × BitVec 16) := none
  advances : List (BitVec 32) := []
  streams  : Tbl StreamRt := []
  origins  : List OriginRt := []
  sessions : List Session := []
  nextId   : Byte := 0
  relayServed  : Nat := 0
  relayRefused : Nat := 0
  relayOrigin  : BitVec 16 := 0
  deriving DecidableEq, Repr, Inhabited

/-- Supply, integrity and heat (chapter 20). `lowest = none` until a stamp is taken; reads as 00h. `segment` is the next
configuration segment the rind check compares, `clearDue` that a sweep has passed (R487),
`shutDue` that a shutdown latched in STANDBY takes effect on return (R493); `vioMv` is the level of the VIO pin in mV (R529),
present at reset (DESIGN CHOICE, log entry 85). -/
structure SupplySt where
  stamp    : BitVec 8 := 0
  lowest   : Option (BitVec 8) := none
  supTicks : Nat := 0
  supNow   : Bool := false
  mismatches : Nat := 0
  stopCause : BitVec 8 := 0
  sweeping : Bool := false
  clearDue : Bool := false
  segment  : Nat := 0
  die      : Int := 0
  dieMax   : Option Int := none
  warning  : Bool := false
  shutdown : Bool := false
  shutClear : Bool := false
  shutDue  : Bool := false
  shutdowns : Nat := 0
  vioMv     : Nat := 3300
  deriving DecidableEq, Repr, Inhabited

/-- Power states (R495–R499). `reqAt` is the request's instant relative to t0 of the running tick; `noTrig` says that
events are no triggers; `lanesOff` that the lanes have stopped. -/
structure PowerSt where
  state    : Power := .run
  request  : Option Power := none
  reqAt    : Int := 0
  lastReq  : BitVec 8 := 0
  noTrig   : Bool := false
  lanesOff : Bool := false
  resume   : Power := .run
  lastWake : BitVec 8 := 0
  wakeSrc  : BitVec 8 := 0
  wakePin  : Bool := false
  deriving DecidableEq, Repr, Inhabited

/-- A frame or symbol the block sent in the last step. On CAN every frame is an FD frame; `brs` says that it switches the bit rate
(R428). A GaltLink frame is its bytes from type to CRC-16 (R456). -/
inductive Emit where
  | spi (sdo : List Byte)
  | svc (bytes : List Byte)
  | can (cob : Nat) (data : List Byte) (brs : Bool)
  | usdoDone (node : BitVec 7) (data : List Byte) (brs : Bool)
  | usdoAbort (node : BitVec 7) (code : BitVec 32) (brs : Bool)
  | galtTick (offset : BitVec 32)
  | galtSound
  | galt (frame : List Byte)
  deriving DecidableEq, Repr, Inhabited

/-- The state of the block. `active` and `shadow` are the two copies of the commit entries and `live` the live entries,
keyed by 256 × index + sub-index, unlisted entries at their Default. `draws` counts the free values drawn: it is the
model's own field, not the spec's. `out` is what the last step sent. -/
structure State where
  boot    : Boot := .inReset
  active  : Tbl Nat := []
  shadow  : Tbl Nat := []
  live    : Tbl Nat := []
  tick    : TickSt := {}
  com     : CommitSt := {}
  clk     : ClockSt := {}
  slots   : Tbl SlotRt := []
  lanes   : Tbl LaneRt := []
  whey    : List Whey := []
  formed  : List Formed := []
  rings   : Tbl Ring := []
  ledger  : Ledger := {}
  pins    : Tbl PinRt := []
  sources : Tbl SourceRt := []
  sense   : SenseSt := {}
  quad    : QuadSt := {}
  elems   : Tbl ElemRt := []
  touch   : TouchSt := {}
  plugs   : Tbl PlugRt := []
  mons    : Tbl MonRt := []
  mon     : MonSt := {}
  caps    : Tbl CapRt := []
  outs    : Tbl OutRt := []
  outPend : BitVec 4 := 0
  gens    : Tbl GenRt := []
  cal     : CalSt := {}
  jn      : JournalSt := {}
  diag    : DiagSt := {}
  spi     : FramePort := {}
  svc     : FramePort := {}
  can     : CanSt := {}
  lock    : LockSt := {}
  galt    : GaltSt := {}
  sup     : SupplySt := {}
  pow     : PowerSt := {}
  draws   : Nat := 0
  out     : List Emit := []
  pending : List Instr := []
  deriving DecidableEq, Repr

/-- Why the block can stop. No meaning of this model raises it: every command of the table has an effect in the manual. -/
inductive Fault where
  /-- Raised by no command; kept so that the type has a name for a stop (safe). -/
  | unreachable
  deriving DecidableEq, Repr

/-- Why a command has no meaning here. -/
inductive Refusal where
  /-- Raised only by an arm of Dispatch.lean whose command has no meaning yet (safe: nothing is claimed of it). -/
  | notModelled (mnemonic : String)
  deriving DecidableEq, Repr

/-- The machine in reset, factory-new: every volatile entry at its Default (R488), an erased journal, an intact seal
fuse, no command waiting. -/
def State.reset : State := {}

end Sys2Proof.Machine
end

