-- ==== Sys2Proof/Machine/Float.lean ====
section
/-! DEFINITION. Exact arithmetic and its roundings: convergent rounding (R202), binary64 and binary32 (R229). -/
namespace Sys2Proof.Machine

/-- 2 to an integer power. -/
def pow2 (e : Int) : Rat := if 0 ≤ e then (2 ^ e.toNat : Nat) else mkRat 1 (2 ^ (-e).toNat)

/-- Absolute value. -/
def ratAbs (r : Rat) : Rat := if r < 0 then -r else r

/-- The floor of the binary logarithm of |r|, for r not 0. -/
def ilog2 (r : Rat) : Int :=
  let k : Int := (Nat.log2 r.num.natAbs : Int) - (Nat.log2 r.den : Int)
  if pow2 k ≤ ratAbs r then k else k - 1

/-- Convergent rounding to an integer (R202): exactly half goes to the even neighbour. -/
def roundEven (r : Rat) : Int :=
  let lo := r.floor
  let d := r - lo
  if d < mkRat 1 2 then lo
  else if mkRat 1 2 < d then lo + 1
  else if lo % 2 = 0 then lo else lo + 1

/-- Rounding to `p` significant bits, to nearest with ties to even, with gradual underflow below 2^emin. -/
def roundBits (p : Nat) (emin : Int) (r : Rat) : Rat :=
  if r = 0 then 0
  else
    let e := max (ilog2 r) emin
    let q := pow2 (e - (p : Int) + 1)
    (roundEven (r / q) : Rat) * q

/-- Rounding to binary64. -/
def rnd64 (r : Rat) : Rat := roundBits 53 (-1022) r

/-- Rounding to binary32 within its finite range. -/
def rnd32 (r : Rat) : Rat := roundBits 24 (-126) r

/-- binary64 operations on finite values. -/
def f64add (a b : Rat) : Rat := rnd64 (a + b)
/-- Binary64 difference. -/
def f64sub (a b : Rat) : Rat := rnd64 (a - b)
/-- Binary64 product. -/
def f64mul (a b : Rat) : Rat := rnd64 (a * b)
/-- Binary64 quotient, for a divisor not 0. -/
def f64div (a b : Rat) : Rat := rnd64 (a / b)

/-- Integer square root by bits, from bit `k` down. -/
def isqrtFrom : Nat → Nat → Nat → Nat
  | 0, _, r => r
  | k + 1, n, r => if (r + 2 ^ k) * (r + 2 ^ k) ≤ n then isqrtFrom k n (r + 2 ^ k) else isqrtFrom k n r

/-- Integer square root. -/
def isqrt (n : Nat) : Nat := isqrtFrom (Nat.log2 n / 2 + 1) n 0

/-- Binary64 square root of a value at or above 0: enough bits and a sticky half unit, rounded once. -/
def f64sqrt (r : Rat) : Rat :=
  if r ≤ 0 then 0
  else
    let k : Int := 64 - ilog2 r / 2
    let n := (r * pow2 (2 * k)).floor.toNat
    let s := isqrt n
    let exact := decide (((s * s : Nat) : Rat) = r * pow2 (2 * k))
    rnd64 (((s : Rat) + (if exact then 0 else mkRat 1 2)) * pow2 (-k))

/-- Whether 32 bits are a finite binary32. -/
def finite32 (n : Nat) : Bool := decide (n / 2 ^ 23 % 256 ≠ 255)

/-- The value of a finite binary32. -/
def decode32 (n : Nat) : Rat :=
  let e : Nat := n / 2 ^ 23 % 256
  let m : Nat := n % 2 ^ 23
  let mag : Rat := if e = 0 then (m : Rat) * pow2 (-149) else ((m + 2 ^ 23 : Nat) : Rat) * pow2 ((e : Int) - 150)
  if n / 2 ^ 31 % 2 = 1 then -mag else mag

/-- The bits of the binary32 nearest to `r`; beyond the finite range, the largest finite value of its sign (R239). -/
def encode32 (r : Rat) : Nat :=
  let s := if r < 0 then 2 ^ 31 else 0
  let a := ratAbs (rnd32 r)
  if a = 0 then s
  else if (2 ^ 128 : Nat) ≤ a then s + 0x7f7fffff
  else if a < pow2 (-126) then s + (a * pow2 149).floor.toNat
  else
    let e := ilog2 a
    s + (e + 127).toNat * 2 ^ 23 + ((a * pow2 (23 - e)).floor.toNat - 2 ^ 23)

/-- Whether rounding to binary32 would carry `r` to infinity (R239). -/
def overflows32 (r : Rat) : Bool := decide (((2 ^ 128 - 2 ^ 103 : Nat) : Rat) ≤ ratAbs r)

/-- The bits of a finite binary64. -/
def encode64 (r : Rat) : BitVec 64 :=
  let s := if r < 0 then 2 ^ 63 else 0
  let a := ratAbs (rnd64 r)
  if a = 0 then BitVec.ofNat 64 s
  else if a < pow2 (-1022) then BitVec.ofNat 64 (s + (a * pow2 1074).floor.toNat)
  else
    let e := ilog2 a
    BitVec.ofNat 64 (s + (e + 1023).toNat * 2 ^ 52 + ((a * pow2 (52 - e)).floor.toNat - 2 ^ 52))

/-- The value of a binary64 taken as finite. -/
def decode64 (b : BitVec 64) : Rat :=
  let n := b.toNat
  let e : Nat := n / 2 ^ 52 % 2048
  let m : Nat := n % 2 ^ 52
  let mag : Rat := if e = 0 then (m : Rat) * pow2 (-1074) else ((m + 2 ^ 52 : Nat) : Rat) * pow2 ((e : Int) - 1075)
  if n / 2 ^ 63 % 2 = 1 then -mag else mag

/-- A two's complement number of `w` bits from a natural number. -/
def signed (w n : Nat) : Int := if n % 2 ^ w < 2 ^ (w - 1) then (n % 2 ^ w : Nat) else (n % 2 ^ w : Nat) - (2 ^ w : Nat)

/-- The `w`-bit two's complement encoding of an integer. -/
def unsigned (w : Nat) (i : Int) : Nat := (i % (2 ^ w : Nat)).toNat

/-- Saturating to an interval. -/
def clampInt (lo hi x : Int) : Int := if x < lo then lo else if hi < x then hi else x

/-- A count that saturates at FFFF FFFFh. -/
def satInc (n : Nat) : Nat := if n < 0xffffffff then n + 1 else 0xffffffff

/-- A sum that saturates at FFFF FFFFh. -/
def satAdd (n k : Nat) : Nat := if n + k < 0xffffffff then n + k else 0xffffffff

/-- 2π, to 40 decimals. -/
def twoPi : Rat := mkRat 62831853071795864769252867665590057683943 (10 ^ 40)

/-- Terms of the sine series: `x2` is the square of the angle, `t` the last term, `k` its order. -/
def sinSeries : Nat → Rat → Rat → Nat → Rat
  | 0, _, _, _ => 0
  | n + 1, x2, t, k => t + sinSeries n x2 (-(t * x2) / (((k + 1) * (k + 2) : Nat) : Rat)) (k + 2)

/-- sin(2π·i ÷ 4096) for i up to 1024, with 24 fraction bits. -/
def sinQuarter (i : Nat) : Int :=
  let x := mkRat ((twoPi * ((i : Nat) : Rat) / 4096 * ((2 ^ 96 : Nat) : Rat)).floor) (2 ^ 96)
  roundEven (sinSeries 12 (x * x) x 1 * ((2 ^ 24 : Nat) : Rat))

/-- Entry i of the sine table of R329, with 24 fraction bits. -/
def sineEntry (i : Nat) : Int :=
  let j := i % 4096
  if j ≤ 1024 then sinQuarter j
  else if j ≤ 2048 then sinQuarter (2048 - j)
  else if j ≤ 3072 then -sinQuarter (j - 2048)
  else -sinQuarter (4096 - j)

end Sys2Proof.Machine
end

