-- ==== Sys2Proof/Machine/Curves.lean ====
section
/-! DEFINITION. The functions the manual names from outside itself: the natural logarithm (R236), the reference functions of
IEC 60584-1 (R232, R234), the response kinds of the section ROM (R212). Each is an exact value, with the last bits the manual
leaves open taken from a free value that lies within a stated bound. -/
namespace Sys2Proof.Machine
open Sys2Proof

/-- A value cut to 160 fraction bits. -/
def fix160 (r : Rat) : Rat := mkRat (r * ((2 ^ 160 : Nat) : Rat)).floor (2 ^ 160)

/-- The odd series z + z³ ÷ 3 + z⁵ ÷ 5 …, `p` the power reached and `k` its order. -/
def atanhSeries : Nat → Rat → Rat → Nat → Rat
  | 0, _, _, _ => 0
  | n + 1, z2, p, k => p / ((k : Nat) : Rat) + atanhSeries n z2 (fix160 (p * z2)) (k + 2)

/-- ln of m from 1 to 2, as twice the inverse hyperbolic tangent of (m − 1) ÷ (m + 1). -/
def lnMantissa (m : Rat) : Rat :=
  let z := fix160 ((m - 1) / (m + 1))
  fix160 (2 * atanhSeries 48 (fix160 (z * z)) z 1)

/-- ln u for u above 0, to some 2^−150. -/
def lnExact (u : Rat) : Rat := (ilog2 u : Rat) * lnMantissa 2 + lnMantissa (u / pow2 (ilog2 u))

/-- A free value where it lies within `tol` of `r`, else `r` in binary64. -/
def within (r tol cand : Rat) : Rat := if ratAbs (cand - r) ≤ tol then cand else rnd64 r

/-- ln u as the device computes it: within one unit in the last place of the logarithm (R236; DESIGN CHOICE, log entry 11). -/
def lnOf (u : Rat) : Rat :=
  let l := lnExact u
  if u = 1 then 0 else within l (pow2 (ilog2 l - 52)) (decode64 (Config.ln64 (encode64 u)))

/-- The exponential series in −y, from order `k` on. -/
def expSeries : Nat → Rat → Nat → Rat
  | 0, _, _ => 1
  | n + 1, y, k => 1 - fix160 (y * expSeries n y (k + 1) / ((k : Nat) : Rat))

/-- `n` squarings. -/
def squarings : Nat → Rat → Rat
  | 0, r => r
  | n + 1, r => squarings n (fix160 (r * r))

/-- e to the power −x, for x from 0 to 400. -/
def expNeg (x : Rat) : Rat := squarings 12 (expSeries 24 (fix160 (x / 4096)) 1)

/-- A decimal: mantissa and number of decimals. -/
abbrev Decimal := Int × Nat

/-- The value of a decimal. -/
def dec (d : Decimal) : Rat := mkRat d.1 (10 ^ d.2)

/-- One range of a reference function: its upper end in °C and the coefficients of its polynomial, from order 0 up, in mV. -/
structure TcPiece where
  upTo : Decimal
  coef : List Decimal

/-- A polynomial at t. -/
def poly (t : Rat) : List Decimal → Rat
  | [] => 0
  | c :: l => dec c + t * poly t l

/-- The derivative of a polynomial at t, its first coefficient of order k. -/
def polySlope (t : Rat) : Nat → List Decimal → Rat
  | _, [] => 0
  | 0, _ :: l => polySlope t 1 l
  | k + 1, c :: l => ((k + 1 : Nat) : Rat) * dec c + t * polySlope t (k + 2) l

/-- Type B. -/
def tcTypeB : List TcPiece :=
  [⟨(630615, 3),
     [(0, 0), (-24650818346, 14), (59040421171, 16), (-13257931636, 19), (15668291901, 22), (-1694452924, 24),
      (62990347094, 29)]⟩,
   ⟨(1820, 0),
     [(-38938168621, 10), (2857174747, 11), (-84885104785, 15), (15785280164, 17), (-16835344864, 20),
      (11109794013, 23), (-44515431033, 27), (98975640821, 31), (-93791330289, 35)]⟩]

/-- Type E. -/
def tcTypeE : List TcPiece :=
  [⟨(0, 0),
     [(0, 0), (58665508708, 12), (45410977124, 15), (-77998048686, 17), (-25800160843, 18), (-59452583057, 20),
      (-93214058667, 22), (-10287605534, 23), (-80370123621, 26), (-43979497391, 28), (-16414776355, 30),
      (-39673619516, 33), (-55827328721, 36), (-34657842013, 39)]⟩,
   ⟨(1000, 0),
     [(0, 0), (5866550871, 11), (45032275582, 15), (28908407212, 18), (-33056896652, 20), (6502440327, 22),
      (-19197495504, 26), (-12536600497, 28), (21489217569, 31), (-14388041782, 34), (35960899481, 38)]⟩]

/-- Type J. -/
def tcTypeJ : List TcPiece :=
  [⟨(760, 0),
     [(0, 0), (50381187815, 12), (3047583693, 14), (-8568106572, 17), (13228195295, 20), (-17052958337, 23),
      (20948090697, 26), (-12538395336, 29), (15631725697, 33)]⟩,
   ⟨(1200, 0),
     [(29645625681, 8), (-14976127786, 10), (31787103924, 13), (-31847686701, 16), (15720819004, 19),
      (-30691369056, 23)]⟩]

/-- Type K. -/
def tcTypeK : List TcPiece :=
  [⟨(0, 0),
     [(0, 0), (39450128025, 12), (23622373598, 15), (-32858906784, 17), (-49904828777, 19), (-67509059173, 21),
      (-57410327428, 23), (-31088872894, 25), (-10451609365, 27), (-19889266878, 30), (-16322697486, 33)]⟩,
   ⟨(1372, 0),
     [(-17600413686, 12), (38921204975, 12), (18558770032, 15), (-99457592874, 18), (31840945719, 20),
      (-56072844889, 23), (56075059059, 26), (-32020720003, 29), (97151147152, 33), (-12104721275, 36)]⟩]

/-- Type N. -/
def tcTypeN : List TcPiece :=
  [⟨(0, 0),
     [(0, 0), (26159105962, 12), (10957484228, 15), (-93841111554, 18), (-46412039759, 21), (-26303357716, 22),
      (-22653438003, 24), (-76089300791, 27), (-93419667835, 30)]⟩,
   ⟨(1300, 0),
     [(0, 0), (25929394601, 12), (1571014188, 14), (43825627237, 18), (-25261169794, 20), (64311819339, 23),
      (-10063471519, 25), (99745338992, 29), (-60863245607, 32), (20849229339, 35), (-30682196151, 39)]⟩]

/-- Type R. -/
def tcTypeR : List TcPiece :=
  [⟨(106418, 2),
     [(0, 0), (528961729765, 14), (139166589782, 16), (-238855693017, 19), (356916001063, 22),
      (-462347666298, 25), (500777441034, 28), (-373105886191, 31), (157716482367, 34), (-281038625251, 38)]⟩,
   ⟨(16645, 1),
     [(295157925316, 11), (-252061251332, 14), (159564501865, 16), (-764085947576, 20), (205305291024, 23),
      (-293359668173, 27)]⟩,
   ⟨(17681, 1),
     [(152232118209, 9), (-268819888545, 12), (171280280471, 15), (-345895706453, 19), (-934633971046, 26)]⟩]

/-- Type S. -/
def tcTypeS : List TcPiece :=
  [⟨(106418, 2),
     [(0, 0), (540313308631, 14), (12593428974, 15), (-232477968689, 19), (322028823036, 22),
      (-331465196389, 25), (255744251786, 28), (-125068871393, 31), (271443176145, 35)]⟩,
   ⟨(16645, 1),
     [(132900444085, 11), (334509311344, 14), (654805192818, 17), (-164856259209, 20), (129989605174, 25)]⟩,
   ⟨(17681, 1),
     [(146628232636, 9), (-258430516752, 12), (163693574641, 15), (-330439046987, 19), (-943223690612, 26)]⟩]

/-- Type T. -/
def tcTypeT : List TcPiece :=
  [⟨(0, 0),
     [(0, 0), (38748106364, 12), (44194434347, 15), (11844323105, 17), (20032973554, 18), (90138019559, 20),
      (22651156593, 21), (36071154205, 23), (38493939883, 25), (28213521925, 27), (14251594779, 29),
      (48768662286, 32), (1079553927, 33), (13945027062, 37), (79795153927, 41)]⟩,
   ⟨(400, 0),
     [(0, 0), (38748106364, 12), (3329222788, 14), (20618243404, 17), (-21882256846, 19), (10996880928, 21),
      (-30815758772, 24), (4547913529, 26), (-27512901673, 30)]⟩]

/-- The reference function of thermocouple type c, as its ranges (IEC 60584-1; PRESUMED: the coefficients are the standard's, not
the manual's, log entry 89). -/
def tcPieces : Nat → List TcPiece
  | 0 => tcTypeB | 1 => tcTypeE | 2 => tcTypeJ | 3 => tcTypeK | 4 => tcTypeN | 5 => tcTypeR | 6 => tcTypeS | _ => tcTypeT

/-- The range that holds t: the first whose upper end is not below it, or the last. -/
def pieceAt (t : Rat) : List TcPiece → List Decimal
  | [] => []
  | [p] => p.coef
  | p :: l => if t ≤ dec p.upTo then p.coef else pieceAt t l

/-- The exponential term of type K above 0 °C, in mV. -/
def tcExp (c : Nat) (t : Rat) : Rat :=
  if c = 3 ∧ 0 < t then
    mkRat 1185976 10000000 * expNeg (mkRat 1183432 10000000000 * (t - mkRat 1269686 10000) * (t - mkRat 1269686 10000))
  else 0

/-- E(T) of type c in mV (R232). -/
def tcExact (c : Nat) (t : Rat) : Rat := poly t (pieceAt t (tcPieces c)) + tcExp c t

/-- Domain of a thermocouple type in °C (R232). -/
def tcDomain : Nat → Rat × Rat
  | 0 => (0, 1820) | 1 => (-270, 1000) | 2 => (-210, 1200) | 3 => (-270, 1372)
  | 4 => (-270, 1300) | 5 => (-50, 1768) | 6 => (-50, 1768) | _ => (-270, 400)

/-- Halving: where `low` turns false between lo and hi. -/
def bisect (low : Rat → Bool) : Nat → Rat → Rat → Rat
  | 0, lo, _ => lo
  | n + 1, lo, hi =>
    let m := (lo + hi) / 2
    if low m then bisect low n m hi else bisect low n lo m

/-- Where E of type c is least on its domain: its lower end, but for type B, which falls at first. -/
def tcBottom : Nat → Rat
  | 0 => bisect (fun t => decide (polySlope t 0 (pieceAt t tcTypeB) < 0)) 48 0 50
  | c => (tcDomain c).1

/-- E(T) of type c in mV as the device computes it: within 10^−9 mV of the reference function (DESIGN CHOICE, log entry 11). -/
def tcEmf (c : Nat) (t : Rat) : Rat :=
  within (tcExact c t) (mkRat 1 (10 ^ 9)) (decode64 (Config.thermocoupleEmf c (encode64 t)))

/-- Whether E of type c passes `total` within 10^−6 °C of t, within the domain (R234). -/
def tcSolves (c : Nat) (total t : Rat) : Bool :=
  let d := tcDomain c
  let near := mkRat 1 (10 ^ 6)
  let lo := tcExact c (max d.1 (t - near)) - total
  let hi := tcExact c (min d.2 (t + near)) - total
  decide (d.1 ≤ t) && decide (t ≤ d.2) && decide (lo * hi ≤ 0)

/-- The T at which E(T) of type c equals `total`, to within 10^−6 °C (R234): a free value that solves it, else the solution found
by halving the domain above the least E. -/
def tcSolve (c : Nat) (total : Rat) : Rat :=
  let t := decode64 (Config.thermocoupleInverse c (encode64 total))
  if tcSolves c total t then t
  else rnd64 (bisect (fun m => decide (tcExact c m < total)) 44 (tcBottom c) (tcDomain c).2)

/-- A second-order section in units of 2^−22 (R211). -/
structure Sos where
  b0 : Int
  b1 : Int
  b2 : Int
  a1 : Int
  a2 : Int

/-- The section of 15 bytes. -/
def sectionOfBytes (v : Nat) : Sos :=
  let c := fun i : Nat => signed 24 (v / 2 ^ (24 * i))
  ⟨c 0, c 1, c 2, c 3, c 4⟩

/-- The 15 bytes of a section. -/
def Sos.bytes (q : Sos) : Nat :=
  unsigned 24 q.b0 + 2 ^ 24 * unsigned 24 q.b1 + 2 ^ 48 * unsigned 24 q.b2 + 2 ^ 72 * unsigned 24 q.a1 + 2 ^ 96 * unsigned 24 q.a2

/-- Whether the poles lie inside the unit circle (R212). -/
def Sos.stable (q : Sos) : Bool :=
  decide (q.a2.natAbs < 2 ^ 22) && decide ((q.a1.natAbs : Int) < 2 ^ 22 + q.a2)

/-- b0² + b1² + b2² + … of a second-order polynomial at cos θ: its squared magnitude on the unit circle. -/
def squareAt (b0 b1 b2 : Int) (cosine : Rat) : Rat :=
  ((b0 * b0 + b1 * b1 + b2 * b2 : Int) : Rat) + 2 * ((b1 * (b0 + b2) : Int) : Rat) * cosine
    + 2 * ((b0 * b2 : Int) : Rat) * (2 * cosine * cosine - 1)

/-- The squared gain of a section at a frequency whose angle has this cosine. -/
def Sos.power (q : Sos) (cosine : Rat) : Rat := squareAt q.b0 q.b1 q.b2 cosine / squareAt (2 ^ 22) q.a1 q.a2 cosine

/-- Exactly unity gain at DC. -/
def Sos.unityDc (q : Sos) : Bool := decide (q.b0 + q.b1 + q.b2 = 2 ^ 22 + q.a1 + q.a2)

/-- Exactly unity gain at fs ÷ 2. -/
def Sos.unityTop (q : Sos) : Bool := decide (q.b0 - q.b1 + q.b2 = 2 ^ 22 - q.a1 + q.a2)

/-- tan(π ÷ 2^k), k from 2 on, by the half-angle formula. -/
def tanHalf : Nat → Rat
  | 0 => 1 | 1 => 1 | 2 => 1
  | k + 3 => let t := tanHalf (k + 2); f64div (f64sub (f64sqrt (f64add 1 (f64mul t t))) 1) t

/-- The cosine whose half angle has this tangent. -/
def cosOf (t : Rat) : Rat := (1 - t * t) / (1 + t * t)

/-- Response kinds of the section ROM (R212). -/
inductive RomKind where
  | butterLow | butterHigh | notch | bessel | firstLow

/-- Kind and k of ROM response c: its frequency is fs ÷ 2^k (R212). -/
def romKind (c : Nat) : RomKind × Nat :=
  if c < 0x08 then (.butterLow, c + 2)
  else if c < 0x10 then (.butterHigh, c - 0x08 + 2)
  else if c < 0x18 then (.notch, c - 0x10 + 2)
  else if c < 0x1c then (.bessel, c - 0x18 + 3)
  else (.firstLow, 4 + 2 * (c - 0x1c))

/-- The squared gain of a response kind at u times its frequency, both on the tangent scale of the bilinear transform: Butterworth
1 ÷ (1 + u⁴), second-order Bessel with half power at fc, notch of Q = 8, first order (R212). -/
def RomKind.ideal (k : RomKind) (u : Rat) : Rat :=
  let v := u * u
  match k with
  | .butterLow => 1 / (1 + v * v)
  | .butterHigh => v * v / (1 + v * v)
  | .notch => (v - 1) * (v - 1) / ((v - 1) * (v - 1) + v / 64)
  | .bessel => let w := mkRat 18541020 10000000 * v; 9 / ((3 - w) * (3 - w) + 9 * w)
  | .firstLow => 1 / (1 + v)

/-- The multiples of its frequency at which a response is held to its kind; a notch at both edges of f ÷ Q too. -/
def RomKind.probes : RomKind → List Rat
  | .notch => [mkRat 1 2, mkRat 15 16, 1, mkRat 17 16, 2]
  | _ => [mkRat 1 2, 1, 2]

/-- Whether a section is what the ROM table says of response c: stable, its unity gain exact, and at half its frequency, at it and at
twice it within 4 % of full power of its kind, which no other kind is (R212; DESIGN CHOICE of the tolerance, log entry 11). -/
def romFits (c : Nat) (q : Sos) : Bool :=
  let k := (romKind c).1
  let t := tanHalf (romKind c).2
  q.stable && k.probes.all (fun u => decide (ratAbs (q.power (cosOf (t * u)) - k.ideal u) ≤ mkRat 1 25)) &&
  match k with
  | .butterHigh => q.unityTop
  | .notch => q.unityDc && decide (q.power (cosOf t) ≤ mkRat 1 10000)
  | .firstLow => decide (q.b2 = 0) && decide (q.a2 = 0) && q.unityDc
  | _ => q.unityDc

/-- A value in units of 2^−22. -/
def q22 (r : Rat) : Int := roundEven (r * ((2 ^ 22 : Nat) : Rat))

/-- A section with its gain at DC made exact by b1. -/
def fitDc (b0 b2 a1 a2 : Int) : Sos := ⟨b0, 2 ^ 22 + a1 + a2 - b0 - b2, b2, a1, a2⟩

/-- A section of ROM response c by the bilinear transform, where the free one does not fit. -/
def romDesign (c : Nat) : Sos :=
  let t0 := tanHalf (romKind c).2
  let t := match (romKind c).1 with
    | .bessel => mkRat 12720 10000 * t0
    | _ => t0
  let damp := match (romKind c).1 with
    | .notch => t / 8
    | .bessel => mkRat 17320508 10000000 * t
    | _ => mkRat 14142136 10000000 * t
  let d := 1 + damp + t * t
  let a1 := q22 (2 * (t * t - 1) / d)
  let a2 := q22 ((1 - damp + t * t) / d)
  match (romKind c).1 with
  | .butterLow | .bessel => fitDc (q22 (t * t / d)) (q22 (t * t / d)) a1 a2
  | .butterHigh => let b := q22 (1 / d); ⟨b, 2 * b - 2 ^ 22 + a1 - a2, b, a1, a2⟩
  | .notch => let b := q22 ((1 + t * t) / d); fitDc b b a1 a2
  | .firstLow => fitDc (q22 (t / (1 + t))) 0 (q22 ((t - 1) / (t + 1))) 0

/-- The 15 bytes of ROM response c (R212): the identity is given; the others are free values that are what the table says. -/
def romResponse (c : Nat) : Nat :=
  if c = 0x1f then 0x400000
  else if romFits c (sectionOfBytes (Config.romSection c).toNat) then (Config.romSection c).toNat
  else (romDesign c).bytes

end Sys2Proof.Machine
end

