-- ==== Sys2Proof/Machine/Table.lean ====
section
/-! DEFINITION. Reading and writing a sparse table in its canonical form. -/
namespace Sys2Proof.Machine

/-- What key `k` reads as: its entry, or `d k` where none is listed. -/
def tget {α : Type} (d : Nat → α) : Tbl α → Nat → α
  | [], k => d k
  | (j, v) :: t, k => if k = j then v else tget d t k

/-- Removes the entry of key `k`. -/
def tdel {α : Type} : Tbl α → Nat → Tbl α
  | [], _ => []
  | (j, w) :: t, k => if k = j then tdel t k else (j, w) :: tdel t k

/-- Inserts an entry before the first greater key. -/
def tins {α : Type} (k : Nat) (v : α) : Tbl α → Tbl α
  | [] => [(k, v)]
  | (j, w) :: t => if k < j then (k, v) :: (j, w) :: t else (j, w) :: tins k v t

/-- Makes key `k` read as `v`; an entry equal to what an unlisted key reads as is not listed. -/
def tput {α : Type} [DecidableEq α] (d : Nat → α) (t : Tbl α) (k : Nat) (v : α) : Tbl α :=
  if v = d k then tdel t k else tins k v (tdel t k)

/-- Every key of the table lies above `lo`, keys rise strictly, and no entry equals what it reads as unlisted. -/
def twfAbove {α : Type} [DecidableEq α] (d : Nat → α) : Nat → Tbl α → Bool
  | _, [] => true
  | lo, (j, v) :: t => decide (lo ≤ j) && decide (v ≠ d j) && twfAbove d (j + 1) t

/-- The canonical form. -/
def twf {α : Type} [DecidableEq α] (d : Nat → α) (t : Tbl α) : Bool := twfAbove d 0 t

/-- Applies a function to every listed value. -/
def tmapVals {α : Type} [DecidableEq α] (d : Nat → α) (f : Nat → α → α) (t : Tbl α) : Tbl α :=
  t.foldr (fun e acc => tput d acc e.1 (f e.1 e.2)) t

end Sys2Proof.Machine
end

