-- ==== Sys2Proof/Machine/Objects.lean ====
section
/-! DEFINITION. The object dictionary: which entries exist, with type, letters, seal, store class, apply mode, Default and Range (chapter 17 and the entry blocks). -/
namespace Sys2Proof.Machine
open Sys2Proof

/-- The data types of R389. -/
inductive Ty where
  | bool | u8 | u16 | u32 | u64 | i16 | i32 | real
  | vis (n : Nat)
  | oct (n : Nat)
  | domain
  deriving DecidableEq, Repr

/-- Bytes of a type (R389). -/
def Ty.bytes : Ty → Nat
  | .bool => 1 | .u8 => 1 | .u16 => 2 | .u32 => 4 | .u64 => 8 | .i16 => 2 | .i32 => 4 | .real => 4
  | .vis n => n | .oct n => n | .domain => 16

/-- The letters of a port column (R3). -/
inductive Letter where
  | none | r | w | rw | c
  deriving DecidableEq, Repr

/-- Whether a letter grants reading (R3). -/
def Letter.reads : Letter → Bool
  | .r => true | .rw => true | .c => true | _ => false

/-- Whether a letter grants writing (R3). -/
def Letter.writes : Letter → Bool
  | .w => true | .rw => true | _ => false

/-- The Store column: comm 1, app 2, cal 3 (R369), or none. -/
inductive StoreClass where
  | none | comm | app | cal
  deriving DecidableEq, Repr

/-- The class number of R369; 0 for none. -/
def StoreClass.num : StoreClass → Nat
  | .none => 0 | .comm => 1 | .app => 2 | .cal => 3

/-- The Apply column. -/
inductive Apply where
  | none | commit | live
  deriving DecidableEq, Repr

/-- The Range column. -/
inductive Rng where
  | full
  | ivs (l : List (Nat × Nat))
  | bits (mask : Nat)
  | int (w : Nat) (lo hi : Int)
  | finite
  | real (lo hi : Rat)
  deriving DecidableEq, Repr

/-- One entry's attributes (R388). -/
structure Entry where
  ty    : Ty
  h     : Letter
  n     : Letter
  g     : Letter
  s     : Letter
  sealed  : Bool
  store : StoreClass
  apply : Apply
  dflt  : Nat
  rng   : Rng
  deriving DecidableEq, Repr

/-- The letter of the arrival port. -/
def Entry.letter (e : Entry) : Port → Letter
  | .h => e.h | .n => e.n | .g => e.g | .s => e.s

/-- rw rw rw rw, application class, commit. -/
def eApp (ty : Ty) (d : Nat) (r : Rng) : Option Entry := some ⟨ty, .rw, .rw, .rw, .rw, false, .app, .commit, d, r⟩
/-- rw r r rw, application class, commit. -/
def eHS (ty : Ty) (d : Nat) (r : Rng) : Option Entry := some ⟨ty, .rw, .r, .r, .rw, false, .app, .commit, d, r⟩
/-- rw r r rw, sealed, application class, commit. -/
def eSealApp (ty : Ty) (d : Nat) (r : Rng) : Option Entry := some ⟨ty, .rw, .r, .r, .rw, true, .app, .commit, d, r⟩
/-- rw r r rw, sealed, calibration class, commit. -/
def eCal (ty : Ty) (d : Nat) (r : Rng) : Option Entry := some ⟨ty, .rw, .r, .r, .rw, true, .cal, .commit, d, r⟩
/-- r r r r status. -/
def eSt (ty : Ty) (d : Nat := 0) : Option Entry := some ⟨ty, .r, .r, .r, .r, false, .none, .none, d, .full⟩
/-- c c c c constant. -/
def eC (ty : Ty) (d : Nat) : Option Entry := some ⟨ty, .c, .c, .c, .c, false, .none, .none, d, .full⟩
/-- Live entry with given letters and store class. -/
def eLive (ty : Ty) (h n g s : Letter) (st : StoreClass) (d : Nat) (r : Rng) : Option Entry :=
  some ⟨ty, h, n, g, s, false, st, .live, d, r⟩
/-- rw rw rw rw live. -/
def eLive4 (ty : Ty) (st : StoreClass) (d : Nat) (r : Rng) : Option Entry := eLive ty .rw .rw .rw .rw st d r
/-- rw r r rw live. -/
def eLiveHS (ty : Ty) (st : StoreClass) (d : Nat) (r : Rng) : Option Entry := eLive ty .rw .r .r .rw st d r
/-- rw rw r rw live, communication class. -/
def eComm (ty : Ty) (d : Nat) (r : Rng) : Option Entry := eLive ty .rw .rw .r .rw .comm d r
/-- w - - w command. -/
def eCmdHS (r : Rng) : Option Entry := eLive .u8 .w .none .none .w .none 0 r
/-- w w w w command. -/
def eCmd4 (ty : Ty) (r : Rng) : Option Entry := eLive ty .w .w .w .w .none 0 r

/-- A range of numbers from lo to hi. -/
def iv (lo hi : Nat) : Rng := .ivs [(lo, hi)]

/-- 2A01h.06 in µV: the internal reference lies within 2.49875–2.50125 V, its measured value within 10 µV of it (R514). -/
def factoryVref : Nat := 2498740 + Config.vrefSeed % 2521

/-- The value that stands for a Default that follows another entry. -/
def follows : Nat := 2 ^ 32

/-- A string as a number, first character least significant. -/
def strNum (s : List Nat) : Nat := s.foldr (fun c acc => c + 256 * acc) 0

/-- 1018h.04: unique per device, 0000 0001h to FFFF FFFEh (R10). -/
def serialNo : Nat := 1 + Config.serialSeed % 0xfffffffe

/-- The 216 bytes of 2A01h.(l + 1) as a number: 27 points of offset and gain error (R348). -/
def factoryLane (l : Nat) : Nat :=
  (List.range 27).foldr (fun j acc =>
    (Config.factoryOffset l j).toNat + 2 ^ 32 * (Config.factoryGain l j).toNat + 2 ^ 64 * acc) 0

/-- Entries of 2000h (chapter 01). -/
def objTick : Nat → Option Entry
  | 0 => eC .u8 6
  | 1 => eApp .u32 6144 (iv 192 122880)
  | 2 => eApp .u8 0 (iv 0 3)
  | 3 => eApp .u16 200 (iv 20 65535)
  | 4 => eApp .u32 0 .full
  | 5 => eApp .u32 60000 .full
  | 6 => eApp .u16 1 (iv 1 1024)
  | _ => none

/-- Entries of 2001h (chapter 01). -/
def objTickStatus : Nat → Option Entry
  | 0 => eC .u8 0x0b
  | 1 => eSt .u8 | 2 => eSt .u32 | 3 => eSt .u16 | 4 => eSt .i32 | 5 => eSt .i16
  | 6 => eSt .u32 | 7 => eSt .u32 | 8 => eSt .u32 | 9 => eSt .u32 | 10 => eSt .u32 | 11 => eSt .u8
  | _ => none

/-- Entries of 2002h (R123). -/
def objCommit : Nat → Option Entry
  | 0 => eC .u8 9
  | 1 => eLive4 .u8 .none 0 (iv 1 3)
  | 2 => eSt .u8 | 3 => eSt .u16 | 4 => eSt .u32 | 5 => eSt .bool | 6 => eSt .u32 | 7 => eSt .u32
  | 8 => eSt .u32 | 9 => eSt .u8
  | _ => none

/-- Entries of 2003h (chapter 03). -/
def objReport : Nat → Option Entry
  | 0 => eC .u8 0x15
  | 1 => eSt .u32 | 2 => eSt .u32 6132 | 3 => eSt .u32 12 | 4 => eSt .u32 12 | 5 => eSt .u32 12 | 6 => eSt .u32 12
  | 7 => eSt .u16 | 8 => eSt .u16 | 9 => eSt .u16 | 10 => eSt .u16
  | 11 => eSt .u32 98112 | 12 => eSt .u32 | 13 => eSt .u32 49152 | 14 => eSt .u32 964
  | 15 => eC .u16 407 | 16 => eC .u16 21 | 17 => eC .u16 48
  | 18 => eSt .u32 | 19 => eSt .u8 | 20 => eSt .u32 | 21 => eSt .u32
  | _ => none

/-- Entries of 2004h (R124). -/
def objDevice : Nat → Option Entry
  | 0 => eC .u8 7
  | 1 => eSt .u8 | 2 => eSt .u8 | 3 => eSt .u8 2 | 4 => eSt .u16 | 5 => eSt .u8 | 6 => eSt .u8 | 7 => eSt .u8
  | _ => none

/-- Entries of 2010h and 2011h (chapter 05). -/
def objClockCfg : Nat → Option Entry
  | 0 => eC .u8 3
  | 1 => eSt .u8
  | 2 => eLiveHS .u8 .comm 2 (iv 0 3)
  | 3 => eC .u32 12288000
  | _ => none

/-- Entries of 2011h (chapter 05). -/
def objClock : Nat → Option Entry
  | 0 => eC .u8 7
  | 1 => eSt .u32 0x01ffffff | 2 => eSt .u8 | 3 => eSt .u32 | 4 => eSt .u32 | 5 => eSt .u8 2
  | 6 => eSt .u16 8000 | 7 => eSt .u16 32768
  | _ => none

/-- Entries of a pin 2100h + x (chapter 06). -/
def objPin : Nat → Option Entry
  | 0 => eC .u8 6
  | 1 => eApp .u8 0 (iv 0 7)
  | 2 => eApp .u8 0 (iv 0 1)
  | 3 => eSt .u8 | 4 => eSt .u8 | 5 => eSt .u32 | 6 => eSt .u32
  | _ => none

/-- Entries of a source 2140h + e (chapter 06). -/
def objSource (e : Nat) : Nat → Option Entry
  | 0 => eC .u8 0x0f
  | 1 => eApp .u8 0 (iv 0 2)
  | 2 => eApp .u8 0 (iv 0 1)
  | 3 => eApp .u16 2500 (iv 500 5000)
  | 4 => eApp .u32 100000 (iv 10000 2000000)
  | 5 => eApp .u8 (2 * e) (iv 0 0x27)
  | 6 => eApp .u8 (2 * e + 1) (iv 0 0x27)
  | 7 => eApp .u8 0xff (.ivs [(0, 0x27), (0xff, 0xff)])
  | 8 => eApp .u8 0xff (.ivs [(0, 0x27), (0xff, 0xff)])
  | 9 => eApp .u8 0 (iv 0 1)
  | 10 => eApp .u16 1 (iv 1 4096)
  | 11 => eApp .u8 0xff (.ivs [(0, 0x7f), (0xff, 0xff)])
  | 12 => eCal .real 0x447a0000 (.real 1 1000000)
  | 13 => eSt .u8 | 14 => eSt .real | 15 => eSt .u32
  | _ => none

/-- Entries of a slot 2180h + n (R67). -/
def objSlot : Nat → Option Entry
  | 0 => eC .u8 0x16
  | 1 => eApp .bool 0 (iv 0 1)
  | 2 => eApp .u8 0 (iv 0 3)
  | 3 => eApp .u8 0 (iv 0 0x27)
  | 4 => eApp .u8 0x3f (.ivs [(0, 0x27), (0x3e, 0x3f)])
  | 5 => eApp .u8 0 (iv 0 8)
  | 6 => eApp .u8 0 (iv 0 3)
  | 7 => eApp .u8 0xff (.ivs [(0, 7), (0xff, 0xff)])
  | 8 => eApp .u8 0 (iv 0 0x0f)
  | 9 => eApp .u16 0 (.ivs [(0, 0), (0x100, 0x13f), (0x200, 0x2ff)])
  | 10 => eApp .u8 0 .full
  | 11 => eApp .u8 0 (.ivs [(0, 4), (0x10, 0x1f), (0x20, 0x37), (0x40, 0x4f)])
  | 12 => eApp .u16 1 (iv 1 65535)
  | 13 => eApp .u8 0 (iv 0 2)
  | 14 => eApp .u8 2 (iv 0 2)
  | 15 => eApp .u8 0 (iv 0 15)
  | 16 => eApp .real 0x3f800000 .finite
  | 17 => eApp .real 0 .finite
  | 18 => eApp .u8 0 (iv 0 3)
  | 19 => eCal .real 0 (.real 0 1000)
  | 20 => eCal .i32 0 .full
  | 21 => eCal .real 0x3f800000 (.real (mkRat 1 4) 4)
  | 22 => eSt .u8
  | _ => none

/-- Entries of a lane 2200h + l (R67, R199). -/
def objLane (l : Nat) : Nat → Option Entry
  | 0 => eC .u8 9
  | 1 => if l = 4 then eC .u8 2 else eApp .u8 0 (iv 0 1)
  | 2 => eSt .u8 | 3 => eSt .u8
  | 4 => eCmdHS (iv 1 1)
  | 5 => eSt .u32 | 6 => eSt .i32 | 7 => eSt .i32 | 8 => eSt .u32 | 9 => eSt .u32
  | _ => none

/-- Entries of 2210h (R199). -/
def objRef : Nat → Option Entry
  | 0 => eC .u8 7
  | 1 => eApp .bool 0 (iv 0 1)
  | 2 => eApp .bool 0 (iv 0 1)
  | 3 => eCal .u32 2500000 (iv 500000 5500000)
  | 4 => eCal .u32 2500000 (iv 500000 5500000)
  | 5 => eApp .bool 0 (iv 0 1)
  | 6 => eSt .u8 | 7 => eSt .u32
  | _ => none

/-- Entries of 2220h (R199). -/
def objQuad : Nat → Option Entry
  | 0 => eC .u8 0x0a
  | 1 => eApp .u8 2 (iv 0 2)
  | 2 => eApp .u16 4000 (iv 500 60000)
  | 3 => eApp .u16 64 (iv 3 4096)
  | 4 => eApp .u16 10 (iv 1 10000)
  | 5 => eSt .u32 | 6 => eSt .u8 | 7 => eSt .u8 0xff | 8 => eSt .u32 | 9 => eSt .u32 | 10 => eSt .u8
  | _ => none

/-- Entries of a profile 2300h + p (R227). -/
def objProfile : Nat → Option Entry
  | 0 => eC .u8 0x0c
  | 1 => eApp .u8 2 (iv 0 5)
  | 2 => eApp .u8 0 (iv 0 1)
  | 3 => eApp .u8 0 (iv 0 5)
  | 4 => eApp .u8 0xff (.ivs [(0, 0x1f), (0x40, 0x7f), (0xff, 0xff)])
  | 5 => eApp .u8 0xff (.ivs [(0, 0x1f), (0x40, 0x7f), (0xff, 0xff)])
  | 6 => eApp .u8 0xff (.ivs [(0, 0x1f), (0x40, 0x7f), (0xff, 0xff)])
  | 7 => eApp .u8 0xff (.ivs [(0, 0x1f), (0x40, 0x7f), (0xff, 0xff)])
  | 8 => eApp .bool 0 (iv 0 1)
  | 9 => eCmd4 .u8 (iv 1 1)
  | 10 => eSt .u32 | 11 => eSt .u32 1000000 | 12 => eSt .i32
  | _ => none

/-- Entries of 2380h (R227). -/
def objBankCtl : Nat → Option Entry
  | 0 => eC .u8 4
  | 1 => eCmd4 .u8 (iv 0 0x0f)
  | 2 => some ⟨.u16, .r, .r, .r, .r, false, .app, .none, 0, .full⟩
  | 3 => eSt .u16 | 4 => eSt .u32
  | _ => none

/-- Entries of 2381h and 2382h (R227). -/
def objBank (sub : Nat) : Option Entry :=
  if sub = 0 then eC .u8 0x40 else if sub ≤ 0x40 then eLive4 (.oct 15) .app 0x400000 .full else none

/-- Entries of 2390h (R227). -/
def objRom (sub : Nat) : Option Entry :=
  if sub = 0 then eC .u8 0x20 else if sub ≤ 0x20 then eC (.oct 15) (romResponse (sub - 1)) else none

/-- Entries of a PWL table 2400h + t (R248). -/
def objPwl (sub : Nat) : Option Entry :=
  if sub = 0 then eC .u8 0x84
  else if sub = 1 then eCal .u8 0 (iv 0 65)
  else if sub ≤ 0x83 then eCal .real 0 .finite
  else if sub = 0x84 then eSt .u8 else none

/-- Entries of 2440h (R248). -/
def objCurves (sub : Nat) : Option Entry :=
  if sub = 0 then eC .u8 0x37
  else if sub = 1 then eApp .u8 0xff (.ivs [(0, 0x7f), (0xff, 0xff)])
  else if sub = 2 then eSt .real
  else if sub = 3 then eSt .u8 1
  else if sub = 4 then eSt .u32
  else if sub < 0x10 then none
  else if sub ≤ 0x37 then
    if (sub - 0x10) % 5 = 0 then eApp .real 0x3a93ffeb .finite
    else if (sub - 0x10) % 5 = 1 then eApp .real 0x39757f73 .finite
    else if (sub - 0x10) % 5 = 2 then eApp .real 0x33bc4759 .finite
    else if (sub - 0x10) % 5 = 3 then eApp .real 0xc2200000 (.real (-273) 500)
    else eApp .real 0x42fa0000 (.real (-273) 500)
  else none

/-- The capacities of R252. -/
def capacities : Rng :=
  .ivs [(0, 0), (4, 4), (8, 8), (16, 16), (32, 32), (64, 64), (128, 128), (256, 256), (512, 512), (1024, 1024),
    (2048, 2048), (4096, 4096)]

/-- Entries of a ring 2500h + r (R275). -/
def objRing (r : Nat) : Nat → Option Entry
  | 0 => eC .u8 0x0b
  | 1 => eApp .u16 (if r = 0 then 256 else 0) capacities
  | 2 => eApp .u16 0 (iv 0 8191)
  | 3 => eApp .u8 0 (iv 0 3)
  | 4 => eSt .u16 (if r = 0 then 256 else 0)
  | 5 => eSt .u16 | 6 => eSt .u16
  | 7 => eCmd4 .u16 (iv 1 4096)
  | 8 => eLive4 .u16 .app 0 (iv 0 4096)
  | 9 => eSt .u32
  | 10 => some ⟨.domain, .r, .r, .r, .r, false, .none, .none, 0, .full⟩
  | 11 => eSt .u32
  | _ => none

/-- Entries of 2600h (R275). -/
def objLedger : Nat → Option Entry
  | 0 => eC .u8 0x13
  | 1 => eSt .u64 | 2 => eSt .u64 | 3 => eSt .u64 | 4 => eSt .u64 | 5 => eSt .u64 | 6 => eSt .u32 | 7 => eSt .u32
  | 8 => eSt .u64 | 9 => eSt (.oct 32) | 10 => eSt (.oct 32)
  | 16 => eLive4 .u8 .none 0xff (.ivs [(0, 0x7f), (0xff, 0xff)])
  | 17 => eSt .u64 | 18 => eSt .i16 | 19 => eSt .u32
  | _ => none

/-- Entries of an electrode 2700h + i (chapter 11). -/
def objElectrode : Nat → Option Entry
  | 0 => eC .u8 0x15
  | 1 => eApp .bool 0 (iv 0 1)
  | 2 => eApp .u8 0 (iv 0 0x27)
  | 3 => eApp .u8 0 (iv 0 1)
  | 4 => eApp .u8 0xff (.ivs [(0, 0x27), (0xff, 0xff)])
  | 5 => eApp .u8 2 (iv 0 5)
  | 6 => eApp .u32 400 (iv 20 200000)
  | 7 => eApp .u32 250 (iv 10 200000)
  | 8 => eApp .u8 3 (iv 1 16)
  | 9 => eApp .u8 8 (iv 2 12)
  | 10 => eApp .u8 3 (.bits 7)
  | 11 => eApp .u16 100 (iv 1 65535)
  | 12 => eApp .u8 2 (.bits 0x0f)
  | 13 => eApp .real 0 (.real (-1000) 1000)
  | 14 => eApp .u32 1000 (iv 100 200000)
  | 15 => eLive .u32 .rw .none .none .rw .app 0xffffffff (.ivs [(0, 200000), (0xffffffff, 0xffffffff)])
  | 16 => eLive .i16 .rw .none .none .rw .app 2500 (.int 16 (-5500) 17000)
  | 17 => eSt .u8 | 18 => eSt .u32 | 19 => eSt .u32 | 20 => eSt .i32 | 21 => eSt .u8
  | _ => none

/-- Entries of 2720h (chapter 11). -/
def objTouch : Nat → Option Entry
  | 0 => eC .u8 0x0a
  | 1 => eApp .u8 0 (iv 0 2)
  | 2 => eApp .u16 10 (iv 1 65535)
  | 3 => eApp .u16 60 (iv 1 65535)
  | 4 => eApp .u16 120 (iv 1 65535)
  | 5 => eApp .u16 0xffff (.ivs [(0, 0xff), (0xffff, 0xffff)])
  | 6 => eApp .u16 100 (iv 10 1000)
  | 7 => eSt .u32 | 8 => eSt .u32
  | 9 => eLive4 .u64 .none 0 (.bits 0x00ffffff00ffffff)
  | 10 => eSt .u32
  | _ => none

/-- Entries of a press channel 2730h + c (chapter 11). -/
def objPress : Nat → Option Entry
  | 0 => eC .u8 0x0f
  | 1 => eApp .bool 0 (iv 0 1)
  | 2 => eApp .u8 0 (iv 0 0x7f)
  | 3 => eApp .real 0x41200000 (.real 0 (2 ^ 128 : Nat))
  | 4 => eApp .real 0x40a00000 (.real 0 (2 ^ 128 : Nat))
  | 5 => eApp .u8 2 (iv 1 16)
  | 6 => eApp .u8 8 (iv 2 12)
  | 7 => eApp .u8 3 (.bits 7)
  | 8 => eApp .u16 100 (iv 1 65535)
  | 9 => eApp .u8 2 (.bits 7)
  | 10 => eLive .real .rw .none .none .rw .app 0 .finite
  | 11 => eLive .bool .rw .none .none .rw .app 0 (iv 0 1)
  | 12 => eSt .u8 | 13 => eSt .real | 14 => eSt .real | 15 => eSt .u8
  | _ => none

/-- Entries of a plug group 2740h + g (chapter 11). -/
def objPlug : Nat → Option Entry
  | 0 => eC .u8 0x0d
  | 1 => eApp .bool 0 (iv 0 1)
  | 2 => eApp .u8 0 (iv 0 0x27)
  | 3 => eApp .u8 2 (iv 0 2)
  | 4 => eApp .u16 500 (iv 0 5500)
  | 5 => eApp .u16 3500 (iv 0 5500)
  | 6 => eApp .u8 4 (iv 1 255)
  | 7 => eApp (.oct 16) 0 .full
  | 8 => eApp .u16 50 .full
  | 9 => eApp .u8 2 (.bits 0x0e)
  | 10 => eSt .u8 | 11 => eSt .u8 1 | 12 => eSt .u16 | 13 => eSt .u32
  | _ => none

/-- Entries of a monitor 2800h + m (chapter 12). -/
def objMonitor : Nat → Option Entry
  | 0 => eC .u8 0x0f
  | 1 => eHS .bool 0 (iv 0 1)
  | 2 => eHS .u8 0 (.ivs [(0, 0x27), (0x40, 0x43), (0x80, 0xff)])
  | 3 => eHS .u8 0 (iv 0 3)
  | 4 => eLiveHS .u16 .app 0 (iv 0 1023)
  | 5 => eLiveHS .u16 .app 1023 (iv 0 1023)
  | 6 => eLiveHS .u8 .app 4 (iv 0 63)
  | 7 => eHS .u8 0 .full
  | 8 => eHS .u8 0 (iv 0 2)
  | 9 => eSt .u8 | 10 => eSt .u8
  | 11 => eCmdHS (iv 1 1)
  | 12 => eSt .u16 | 13 => eSt .u16 | 14 => eSt .u32 | 15 => eSt .u32
  | _ => none

/-- Entries of 2810h (chapter 12). -/
def objRouting : Nat → Option Entry
  | 0 => eC .u8 0x0c
  | 1 => eHS .u16 0 .full | 2 => eHS .u16 0 .full | 3 => eHS .u16 0 .full | 4 => eHS .u16 0 .full
  | 5 => eApp .u16 0 .full | 6 => eApp .u16 0 .full
  | 7 => eHS .u16 0 .full | 8 => eHS .u16 0 .full
  | 9 => eApp .u16 0 .full
  | 10 => eApp .u16 0xffff (.ivs [(0, 0xff), (0xffff, 0xffff)])
  | 11 => eLive4 .u32 .none 0 .full
  | 12 => eSt .u32
  | _ => none

/-- Entries of 2811h (chapter 12). -/
def objCapture (sub : Nat) : Option Entry :=
  if sub = 0 then eC .u8 0x21
  else if sub ≤ 8 then eApp .u8 0 (.bits 0x7f)
  else if sub ≤ 0x10 then eSt .u64
  else if sub ≤ 0x20 then eSt .u32
  else if sub = 0x21 then eCmd4 .u8 .full else none

/-- Entries of an output 2900h + n (R345). -/
def objOutput : Nat → Option Entry
  | 0 => eC .u8 0x10
  | 1 => eSealApp .u8 0 (iv 0 3)
  | 2 => eSealApp .u8 0 (iv 0 3)
  | 3 => eSealApp .u8 0 (iv 0 2)
  | 4 => eSealApp .u8 0 (iv 0 1)
  | 5 => eSealApp .u8 0 (iv 0 1)
  | 6 => eLive4 .u16 .none 0x8000 .full
  | 7 => eApp .u8 0 (iv 0 1)
  | 8 => eApp .u32 0 (iv 0 491519)
  | 9 => eApp .u16 1 (iv 1 65535)
  | 10 => eSt .u8 | 11 => eSt .u8
  | 12 => eCmdHS (iv 1 1)
  | 13 => eSt .i32 | 14 => eSt .i32 | 15 => eSt .u32 | 16 => eSt .u16 0x8000
  | _ => none

/-- Entries of a generator 2910h + g (R345). -/
def objGen : Nat → Option Entry
  | 0 => eC .u8 0x0b
  | 1 => eHS .bool 0 (iv 0 1)
  | 2 => eHS .u8 0 (iv 0 3)
  | 3 => eLive4 .u32 .app 0 (iv 0 0x10000000)
  | 4 => eLive4 .u16 .app 0 (iv 0 32767)
  | 5 => eLive4 .u32 .app 0 .full
  | 6 => eLive4 .u32 .none 0 .full
  | 7 => eLive4 .u16 .app 0 .full
  | 8 => eLive4 .u8 .none 0 (iv 0 1)
  | 9 => eSt .u32 | 10 => eSt .u32 | 11 => eSt .u32
  | _ => none

/-- Entries of 2920h (R345). -/
def objSupervision : Nat → Option Entry
  | 0 => eC .u8 5
  | 1 => eSealApp .u16 50 (iv 1 1000)
  | 2 => eSealApp .u8 2 (iv 1 16)
  | 3 => eSealApp .u8 0x0f (.bits 0x0f)
  | 4 => eApp .u8 0 (.bits 0x0f)
  | 5 => eLive4 .u8 .none 0 (.bits 0x0f)
  | _ => none

/-- Entries of 2A00h (R367). -/
def objCal : Nat → Option Entry
  | 0 => eC .u8 0x0d
  | 1 => eLiveHS .u8 .none 0 (iv 1 4)
  | 2 => eLiveHS .u8 .none 0 (iv 0 0x7f)
  | 3 => eLiveHS .u8 .none 0 (iv 0 4)
  | 4 => eLiveHS .real .none 0 .finite
  | 5 => eLiveHS .u16 .app 20 (iv 1 10000)
  | 6 => eLiveHS .u32 .app 10000 (iv 64 10000000)
  | 7 => eSt .u8 | 8 => eSt .u8 | 9 => eSt .u8 | 10 => eSt .u8 | 11 => eSt .real | 12 => eSt .real | 13 => eSt .u32
  | _ => none

/-- Entries of 2A01h (R367). Sub-index 08h, the CRC, is computed where it is read. -/
def objFactory : Nat → Option Entry
  | 0 => eC .u8 8
  | 1 => eC (.oct 216) (factoryLane 0) | 2 => eC (.oct 216) (factoryLane 1) | 3 => eC (.oct 216) (factoryLane 2)
  | 4 => eC (.oct 216) (factoryLane 3) | 5 => eC (.oct 216) (factoryLane 4)
  | 6 => eC .u32 factoryVref
  | 7 => eC .i16 Config.factoryTemp.toNat
  | 8 => eC .u32 0
  | _ => none

/-- Entries of 1010h (signature "save") and 1011h ("load") (chapter 15). -/
def objStore (sig : Nat) : Nat → Option Entry
  | 0 => eC .u8 4
  | 1 => some ⟨.u32, .rw, .r, .r, .rw, true, .none, .live, 1, iv sig sig⟩
  | 2 => eLive4 .u32 .none 1 (iv sig sig)
  | 3 => eLive4 .u32 .none 1 (iv sig sig)
  | 4 => some ⟨.u32, .rw, .r, .r, .rw, true, .none, .live, 1, iv sig sig⟩
  | _ => none

/-- Entries of 2B00h (chapter 15). -/
def objNvm : Nat → Option Entry
  | 0 => eC .u8 0x0e
  | 1 => eSt .u8 | 2 => eSt .u8 | 3 => eSt .u8 | 4 => eSt .u32 | 5 => eSt .u8 | 6 => eSt .u16 | 7 => eSt .u16
  | 8 => eSt .u32 | 9 => eSt .u32 | 10 => eSt .u32 | 11 => eSt .u8 | 12 => eSt .u16 | 13 => eSt .u32 | 14 => eSt .u8
  | _ => none

/-- Entries of 2F00h, 2F01h, 2F02h (chapter 16). -/
def objEvents (sub : Nat) : Option Entry :=
  if sub = 0 then eC .u8 0x21 else if sub = 1 then eSt .u32 else if sub ≤ 0x21 then eSt (.oct 12) else none

/-- Entries of 2F01h (chapter 16). -/
def objCounters (sub : Nat) : Option Entry :=
  if sub = 0 then eC .u8 0x0b else if sub ≤ 0x0b then eSt .u32 else none

/-- Entries of 2F02h (chapter 16). -/
def objRefusals (sub : Nat) : Option Entry :=
  if sub = 0 then eC .u8 0x17
  else if sub = 1 then eSt .u16 else if sub = 2 then eSt .u8 else if sub ≤ 6 then eSt .u32
  else if sub = 7 then eSt .u8 else if sub ≤ 0x17 then eSt (.oct 12) else none

/-- The mask of a COB-ID with its valid bit (1014h). -/
def cobMask : Rng := .bits 0x800007ff

/-- Entries of an RPDO parameter 1400h + k. -/
def objRpdo : Nat → Option Entry
  | 0 => eC .u8 2
  | 1 => eComm .u32 follows cobMask
  | 2 => eComm .u8 0xff (.ivs [(0, 0xf0), (0xfe, 0xff)])
  | _ => none

/-- Entries of a TPDO parameter 1800h + k. -/
def objTpdo : Nat → Option Entry
  | 0 => eC .u8 5
  | 1 => eComm .u32 follows cobMask
  | 2 => eComm .u8 0xff (.ivs [(1, 0xf0), (0xfe, 0xff)])
  | 3 => eComm .u16 0 .full
  | 5 => eComm .u16 0 .full
  | _ => none

/-- Entries of a PDO mapping 1600h + k or 1A00h + k. -/
def objMapping (sub : Nat) : Option Entry :=
  if sub = 0 then eComm .u8 0 (iv 0 16) else if sub ≤ 0x10 then eComm .u32 0 .full else none

/-- Entries of 1003h. -/
def objErrors (sub : Nat) : Option Entry :=
  if sub = 0 then eLive .u8 .rw .rw .r .rw .none 0 (iv 0 0) else if sub ≤ 8 then eSt .u32 else none

/-- Entries of 2C00h to 2C03h and 2C10h (chapter 18). -/
def objSpi : Nat → Option Entry
  | 0 => eC .u8 4
  | 1 => eSt .u32 | 2 => eSt .u32 | 3 => eSt .u32
  | 4 => eLiveHS .u8 .comm 0 (iv 0 2)
  | _ => none

/-- Entries of 2C01h (chapter 18). -/
def objCan : Nat → Option Entry
  | 0 => eC .u8 9
  | 1 => some ⟨.u8, .rw, .r, .r, .rw, false, .comm, .commit, 0x7f, iv 1 0x7f⟩
  | 2 => some ⟨.u8, .rw, .r, .r, .rw, false, .comm, .commit, 2, iv 0 3⟩
  | 3 => some ⟨.u8, .rw, .r, .r, .rw, false, .comm, .commit, 1, .ivs [(0, 3), (0xff, 0xff)]⟩
  | 4 => eSt .u8 0x7f | 5 => eSt .u8 | 6 => eSt .u16 | 7 => eSt .u32 | 8 => eSt .u32 | 9 => eSt .u32
  | _ => none

/-- Entries of 2C02h (chapter 18). -/
def objSvc : Nat → Option Entry
  | 0 => eC .u8 3
  | 1 => eC .u32 1000000
  | 2 => eSt .u32 | 3 => eSt .u32
  | _ => none

/-- Entries of 2C03h (chapter 18). -/
def objRelay : Nat → Option Entry
  | 0 => eC .u8 4
  | 1 => eSt .u32 | 2 => eSt .u32 | 3 => eSt .u16
  | 4 => eSealApp .bool 1 (iv 0 1)
  | _ => none

/-- Entries of 2C10h (chapter 18). -/
def objFieldLock : Nat → Option Entry
  | 0 => eC .u8 9
  | 1 => eSt .u8
  | 2 => eCmdHS (iv 1 2)
  | 3 => eLive .u32 .w .none .none .none .none 0 .full
  | 4 => some ⟨.oct 16, .none, .none, .none, .r, false, .none, .none, 0, .full⟩
  | 5 => eLive (.oct 16) .none .none .none .w .none 0 .full
  | 6 => eSt .u16 | 7 => eSt .u16 | 8 => eSt .u16
  | 9 => some ⟨.u32, .w, .none, .none, .w, true, .cal, .live, follows, .full⟩
  | _ => none

/-- Entries of 2D00h (chapter 19). -/
def objGalt : Nat → Option Entry
  | 0 => eC .u8 8
  | 1 => eHS .bool 0 (iv 0 1)
  | 2 => eSt .u8 | 3 => eSt .u8 | 4 => eSt .u8 | 5 => eSt .u32 | 6 => eSt .u32 | 7 => eSt .u32 | 8 => eSt .u32
  | _ => none

/-- Entries of a node 2D40h + a (chapter 19). -/
def objNode : Nat → Option Entry
  | 0 => eC .u8 5
  | 1 => eSt .bool | 2 => eSt .u32 | 3 => eSt .u32 | 4 => eSt .u32 | 5 => eSt .u32
  | _ => none

/-- Entries of 2E00h (chapter 20). -/
def objSupply : Nat → Option Entry
  | 0 => eC .u8 8
  | 1 => eHS .u16 4400 (iv 3000 5500)
  | 2 => eSt .u8 | 3 => eSt .u8 | 4 => eSt .u32 | 5 => eSt .u32 | 6 => eSt .u8
  | 7 => eCmdHS (iv 1 1)
  | 8 => eSt .u32
  | _ => none

/-- Entries of 2E01h (chapter 20). -/
def objThermal : Nat → Option Entry
  | 0 => eC .u8 5
  | 1 => eSt .i16 | 2 => eSt .u8
  | 3 => eCmdHS (iv 1 1)
  | 4 => eSt .i16 | 5 => eSt .u32
  | _ => none

/-- Entries of 2E02h (chapter 20). -/
def objPower : Nat → Option Entry
  | 0 => eC .u8 3
  | 1 => eLive .u8 .rw .rw .r .rw .none 0 (iv 0 2)
  | 2 => eHS .u8 0x0f (.bits 0x0f)
  | 3 => eSt .u8
  | _ => none

/-- Entries of 1018h (R10). -/
def objIdentity : Nat → Option Entry
  | 0 => eC .u8 4
  | 1 => eC .u32 0x0b5d
  | 2 => eC .u32 0x12e8
  | 3 => eC .u32 0x00020103
  | 4 => eC .u32 serialNo
  | _ => none

/-- An index with sub-index 00h only (R411). -/
def objSingle (e : Option Entry) : Nat → Option Entry
  | 0 => e
  | _ => none

/-- The communication indices 1000h to 1FFFh (R10, R415). -/
def objectComm (idx : Nat) : Option (Nat → Option Entry) :=
  if idx = 0x1000 then some (objSingle (eC .u32 0))
  else if idx = 0x1001 then some (objSingle (eSt .u8))
  else if idx = 0x1003 then some objErrors
  else if idx = 0x1005 then some (objSingle (eComm .u32 0x80 (iv 1 0x7ff)))
  else if idx = 0x1008 then some (objSingle (eC (.vis 6) (strNum [0x4e, 0x4a, 0x34, 0x38, 0x34, 0x30])))
  else if idx = 0x1009 then some (objSingle (eC (.vis 1) (strNum [0x42])))
  else if idx = 0x100a then some (objSingle (eC (.vis 3) (strNum [0x31, 0x2e, 0x33])))
  else if idx = 0x1010 then some (objStore 0x65766173)
  else if idx = 0x1011 then some (objStore 0x64616f6c)
  else if idx = 0x1014 then some (objSingle (eComm .u32 follows cobMask))
  else if idx = 0x1017 then some (objSingle (eComm .u16 0 .full))
  else if idx = 0x1018 then some objIdentity
  else if idx = 0x1200 then some (fun | 0 => eC .u8 2 | 1 => eSt .u32 | 2 => eSt .u32 | _ => none)
  else if 0x1400 ≤ idx ∧ idx < 0x1404 then some objRpdo
  else if 0x1600 ≤ idx ∧ idx < 0x1604 then some objMapping
  else if 0x1800 ≤ idx ∧ idx < 0x1808 then some objTpdo
  else if 0x1a00 ≤ idx ∧ idx < 0x1a08 then some objMapping
  else none

/-- The device indices up to 24FFh. -/
def objectLow (idx : Nat) : Option (Nat → Option Entry) :=
  if idx = 0x2000 then some objTick
  else if idx = 0x2001 then some objTickStatus
  else if idx = 0x2002 then some objCommit
  else if idx = 0x2003 then some objReport
  else if idx = 0x2004 then some objDevice
  else if idx = 0x2010 then some objClockCfg
  else if idx = 0x2011 then some objClock
  else if 0x2100 ≤ idx ∧ idx < 0x2128 then some objPin
  else if 0x2140 ≤ idx ∧ idx < 0x2148 then some (objSource (idx - 0x2140))
  else if 0x2180 ≤ idx ∧ idx < 0x2200 then some objSlot
  else if 0x2200 ≤ idx ∧ idx < 0x2205 then some (objLane (idx - 0x2200))
  else if idx = 0x2210 then some objRef
  else if idx = 0x2220 then some objQuad
  else if 0x2300 ≤ idx ∧ idx < 0x2310 then some objProfile
  else if idx = 0x2380 then some objBankCtl
  else if idx = 0x2381 ∨ idx = 0x2382 then some objBank
  else if idx = 0x2390 then some objRom
  else if 0x2400 ≤ idx ∧ idx < 0x2440 then some objPwl
  else if idx = 0x2440 then some objCurves
  else none

/-- The device indices from 2500h. -/
def objectHigh (idx : Nat) : Option (Nat → Option Entry) :=
  if idx < 0x2600 then some (objRing (idx - 0x2500))
  else if idx = 0x2600 then some objLedger
  else if 0x2700 ≤ idx ∧ idx < 0x2718 then some objElectrode
  else if idx = 0x2720 then some objTouch
  else if 0x2730 ≤ idx ∧ idx < 0x2740 then some objPress
  else if 0x2740 ≤ idx ∧ idx < 0x2748 then some objPlug
  else if 0x2800 ≤ idx ∧ idx < 0x2810 then some objMonitor
  else if idx = 0x2810 then some objRouting
  else if idx = 0x2811 then some objCapture
  else if 0x2900 ≤ idx ∧ idx < 0x2904 then some objOutput
  else if 0x2910 ≤ idx ∧ idx < 0x2914 then some objGen
  else if idx = 0x2920 then some objSupervision
  else if idx = 0x2a00 then some objCal
  else if idx = 0x2a01 then some objFactory
  else if idx = 0x2b00 then some objNvm
  else if idx = 0x2c00 then some objSpi
  else if idx = 0x2c01 then some objCan
  else if idx = 0x2c02 then some objSvc
  else if idx = 0x2c03 then some objRelay
  else if idx = 0x2c10 then some objFieldLock
  else if idx = 0x2d00 then some objGalt
  else if 0x2d40 ≤ idx ∧ idx < 0x2d80 then some objNode
  else if idx = 0x2e00 then some objSupply
  else if idx = 0x2e01 then some objThermal
  else if idx = 0x2e02 then some objPower
  else if idx = 0x2f00 then some objEvents
  else if idx = 0x2f01 then some objCounters
  else if idx = 0x2f02 then some objRefusals
  else none

/-- The entries of an index, or none where the index does not exist (R410). -/
def objectAt (idx : Nat) : Option (Nat → Option Entry) :=
  if idx < 0x2000 then objectComm idx else if idx < 0x2500 then objectLow idx else objectHigh idx

/-- The entry at an index and sub-index. -/
def entryOf (idx sub : Nat) : Option Entry :=
  match objectAt idx with
  | some f => f sub
  | none => none

/-- The key of an entry in a copy. -/
def key (idx sub : Nat) : Nat := 256 * idx + sub

/-- What an unlisted key of a copy reads as: the Default of its entry. -/
def dflt (k : Nat) : Nat :=
  match entryOf (k / 256) (k % 256) with
  | some e => e.dflt
  | none => 0

/-- The value of an entry in a copy. -/
def cfg (d : Tbl Nat) (idx sub : Nat) : Nat := tget dflt d (key idx sub)

end Sys2Proof.Machine
end

