-- ==== Sys2Proof/Machine/Ops.lean ====
section
/-! DEFINITION. The shared operations: reading the configuration, the run-time tables, the event log, EMCY, and what every command begins and ends with. -/
namespace Sys2Proof.Machine
open Sys2Proof

/-- An entry of the active copy. -/
def State.acfg (s : State) (idx sub : Nat) : Nat := cfg s.active idx sub

/-- A live entry. -/
def State.lcfg (s : State) (idx sub : Nat) : Nat := cfg s.live idx sub

/-- The instances of `base … base + count − 1` whose sub-index 01h (Default 0) is not 0 in a copy, ascending. -/
def listedOn (a : Tbl Nat) (base count : Nat) : List Nat :=
  a.filterMap fun e =>
    if e.1 % 256 = 1 ∧ base ≤ e.1 / 256 ∧ e.1 / 256 < base + count ∧ e.2 ≠ 0 then some (e.1 / 256 - base) else none

/-- The enabled slots of a copy, ascending (R42). -/
def slotsOf (a : Tbl Nat) : List Nat := listedOn a 0x2180 128

/-- The rings of capacity above 0 of a copy, ascending (R252). -/
def ringsOf (a : Tbl Nat) : List Nat :=
  (if cfg a 0x2500 1 = 0 then [] else [0]) ++ (listedOn a 0x2501 255).map (· + 1)

/-- The fields of a slot in a copy. -/
def slotCfg (a : Tbl Nat) (n sub : Nat) : Nat := cfg a (0x2180 + n) sub

/-- The fields of a filter profile in a copy. -/
def profCfg (a : Tbl Nat) (p sub : Nat) : Nat := cfg a (0x2300 + p) sub

/-- The profile of a slot. -/
def slotProf (a : Tbl Nat) (n : Nat) : Nat := slotCfg a n 8

/-- The preset of a slot's profile. -/
def slotPreset (a : Tbl Nat) (n : Nat) : Nat := profCfg a (slotProf a n) 1

/-- Multiplexed occupancy of a preset in modulator cycles (R46). -/
def occupancy : Nat → Nat
  | 0 => 320 | 1 => 1106 | 2 => 4178 | 3 => 16466 | 4 => 82330 | _ => 491520

/-- Dedicated output period of a preset in modulator cycles (R46). -/
def outPeriod : Nat → Nat
  | 0 => 128 | 1 => 512 | 2 => 2048 | 3 => 8192 | 4 => 40960 | _ => 245760

/-- The tick period N of a copy (R11). -/
def tickN (a : Tbl Nat) : Nat := cfg a 0x2000 1

/-- The guard window G of a copy in modulator cycles (R13): 0.6144 cycles per 0.1 µs, rounded up. -/
def guardG (a : Tbl Nat) : Nat := (cfg a 0x2000 3 * 6144 + 9999) / 10000

/-- D = lcm(N, P) ÷ N (R50). -/
def delivD (n p : Nat) : Nat := Nat.lcm n p / n

/-- Length of the running tick in system clock cycles, exact (R11, R33). -/
def State.tickLen (s : State) : Rat := ((8 * tickN s.active : Nat) : Rat) + s.tick.stretch

/-- The same length in whole cycles; the stretch of every pin source is whole. -/
def State.tickCycles (s : State) : Nat := s.tickLen.floor.toNat

/-- The opening of the guard window, in system clock cycles after t0 (R13, R33). -/
def State.guardOpen (s : State) : Nat := s.tickCycles - 8 * guardG s.active

/-- Cycles from t0 to the boundary reached: the length of the tick, or where the tick stood still the time that commands have named
(R135, R442). -/
def State.tickSpan (s : State) : Nat := if s.tick.on then s.tickCycles else s.tick.cyc

/-- The latest cycle after t0 that a command has named. -/
def State.clockAt (s : State) (cyc : Nat) : State := { s with tick := { s.tick with cyc := max s.tick.cyc cyc } }

/-- Run-time state of a slot. -/
def State.slot (s : State) (n : Nat) : SlotRt := tget (fun _ => {}) s.slots n

/-- Writes the run-time state of a slot. -/
def State.setSlot (s : State) (n : Nat) (r : SlotRt) : State := { s with slots := tput (fun _ => {}) s.slots n r }

/-- Changes the run-time state of a slot. -/
def State.updSlot (s : State) (n : Nat) (f : SlotRt → SlotRt) : State := s.setSlot n (f (s.slot n))

/-- Run-time state of a lane. -/
def State.lane (s : State) (l : Nat) : LaneRt := tget (fun _ => {}) s.lanes l

/-- Changes the run-time state of a lane. -/
def State.updLane (s : State) (l : Nat) (f : LaneRt → LaneRt) : State :=
  { s with lanes := tput (fun _ => {}) s.lanes l (f (s.lane l)) }

/-- What an unlisted ring reads as: the Default capacity free (R275). -/
def ringDflt (r : Nat) : Ring := { free := if r = 0 then 256 else 0 }

/-- A ring. -/
def State.ring (s : State) (r : Nat) : Ring := tget ringDflt s.rings r

/-- Writes a ring. -/
def State.setRing (s : State) (r : Nat) (g : Ring) : State := { s with rings := tput ringDflt s.rings r g }

/-- Run-time state of a pin. -/
def State.pin (s : State) (x : Nat) : PinRt := tget (fun _ => {}) s.pins x

/-- Changes the run-time state of a pin. -/
def State.updPin (s : State) (x : Nat) (f : PinRt → PinRt) : State :=
  { s with pins := tput (fun _ => {}) s.pins x (f (s.pin x)) }

/-- Run-time state of an excitation source. -/
def State.source (s : State) (e : Nat) : SourceRt := tget (fun _ => {}) s.sources e

/-- Changes the run-time state of an excitation source. -/
def State.updSource (s : State) (e : Nat) (f : SourceRt → SourceRt) : State :=
  { s with sources := tput (fun _ => {}) s.sources e (f (s.source e)) }

/-- Run-time state of an element: electrodes 0–23, press channel c at 32 + c. -/
def State.elem (s : State) (i : Nat) : ElemRt := tget (fun _ => {}) s.elems i

/-- Changes the run-time state of an element. -/
def State.updElem (s : State) (i : Nat) (f : ElemRt → ElemRt) : State :=
  { s with elems := tput (fun _ => {}) s.elems i (f (s.elem i)) }

/-- Run-time state of a plug group. -/
def State.plug (s : State) (g : Nat) : PlugRt := tget (fun _ => {}) s.plugs g

/-- Changes the run-time state of a plug group. -/
def State.updPlug (s : State) (g : Nat) (f : PlugRt → PlugRt) : State :=
  { s with plugs := tput (fun _ => {}) s.plugs g (f (s.plug g)) }

/-- Run-time state of a monitor. -/
def State.monitor (s : State) (m : Nat) : MonRt := tget (fun _ => {}) s.mons m

/-- Changes the run-time state of a monitor. -/
def State.updMonitor (s : State) (m : Nat) (f : MonRt → MonRt) : State :=
  { s with mons := tput (fun _ => {}) s.mons m (f (s.monitor m)) }

/-- A capture register. -/
def State.capture (s : State) (c : Nat) : CapRt := tget (fun _ => {}) s.caps c

/-- Run-time state of an output. -/
def State.output (s : State) (n : Nat) : OutRt := tget (fun _ => {}) s.outs n

/-- Changes the run-time state of an output. -/
def State.updOutput (s : State) (n : Nat) (f : OutRt → OutRt) : State :=
  { s with outs := tput (fun _ => {}) s.outs n (f (s.output n)) }

/-- Run-time state of a generator. -/
def State.gen (s : State) (g : Nat) : GenRt := tget (fun _ => {}) s.gens g

/-- Changes the run-time state of a generator. -/
def State.updGen (s : State) (g : Nat) (f : GenRt → GenRt) : State :=
  { s with gens := tput (fun _ => {}) s.gens g (f (s.gen g)) }

/-- Run-time state of a TPDO. -/
def State.tpdoRt (s : State) (k : Nat) : TpdoRt := tget (fun _ => {}) s.can.tpdo k

/-- Changes the run-time state of a TPDO. -/
def State.updTpdo (s : State) (k : Nat) (f : TpdoRt → TpdoRt) : State :=
  { s with can := { s.can with tpdo := tput (fun _ => {}) s.can.tpdo k (f (s.tpdoRt k)) } }

/-- One entry of the event log: subject, the running tick, the new value of the subject (R404). -/
def DiagSt.event (d : DiagSt) (t : TickNo) (idx sub detail : Nat) : DiagSt :=
  { d with
    events := (⟨BitVec.ofNat 32 (key idx sub), t, BitVec.ofNat 32 detail⟩ :: d.events).take 32
    eventN := satInc d.eventN
    eventAt := (d.eventAt + 1) % 32 }

/-- Writes an event to 2F00h. -/
def State.event (s : State) (idx sub detail : Nat) : State :=
  { s with diag := s.diag.event s.tick.counter idx sub detail }

/-- Port number of R123, R256, 2F02h.02. -/
def portNum : Port → Nat
  | .h => 0 | .n => 1 | .g => 2 | .s => 3

/-- The entry of the refusal log with its family counter (R398, R404). `abort` is the abort code sent, 0 for none. -/
def DiagSt.refusal (d : DiagSt) (t : TickNo) (code : Nat) (port : Port) (subject abort : Nat) : DiagSt :=
  { d with
    refusals := (⟨BitVec.ofNat 16 code, port, BitVec.ofNat 32 subject, t⟩ :: d.refusals).take 16
    refusalN := satInc d.refusalN
    refusalAt := (d.refusalAt + 1) % 16
    lastAbort := BitVec.ofNat 32 abort
    families := d.families.modify (code / 256 - 1) satInc }

/-- Logs a refusal. -/
def State.refusal (s : State) (code : Nat) (port : Port) (subject abort : Nat) : State :=
  { s with diag := s.diag.refusal s.tick.counter code port subject abort }

/-- The node-ID in force: 2C01h.01 of the active copy. -/
def State.nodeId (s : State) : Nat := s.acfg 0x2c01 1

/-- The Default of an entry that follows the node-ID (chapter 17). -/
def followDflt (node idx : Nat) : Nat :=
  if idx = 0x1014 then 0x80 + node
  else if idx < 0x1800 then 0x80000200 + 0x100 * (idx - 0x1400) + node
  else if idx < 0x1804 then 0x80000180 + 0x100 * (idx - 0x1800) + node
  else 0x80000000

/-- A live entry, with a Default that follows the node-ID filled in. -/
def State.liveVal (s : State) (idx sub : Nat) : Nat :=
  if s.lcfg idx sub = follows then followDflt s.nodeId idx else s.lcfg idx sub

/-- Whether a clock fault 01h or 02h has stopped the CAN FD, service and GaltLink transmit domains (R132). -/
def State.netHalted (s : State) : Bool := s.clk.causes.any (fun c => c = 1 ∨ c = 2)

/-- Whether a clock fault 01h–03h gates the monitoring converter, the monitor sampler and the tick (R132). -/
def State.clockFault (s : State) : Bool := s.clk.causes.any (fun c => c ≤ 3)

/-- Whether the monitoring converter runs: from tick 0, outside STANDBY and clock faults (R127, R132). -/
def State.converterOn (s : State) : Bool := s.boot = .running && s.pow.state ≠ .standby && !s.clockFault

/-- Whether an INTEGRITY-STOP or a thermal shutdown is in force (R486). In STANDBY a shutdown is only latched (R493). -/
def State.stopped (s : State) : Bool :=
  s.sup.stopCause ≠ 0 || (s.sup.shutdown && s.pow.state ≠ .standby)

/-- The number and the epoch of the tick the next boundary opens (R18, R19, R465). -/
def State.openNumber (s : State) : TickNo × BitVec 16 :=
  match s.galt.counterNext with
  | some (m, e) => (m + 1, if m + 1 = 0 then e + 1 else e)
  | none => (s.tick.counter + 1, if s.tick.counter + 1 = 0 then s.tick.epoch + 1 else s.tick.epoch)

/-- Whether a tick boundary can occur (R132, R135, R498): the tick runs, or the clear of the stop that a clock fault brought
is due. -/
def State.boundaryDue (s : State) : Bool :=
  s.boot = .running && s.pow.state ≠ .standby && !s.clockFault && (s.tick.on || s.sup.clearDue)

/-- Sends a frame. -/
def State.send (s : State) (e : Emit) : State := { s with out := s.out ++ [e] }

/-- Whether VIO keeps the logic outputs driven (R529). -/
def State.vioOn (s : State) : Bool := decide (2500 ≤ s.sup.vioMv)

/-- Sends what leaves by a logic output: nothing while VIO leaves it high impedance (R529). -/
def State.sendLogic (s : State) (e : Emit) : State := if s.vioOn then s.send e else s

/-- Whether CAN frames go out and come in: the CAN FD domain runs, the controller is not bus off, and CTXD is driven (R132, R428,
R498, R529). -/
def State.canOn (s : State) : Bool :=
  s.can.started && !s.netHalted && s.pow.state ≠ .standby && s.can.busState ≠ 2 && s.vioOn

/-- Whether frames sent switch the bit rate (R428). -/
def State.canBrs (s : State) : Bool := s.acfg 0x2c01 3 ≠ 0xff

/-- Sends a CAN frame where the port can. -/
def State.sendCan (s : State) (cob : Nat) (data : List Byte) : State :=
  if s.canOn then
    { s with out := s.out ++ [.can cob data s.canBrs], can := { s.can with txFrames := satInc s.can.txFrames } }
  else s

/-- The low `n` bytes of a number, least significant first (R1). -/
def leBytes (n v : Nat) : List Byte := (List.range n).map fun i => BitVec.ofNat 8 (v / 256 ^ i)

/-- The number that little-endian bytes hold (R1). -/
def leNum : List Byte → Nat
  | [] => 0
  | b :: t => b.toNat + 256 * leNum t

/-- Faults of lanes, outputs and monitors in force (R432). -/
def State.anyFault (s : State) : Bool :=
  s.lanes.any (fun e => e.2.faulted) || s.outs.any (fun e => e.2.fault) || s.mons.any (fun e => e.2.faulted)

/-- The error register 1001h (R432). -/
def State.errReg (s : State) : BitVec 8 :=
  let b2 := if s.sup.supNow then 4 else 0
  let b3 := if s.sup.warning || s.sup.shutdown then 8 else 0
  let b4 := if s.can.busState ≠ 0 || s.can.shortRpdo then 16 else 0
  let b7 := if s.anyFault then 128 else 0
  let other := b2 + b3 + b4 + b7
  BitVec.ofNat 8 (other + if s.sup.stopCause ≠ 0 || other ≠ 0 then 1 else 0)

/-- Whether an EMCY is sent now (R432). -/
def State.emcyOn (s : State) : Bool :=
  s.can.started && s.can.nmt ≠ .stopped && s.liveVal 0x1014 0 / 2 ^ 31 % 2 = 0 && s.pow.state ≠ .standby

/-- Sends an EMCY and enters it first in 1003h (R432). -/
def State.emcy (s : State) (code detail : Nat) : State :=
  if s.emcyOn then
    ({ s with can := { s.can with errs := (BitVec.ofNat 32 (code % 65536 + 65536 * (detail % 65536)) :: s.can.errs).take 8 } }).sendCan
      (s.liveVal 0x1014 0 % 2048)
      (leBytes 2 code ++ [s.errReg, 0] ++ leBytes 2 detail ++ leBytes 2 s.tick.counter.toNat)
  else s

/-- Every command starts with nothing sent. -/
def State.begin (s : State) : State := { s with out := [] }

/-- Every command ends by bringing 1001h up to date; its return to 00h sends an EMCY with code 0000h (R432). -/
def State.settle (s : State) : State :=
  let s1 := if s.can.err ≠ 0 ∧ s.errReg = 0 then s.emcy 0 0 else s
  { s1 with can := { s1.can with err := s.errReg } }

/-- What a tick's records share; a tick that is not kept reads as one without HOLD or stamp. -/
def State.info (s : State) (t : TickNo) : TickInfo :=
  match s.tick.hist.find? (fun i => i.tick = t) with
  | some i => i
  | none => { tick := t, hold := false }

/-- A command's outcome: its effect between `begin` and `settle`. A core without a good clock keeps its state (R138). -/
def State.run (s : State) (f : State → State) : Host.Outcome State Fault Refusal :=
  .next (if s.clk.coreStopped then s.begin else (f s.begin).settle)

/-- GaltLink role (R452): 0 NONE, 1 MASTER, 2 MEMBER, from the enable of a copy and the sampled GLMASTER level. -/
def roleOf (a : Tbl Nat) (glmaster : Bool) : Nat :=
  if cfg a 0x2d00 1 = 0 then 0 else if glmaster then 1 else 2

/-- A system clock instant of a tick, in picoseconds, as a rational number of cycles (49.152 MHz). -/
def psCycles (ps : Int) : Rat := mkRat (ps * 49152) 1000000000

end Sys2Proof.Machine
end

