-- ==== Sys2Proof/Machine/Crypto.lean ====
section
/-! DEFINITION. CRC-8 and CRC-16 of the frames, CRC-32 of IEEE 802.3, SHA-256 and HMAC (R369, R421, R440, R456). -/
namespace Sys2Proof.Machine
open Sys2Proof

/-- One bit of a CRC-8 with polynomial 1Dh, most significant bit first. -/
def crc8Bit (c : Byte) : Byte := if c.msb then (c <<< 1) ^^^ 0x1d else c <<< 1

/-- CRC-8: polynomial 1Dh, initial value FFh, no reflection, no final XOR (R421). -/
def crc8 (bytes : List Byte) : Byte :=
  bytes.foldl (fun c b => (List.range 8).foldl (fun x _ => crc8Bit x) (c ^^^ b)) 0xff

/-- One bit of the reflected CRC-32. -/
def crc32Bit (c : BitVec 32) : BitVec 32 := if c.getLsbD 0 then (c >>> 1) ^^^ 0xedb88320 else c >>> 1

/-- CRC-32 of IEEE 802.3: polynomial 04C1 1DB7h reflected, initial value and final XOR FFFF FFFFh (R369). -/
def crc32 (bytes : List Byte) : BitVec 32 :=
  (bytes.foldl (fun c b => (List.range 8).foldl (fun x _ => crc32Bit x) (c ^^^ b.setWidth 32)) 0xffffffff) ^^^ 0xffffffff

/-- One bit of a CRC-16, most significant first. -/
def crc16Bit (c : BitVec 16) : BitVec 16 := if c.msb then (c <<< 1) ^^^ 0x1021 else c <<< 1

/-- CRC-16: polynomial 1021h, initial value FFFFh, no reflection, no final XOR (R456). -/
def crc16 (bytes : List Byte) : BitVec 16 :=
  bytes.foldl (fun c b => (List.range 8).foldl (fun x _ => crc16Bit x) (c ^^^ ((b.setWidth 16 : BitVec 16) <<< 8))) 0xffff

/-- The bytes of a GaltLink frame from type to the end of the payload (R456). -/
def frameBody (typ dst org : BitVec 8) (payload : List Byte) : List Byte :=
  [typ, dst, org] ++ leBytes 2 payload.length ++ payload

/-- A GaltLink frame as it is sent, from type to CRC-16 (R1, R456). -/
def galtFrameOf (typ dst org : BitVec 8) (payload : List Byte) : Emit :=
  .galt (frameBody typ dst org payload ++ leBytes 2 (crc16 (frameBody typ dst org payload)).toNat)

/-- Whether a received frame of a type and payload stands: its CRC-16 is theirs and its characters were clean (R456). -/
def headGood (hd : FrameHead) (typ : Nat) (payload : List Byte) : Bool :=
  hd.clean && decide (hd.crc = crc16 (frameBody (BitVec.ofNat 8 typ) hd.dst hd.org payload))

/-- The largest r below 2^b above `r0` whose k-th power does not pass n, bit by bit. -/
def rootFrom (k n : Nat) : Nat → Nat → Nat
  | 0, r0 => r0
  | b + 1, r0 => rootFrom k n b (if (r0 + 2 ^ b) ^ k ≤ n then r0 + 2 ^ b else r0)

/-- The first 32 bits of the fractional part of the k-th root of p, from which FIPS 180-4 takes its constants. -/
def rootFraction (k p : Nat) : BitVec 32 := BitVec.ofNat 32 (rootFrom k (p * 2 ^ (32 * k)) 36 0)

/-- The first 64 primes. -/
def shaPrimes : List Nat := (List.range 312).filter fun n => decide (2 ≤ n) && (List.range n).all fun d => d < 2 || n % d ≠ 0

/-- Two rotations and a third rotation or shift, exclusive-or: the sigma functions of FIPS 180-4. -/
def shaSigma (a b : Nat) (x third : BitVec 32) : BitVec 32 := x.rotateRight a ^^^ x.rotateRight b ^^^ third

/-- The word that enters the schedule behind a window of the last 16. -/
def shaNext (w : List (BitVec 32)) : BitVec 32 :=
  let x := w.getD 1 0
  let y := w.getD 14 0
  w.headD 0 + shaSigma 7 18 x (x >>> 3) + w.getD 9 0 + shaSigma 17 19 y (y >>> 10)

/-- One round: the working variables take the constant with the oldest word of the window, and the window moves on. -/
def shaRound (st : List (BitVec 32) × List (BitVec 32)) (k : BitVec 32) : List (BitVec 32) × List (BitVec 32) :=
  let v := fun i => st.1.getD i 0
  let choice := (v 4 &&& v 5) ||| (~~~(v 4) &&& v 6)
  let majority := (v 0 &&& (v 1 ||| v 2)) ||| (v 1 &&& v 2)
  let up := v 7 + shaSigma 6 11 (v 4) ((v 4).rotateRight 25) + choice + k + st.2.headD 0
  let down := shaSigma 2 13 (v 0) ((v 0).rotateRight 22) + majority
  ((up + down) :: (st.1.take 3 ++ (v 3 + up) :: (st.1.drop 4).take 3), st.2.drop 1 ++ [shaNext st.2])

/-- The 64 rounds of a block of 16 words on the chaining value. -/
def shaBlock (h block : List (BitVec 32)) : List (BitVec 32) :=
  List.zipWith (· + ·) h ((shaPrimes.map (rootFraction 3)).foldl shaRound (h, block)).1

/-- Word i of a message, most significant byte first. -/
def wordAt (m : List Byte) (i : Nat) : BitVec 32 :=
  ((m.drop (4 * i)).take 4).foldl (fun x b => (x <<< 8) ||| b.setWidth 32) 0

/-- The big-endian bytes of a number. -/
def beBytes (n v : Nat) : List Byte := (leBytes n v).reverse

/-- SHA-256 (FIPS 180-4). -/
def sha256 (m : List Byte) : List Byte :=
  let zeros := (119 - m.length % 64) % 64
  let padded := m ++ 0x80 :: List.replicate zeros 0 ++ beBytes 8 (8 * m.length)
  let blocks := (List.range (padded.length / 64)).map fun j => (List.range 16).map fun i => wordAt padded (16 * j + i)
  (blocks.foldl shaBlock ((shaPrimes.take 8).map (rootFraction 2))).flatMap fun w => beBytes 4 w.toNat

/-- HMAC-SHA-256 with a 32-byte key (FIPS 198-1). -/
def hmac256 (key m : List Byte) : List Byte :=
  let k := key ++ List.replicate 32 0
  sha256 (k.map (· ^^^ 0x5c) ++ sha256 (k.map (· ^^^ 0x36) ++ m))

end Sys2Proof.Machine
end

