-- ==== Sys2Proof/Machine/Rings.lean ====
section
/-! DEFINITION. Result rings, whey aggregation and the ledger (chapter 10, R59, R532). -/
namespace Sys2Proof.Machine
open Sys2Proof

/-- Reason codes of R251. -/
def Reason.code : Reason → Nat
  | .busy => 1 | .superseded => 2 | .budgetRefused => 3 | .firmExpired => 4 | .inputAbsent => 5 | .ringFull => 6
  | .configChange => 7 | .integrityStop => 8 | .thermalStop => 9 | .laneFault => 10

/-- The count of a whey record, bytes 5–6 (R249). -/
def Rec.count (r : Rec) : Nat := r.aux.toNat / 256

/-- How many triggers a record represents (R264): one for data and totaliser, its count for whey, none otherwise. -/
def Rec.trigs (r : Rec) : Nat :=
  if r.kind = 0 ∨ r.kind = 4 then 1 else if r.kind = 1 then r.count else 0

/-- Whether a record is of a kind that represents triggers (R261). -/
def Rec.hasSlot (r : Rec) : Bool := r.kind = 0 || r.kind = 1 || r.kind = 4

/-- The 16 bytes of a record as one number, byte 0 least significant (R249). -/
def Rec.encode (r : Rec) : BitVec 128 :=
  let flags : BitVec 8 := r.kind ++ BitVec.ofBool r.ovr ++ BitVec.ofBool r.car ++ BitVec.ofBool r.sup ++
    BitVec.ofBool r.cal ++ BitVec.ofBool r.stl
  let b14 : BitVec 8 := BitVec.ofBool r.hold ++ r.slot
  (r.supply ++ b14 ++ r.word12 ++ r.tick ++ flags ++ r.aux ++ r.val)

/-- The 16 bytes of a record in order. -/
def Rec.bytes (r : Rec) : List Byte := leBytes 16 r.encode.toNat

/-- A record takes HOLD, SUP and SUPPLY of the tick its TICK names (R250). A relayed record brings its own (R471). -/
def State.mark (s : State) (r : Rec) : Rec :=
  if r.kind = 5 then r
  else
    let i := s.info r.tick
    { r with hold := i.hold, sup := i.sup, supply := i.supply, stamped := i.stamped }

/-- SEQ enters bits 11:0 of the kinds that carry it (R254). -/
def Rec.withSeq (r : Rec) (q : BitVec 12) : Rec :=
  if r.kind = 4 ∨ r.kind = 5 then r else { r with word12 := (r.word12 &&& 0xf000) ||| q.setWidth 16 }

/-- CAR compares a totaliser record's epoch with that of the slot's previous one stored in the ring since the sum's last
restart, and with 0 where there is none (R250, R263). -/
def Ring.carOf (g : Ring) (r : Rec) : Rec :=
  if r.kind = 4 then
    let e := tget (fun _ => (0, 0)) g.epochs r.slot.toNat
    { r with car := r.word12 ≠ (if e.1 = r.restarts then e.2 else 0) }
  else r

/-- The epochs a ring keeps for CAR once a record is stored (R250). -/
def Ring.noteEpoch (g : Ring) (r : Rec) : Tbl (Nat × BitVec 16) :=
  if r.kind = 4 then tput (fun _ => (0, 0)) g.epochs r.slot.toNat (r.restarts, r.word12) else g.epochs

/-- A record enters a free place (R253, R254). -/
def Ring.put (g : Ring) (r : Rec) : Ring :=
  { g with free := g.free - 1, unread := g.unread ++ [r.withSeq g.seq], seq := g.seq + 1, epochs := g.noteEpoch r }

/-- What a closed ring keeps of a record (R261). -/
def Rec.counted (r : Rec) : Counted :=
  { tick := r.tick, slot := if r.hasSlot then some r.slot else none, trigs := r.trigs,
    others := if r.hasSlot then 0 else 1, hold := r.hold, sup := r.sup, supply := r.supply, stamped := r.stamped }

/-- A record due to a ring that is closed or has no free place is counted, and the ring is closed (R261). -/
def Ring.count (g : Ring) (r : Rec) : Ring :=
  { g with
    closed := true
    refused := satAdd g.refused r.trigs
    nonTrig := if r.hasSlot then g.nonTrig else satInc g.nonTrig
    counted := g.counted ++ [r.counted] }

/-- Whether a record due to the ring is stored (R261). -/
def Ring.takes (g : Ring) : Bool := !g.closed && g.free ≠ 0

/-- A record due to a ring: stored, or counted (R261, R270). -/
def Ring.due (g : Ring) (r : Rec) : Ring := if g.takes then g.put r else g.count r

/-- The ledger places the triggers of a stored record (R264). -/
def Ledger.place (l : Ledger) (r : Rec) : Ledger :=
  { l with
    data := if r.kind = 0 ∨ r.kind = 4 then l.data + 1 else l.data
    whey := if r.kind = 1 then l.whey + r.count else l.whey }

/-- A whey count whose ring has no capacity is placed in the ledger only (R268). -/
def Ledger.placeOnly (l : Ledger) (n : Nat) : Ledger := { l with whey := l.whey + n, only := l.only + n }

/-- A record is due to ring `g` now: stored with its flags and SEQ, counted by a closed ring, or, where the ring has no
capacity, placed in the ledger only if it is a whey record (R261, R264, R268). -/
def State.recordDue (s : State) (g : Nat) (r0 : Rec) : State :=
  let r := (s.ring g).carOf (s.mark r0)
  if s.acfg (0x2500 + g) 1 = 0 then
    if r.kind = 1 then ({ s with ledger := s.ledger.placeOnly r.count }).event 0x2600 5 (s.ledger.only + r.count) else s
  else if (s.ring g).takes then
    { s.setRing g ((s.ring g).put r) with ledger := s.ledger.place r }
  else s.setRing g ((s.ring g).count r)

/-- Takes the oldest counted records that one RING-FULL record can represent: `t` triggers and `o` others at most; a whey
count may be split (R262). -/
def takeCounted : Nat → Nat → List Counted → List Counted × List Counted
  | _, _, [] => ([], [])
  | t, o, c :: rest =>
    if c.trigs ≤ t ∧ c.others ≤ o then
      let p := takeCounted (t - c.trigs) (o - c.others) rest
      (c :: p.1, p.2)
    else if 0 < t ∧ 0 < c.trigs then ([{ c with trigs := t }], { c with trigs := c.trigs - t } :: rest)
    else ([], c :: rest)

/-- The RING-FULL record for counted records `l`; `now` is the tick whose guard window opens (R262). -/
def ringFullRec (now : TickNo) (info : TickInfo) (l : List Counted) : Rec :=
  match l with
  | [] => { kind := 1, aux := 6, tick := now, hold := info.hold, sup := info.sup, supply := info.supply, stamped := info.stamped }
  | c :: rest =>
    let last := (c :: rest).getLast (by simp)
    let trigs := ((c :: rest).map (·.trigs)).sum
    let others := ((c :: rest).map (·.others)).sum
    let span := min 0xffff (last.tick - c.tick).toNat
    let slot := match (c :: rest).find? (fun e => e.slot.isSome) with
      | some e => e.slot.getD 0
      | none => 0
    { kind := 1, val := BitVec.ofNat 32 (others + 65536 * span), aux := BitVec.ofNat 24 (6 + 256 * trigs), tick := c.tick,
      slot := slot, hold := c.hold, sup := c.sup, supply := c.supply, stamped := c.stamped }

/-- The ring after its RING-FULL record is written: counts fall, and it opens when both reach 0 (R262). -/
def Ring.fullWritten (g : Ring) (r : Rec) (taken rest : List Counted) : Ring :=
  let refused := g.refused - (taken.map (·.trigs)).sum
  let nonTrig := g.nonTrig - (taken.map (·.others)).sum
  { g.put r with
    refused := refused
    nonTrig := nonTrig
    closed := !(refused = 0 && nonTrig = 0)
    counted := if refused = 0 ∧ nonTrig = 0 then [] else rest }

/-- At the opening of the guard window a closed ring with a free place receives one RING-FULL record (R262, R274). -/
def State.ringFull (s : State) (g : Nat) : State :=
  let q := s.ring g
  if q.closed && q.free ≠ 0 then
    let p := takeCounted 0xffff 0xffff q.counted
    let r := ringFullRec s.tick.counter (s.info s.tick.counter) p.1
    { s.setRing g (q.fullWritten r p.1 p.2) with ledger := s.ledger.place r }
  else s

/-- Adds resolved triggers to the aggregate of their slot, reason, tick and ring (R59, R76). -/
def addWhey (w : Whey) : List Whey → List Whey
  | [] => [w]
  | v :: t =>
    if v.slot = w.slot ∧ v.reason = w.reason ∧ v.tick = w.tick ∧ v.ring = w.ring ∧ v.dly = w.dly ∧ v.stl = w.stl then
      { v with count := v.count + w.count } :: t
    else v :: addWhey w t

/-- Resolves `n` triggers of a slot and tick as whey (R58, R59). -/
def State.resolve (s : State) (slot : Nat) (reason : Reason) (tick : TickNo) (n : Nat) (dly : BitVec 4 := 0)
    (stl : Bool := false) (ring : Option Nat := none) : State :=
  if n = 0 then s
  else { s with whey := addWhey { slot, reason, tick, count := n, dly, stl, ring } s.whey }

/-- The order of whey records within one epilogue: ascending slot, then reason; older aggregates first (R91). -/
def wheyBefore (a b : Whey) : Bool :=
  decide (a.slot < b.slot) || (decide (a.slot = b.slot) && decide (a.reason.code < b.reason.code))

/-- Stable insertion. -/
def insertWhey (w : Whey) : List Whey → List Whey
  | [] => [w]
  | v :: t => if wheyBefore v w then v :: insertWhey w t else w :: v :: t

/-- The whey list in the order of R91. -/
def sortWhey : List Whey → List Whey
  | [] => []
  | w :: t => insertWhey w (sortWhey t)

/-- The whey record of `n` triggers of an aggregate (R59, R76). -/
def Whey.record (w : Whey) (n : Nat) : Rec :=
  { kind := 1, aux := BitVec.ofNat 24 (w.reason.code + 256 * n), stl := w.stl, tick := w.tick,
    word12 := w.dly ++ (0 : BitVec 12), slot := BitVec.ofNat 7 w.slot }

/-- Counts of the records an aggregate is written as: 65 535 each, the rest last (R59). -/
def splitCount : Nat → Nat → List Nat
  | 0, _ => []
  | f + 1, n => if n = 0 then [] else if n ≤ 0xffff then [n] else 0xffff :: splitCount f (n - 0xffff)

/-- Writes one aggregate to its ring: the slot's target ring at writing, or the ring the aggregate names (R59, R113). -/
def State.writeWhey (s : State) (w : Whey) : State :=
  let g := w.ring.getD (slotCfg s.active w.slot 10)
  (splitCount (w.count / 0xffff + 1) w.count).foldl (fun acc n => acc.recordDue g (w.record n)) s

/-- The epilogue: RING-FULL records first, then every whey record that waits, in the order of R91 (R262, R532). -/
def State.epilogue (s : State) : State :=
  let s1 := (s.rings.map (·.1)).foldl State.ringFull s
  (sortWhey s.whey).foldl State.writeWhey { s1 with whey := [] }

/-- The rings targeted by enabled slots of a copy, ascending (R34). -/
def targetRings (a : Tbl Nat) : List Nat :=
  let t := (slotsOf a).map (fun n => slotCfg a n 10)
  (List.range 256).filter (fun r => t.contains r)

/-- A tick marker (R34) is due to every ring an enabled slot targets. -/
def State.marker (s : State) (code : Nat) (value : BitVec 32) : State :=
  (targetRings s.active).foldl
    (fun acc r => acc.recordDue r { kind := 2, val := value, aux := BitVec.ofNat 24 code, tick := s.tick.counter }) s

/-- Triggers accepted and not yet placed (R264). -/
def State.inFlight (s : State) : Nat :=
  (s.slots.map (fun e => (if e.2.run.isSome then 1 else 0) + (if e.2.pend.isSome then 1 else 0))).sum
    + (s.whey.map (·.count)).sum + (s.formed.map (·.trigs)).sum + (s.rings.map (fun e => e.2.refused)).sum

/-- Whether a ring's places add up to its capacity (R265). -/
def State.ringHolds (s : State) (r : Nat) : Bool :=
  (s.ring r).free + (s.ring r).outstanding.length + (s.ring r).unread.length = s.acfg (0x2500 + r) 1

/-- The invariants of the ledger (R265) that the model's state can break: the trigger balance and every ring's places. -/
def State.ledgerHolds (s : State) : Bool :=
  s.ledger.accepted = s.ledger.data + s.ledger.whey + s.inFlight &&
    (ringsOf s.active ++ s.rings.map (·.1)).all s.ringHolds

/-- The enabled totaliser slots of a copy (R219). -/
def totSlots (a : Tbl Nat) : List Nat := (slotsOf a).filter (fun n => profCfg a (slotProf a n) 8 = 1)

/-- The snapshot of a boundary, with every totaliser (R265, R275). -/
def State.ledgerSnapshot (s : State) : State :=
  { s with ledger := { s.ledger with
      snapAccepted := s.ledger.accepted
      snapData := s.ledger.data
      snapWhey := s.ledger.whey
      snapFlight := s.inFlight
      snapOnly := s.ledger.only
      snapTick := s.tick.counter
      audit := (totSlots s.active).map (fun n => (n, (s.slot n).sum, (s.slot n).epoch, (s.slot n).carries)) } }

/-- Sum, epoch and carries of the audit slot at the snapshot: 0 where 2600h.10 names no totaliser of it (R275). -/
def State.auditOf (s : State) : Nat × BitVec 16 × Nat := tget (fun _ => (0, 0, 0)) s.ledger.audit (s.lcfg 0x2600 0x10)

/-- A data, totaliser or event record is formed; it waits for its store (R83). -/
def State.form (s : State) (ring : Nat) (r : Rec) : State :=
  { s with formed := s.formed ++ [⟨ring, r, r.trigs⟩] }

/-- Whether a record is an event record of a monitor: source number 0300h + m (R308). -/
def Rec.isMonitor (r : Rec) : Bool := r.kind = 3 && r.aux.toNat / 256 / 16 = 0x30

/-- A monitor event record waits for the boundary in the order of R308: by tick, then monitor, then time. -/
def insertMonitor (f : Formed) : List Formed → List Formed
  | [] => [f]
  | g :: t =>
    if g.r.isMonitor && g.r.tick = f.r.tick && decide (f.r.aux.toNat / 256 < g.r.aux.toNat / 256) then f :: g :: t
    else g :: insertMonitor f t

/-- Whether a record belongs to the tick that the next boundary opens: the event of a plug decision made there (R288), which takes
HOLD, SUP and SUPPLY of that tick (R250). -/
def State.ahead (s : State) (f : Formed) : Bool := f.r.kind = 3 && f.r.tick = s.openNumber.1

/-- The oldest formed record is stored (R83, R255); monitor events wait for the boundary, which writes them in order. -/
def State.storeOldest (s : State) : State :=
  match s.formed.find? (fun f => !f.r.isMonitor && !s.ahead f) with
  | none => s
  | some f => ({ s with formed := s.formed.erase f }).recordDue f.ring f.r

/-- Every record formed for a tick that has opened is stored: none may stay past the boundary (R83). -/
def State.flush (s : State) : State :=
  (s.formed.filter (fun f => !s.ahead f)).foldl (fun acc f => acc.recordDue f.ring f.r)
    { s with formed := s.formed.filter s.ahead }

/-- Records taken by the consumer: unread to outstanding (R257). -/
def Ring.take (g : Ring) (n : Nat) : Ring :=
  { g with outstanding := g.outstanding ++ g.unread.take n, unread := g.unread.drop n }

/-- Credits returned: the n oldest outstanding places become free (R258). -/
def Ring.credit (g : Ring) (n : Nat) : Ring :=
  { g with free := g.free + min n g.outstanding.length, outstanding := g.outstanding.drop n }

/-- A change of the consumer returns the outstanding places to unread (R267). -/
def Ring.reconsume (g : Ring) : Ring := { g with outstanding := [], unread := g.outstanding ++ g.unread }

/-- A layout change at an activation resets the ring (R266). `cap` is the incoming capacity. -/
def Ring.relayout (g : Ring) (cap : Nat) (m : Rec) : Ring :=
  if cap = 0 then {}
  else ({ free := cap, closed := g.closed, refused := g.refused, nonTrig := g.nonTrig, counted := g.counted } : Ring).put m

/-- The reset of ring r at an activation that changes its capacity or base (R266, R268). The active copy is already the
incoming one; `s.tick` is the tick the boundary opens. -/
def State.ringReset (s : State) (r : Nat) : State :=
  let g := s.ring r
  let cap := s.acfg (0x2500 + r) 1
  let places := g.unread.length + g.outstanding.length
  let m := s.mark { kind := 2, val := BitVec.ofNat 32 places, aux := 0x1f, tick := s.tick.counter }
  let s1 := { s.setRing r (g.relayout cap m) with
    ledger := { (if cap = 0 then s.ledger.placeOnly g.refused else s.ledger) with released := s.ledger.released + places } }
  if cap = 0 ∧ g.refused ≠ 0 then s1.event 0x2600 5 s1.ledger.only else s1

/-- The bits of the rings for which a predicate holds (2600h.09, .0A). -/
def State.ringBits (s : State) (p : Nat → Bool) : Nat :=
  ((s.rings.map (·.1)).filter p).foldl (fun acc r => acc + 2 ^ r) 0

/-- Whether ring r is at its watermark (R260). -/
def State.atWatermark (s : State) (r : Nat) : Bool :=
  let w := s.lcfg (0x2500 + r) 8
  decide (w ≠ 0) && decide (w ≤ (s.ring r).unread.length)

end Sys2Proof.Machine
end

