-- ==== Sys2Proof/Machine/Filter.lean ====
section
/-! DEFINITION. The filter chain (chapter 08): requantisation, lane correction, rank filters, sections, totaliser, reported delays. -/
namespace Sys2Proof.Machine
open Sys2Proof

/-- Requantisation of a value in units of 2^−8 code to Q24.8, with whether it saturated (R202, R203). -/
def requant (r : Rat) : Int × Bool :=
  let n := roundEven r
  (clampInt (-(2 ^ 31)) (2 ^ 31 - 1) n, decide (n < -(2 ^ 31)) || decide (2 ^ 31 - 1 < n))

/-- Whether a stage-1 output has its integer part at or beyond an end of the code range (R241). -/
def overRange (x : Int) : Bool := decide (8388607 ≤ x / 256) || decide (x / 256 ≤ -8388608)

/-- The lane code of a Q24.8 value: rounded under R202 and saturated to 24 bits (R203). -/
def laneCode (x : Int) : Int := clampInt (-8388608) 8388607 (roundEven (mkRat x 256))

/-- Factory values of point j of lane l: offset in codes and gain coefficient (R172, R348). -/
def factoryPoint (l j : Nat) : Rat × Rat :=
  (mkRat (Config.factoryOffset l j).toInt 256, mkRat (Config.factoryGain l j).toInt 100000000)

/-- The point j of lane l in force (R172). -/
def State.point (s : State) (l j : Nat) : Rat × Rat := tget (factoryPoint l) (s.lane l).points j

/-- The point a slot uses: its gain code in its reference class, RATIO counting as INT (R172, R348). -/
def slotPoint (a : Tbl Nat) (n : Nat) : Nat :=
  let ref := slotCfg a n 6
  slotCfg a n 5 + 9 * (if ref = 3 then 0 else ref)

/-- Lane correction c' = (c − o)(1 + γ) on a Q24.8 sample (R172, stage 2). -/
def correctCode (p : Rat × Rat) (x : Int) : Int × Bool := requant (((x : Rat) - p.1 * 256) * (1 + p.2))

/-- Insertion into an ascending list. -/
def insertAsc (x : Int) : List Int → List Int
  | [] => [x]
  | y :: t => if x ≤ y then x :: y :: t else y :: insertAsc x t

/-- A list in ascending order. -/
def sortAsc : List Int → List Int
  | [] => []
  | x :: t => insertAsc x (sortAsc t)

/-- Samples a rank code looks at (R210). -/
def rankLen : Nat → Nat
  | 1 => 3 | 2 => 5 | 3 => 7 | 4 => 9 | 5 => 8 | _ => 0

/-- Mean of a list of Q24.8 values, rounded under R202. -/
def meanRound (l : List Int) : Int := roundEven (mkRat l.sum l.length)

/-- The rank filter over the samples held, newest first (R210). -/
def rankOut (code : Nat) (held : List Int) : Int :=
  let t := sortAsc held
  let k := t.length
  if code = 5 then
    if k < 8 then meanRound t else meanRound ((t.drop 2).take 4)
  else if k % 2 = 1 then t.getD (k / 2) 0
  else meanRound [t.getD (k / 2 - 1) 0, t.getD (k / 2) 0]

/-- A coefficient of a 15-byte section: number i of b0, b1, b2, a1, a2, Q2.22 (R211). -/
def coef (sec i : Nat) : Int := signed 24 (sec / 2 ^ (24 * i))

/-- A section's DC start for a first input (R213). -/
def sectionStart (sec : Nat) (x : Int) : Section :=
  let num := coef sec 0 + coef sec 1 + coef sec 2
  let den := 2 ^ 22 + coef sec 3 + coef sec 4
  let y := (requant (mkRat (x * num) 1 / ((den : Int) : Rat))).1
  { x1 := x, x2 := x, y1 := y, y2 := y }

/-- One output of a section, with its saturation (R211). -/
def sectionOut (sec : Nat) (st : Section) (x : Int) : Int × Bool :=
  requant (mkRat (coef sec 0 * x + coef sec 1 * st.x1 + coef sec 2 * st.x2 - coef sec 3 * st.y1 - coef sec 4 * st.y2) (2 ^ 22))

/-- The section state after an output (R211). -/
def Section.shift (st : Section) (x y : Int) : Section := { x1 := x, x2 := st.x1, y1 := y, y2 := st.y1 }

/-- The 15 bytes of the section a profile's code names, with its active bank, as a number (R212, R215). -/
def sectionOf (live : Tbl Nat) (bank : Bool) (code : Nat) : Nat :=
  if code < 0x20 then romResponse code else cfg live (if bank then 0x2382 else 0x2381) (code - 0x40 + 1)

/-- Runs the sections in order over a sample: sections, states (one per section), saturations so far (R211, R213). -/
def runSections : List Nat → List Section → Int → Nat → List Section × Int × Nat
  | [], _, x, n => ([], x, n)
  | sec :: t, sts, x, n =>
    let st := sts.headD (sectionStart sec x)
    let o := sectionOut sec st x
    let rest := runSections t (sts.drop 1) o.1 (n + if o.2 then 1 else 0)
    (st.shift x o.1 :: rest.1, rest.2.1, rest.2.2)

/-- The section codes of a profile, FFh skipped (R212). -/
def profSections (a : Tbl Nat) (p : Nat) : List Nat := ([4, 5, 6, 7].map (profCfg a p)).filter (· ≠ 0xff)

/-- The active bank of a profile: its bit in 2380h.02 (R215). -/
def State.bankOf (s : State) (p : Nat) : Bool := s.sense.bank.getLsbD p

/-- The coefficients a profile runs with. -/
def State.profCoefs (s : State) (p : Nat) : List Nat :=
  (profSections s.active p).map (sectionOf s.live (s.bankOf p))

/-- Stages 4 and 5 on one sample: new history and state, the stage-5 output, saturations (R200, R210, R213). -/
def runFilter (rank : Nat) (secs : List Nat) (f : Filt) (x : Int) : Filt × Int × Nat :=
  let held := (x :: f.hist).take (rankLen rank)
  let y := if rank = 0 then x else rankOut rank held
  let r := runSections secs (f.secs.getD []) y 0
  ({ hist := held, secs := some r.1 }, r.2.1, r.2.2)

/-- Adds saturations to 2300h+p.0A (R203). -/
def State.addSat (s : State) (p n : Nat) : State :=
  { s with sense := { s.sense with
      saturations := tput (fun _ => 0) s.sense.saturations p (satAdd (tget (fun _ => 0) s.sense.saturations p) n) } }

/-- An addition to a totaliser: sum, epoch and carries after it, and whether the epoch wrapped (R219). -/
def totAdd (sum : Nat) (epoch : BitVec 16) (add : Int) : Nat × BitVec 16 × Bool × Bool :=
  let t := (sum : Int) + add
  let carry := t / (2 ^ 56 : Int)
  let e := epoch.toInt + carry
  ((t % (2 ^ 56 : Int)).toNat, BitVec.ofInt 16 e, decide (carry ≠ 0), decide (e < -32768) || decide (32767 < e))

/-- What one settled sample adds (R221): `y` times the elapsed cycles in periods; whole periods each, a part rounded. -/
def totAddend (fresh : Bool) (since : Option Int) (cyc period : Nat) (y : Int) : Int :=
  match since with
  | none => y
  | some v =>
    let e := v + (cyc : Int)
    let p : Int := 8 * (period : Int)
    if fresh then y * (e / p) + roundEven (mkRat (y * (e % p)) p.toNat)
    else if e = p then y else roundEven (mkRat (y * e) p.toNat)

/-- Accumulates a settled stage-5 sample of totaliser slot n at cycle `cyc` (R219, R221). -/
def State.totalise (s : State) (n cyc period : Nat) (y : Int) : State :=
  let r := s.slot n
  let t := totAdd r.sum r.epoch (totAddend r.totFresh r.totSince cyc period y)
  let s1 := s.setSlot n { r with
    sum := t.1, epoch := t.2.1, carries := if t.2.2.1 then satInc r.carries else r.carries,
    ovrNext := r.ovrNext || t.2.2.2, totFresh := false, totSince := some (-(cyc : Int)) }
  if t.2.2.2 then s1.event (0x2180 + n) 0 0 else s1

/-- A slot's sum restarts from zero at an activation (R224, R250); while its lane is stopped nothing is added until it has been
connected (R221). -/
def SlotRt.totRestart (r : SlotRt) (runs : Bool) : SlotRt :=
  { r with sum := 0, epoch := 0, carries := 0, totFresh := true, totSince := if runs then some 0 else none,
           restarts := r.restarts + 1 }

/-- DC group delay of a section in samples; none where it is undefined (R214). -/
def sectionDelay (sec : Nat) : Option Rat :=
  let b := coef sec 0 + coef sec 1 + coef sec 2
  let a := 2 ^ 22 + coef sec 3 + coef sec 4
  if b = 0 then none
  else some (((coef sec 1 + 2 * coef sec 2 : Int) : Rat) / ((b : Int) : Rat) -
    ((coef sec 3 + 2 * coef sec 4 : Int) : Rat) / ((a : Int) : Rat))

/-- Added delay of the rank filter in samples (R210). -/
def rankDelay : Nat → Rat
  | 1 => 1 | 2 => 2 | 3 => 3 | 4 => 4 | 5 => mkRat 7 2 | _ => 0

/-- Rank and section delay of a profile in samples (R209). -/
def State.profDelay (s : State) (p : Nat) : Option Rat :=
  (s.profCoefs p).foldl (fun acc c => match acc, sectionDelay c with
    | some x, some d => some (x + d)
    | _, _ => none) (some (rankDelay (profCfg s.active p 3)))

/-- Minimum-phase delay at DC in ns (R208). -/
def minPhaseNs : Nat → Nat
  | 0 => 21000 | 1 => 80000 | 2 => 310000 | 3 => 1300000 | 4 => 8000000 | _ => 45000000

/-- Preset delay in ns (R208): 3P in linear phase, which the table states in whole ns for every preset. -/
def presetNs (a : Tbl Nat) (p : Nat) : Rat :=
  let pre := profCfg a p 1
  if profCfg a p 2 = 0 then mkRat (3 * outPeriod pre * 1000000) 6144 else (minPhaseNs pre : Rat)

/-- 2300h+p.0B, in ns (R209). The manual does not say how the delay is brought to whole nanoseconds, nor .0C to its 1/256: to the
nearest, ties to even (DESIGN CHOICE, log entry 91). -/
def State.deliveryDelay (s : State) (p : Nat) : Nat :=
  match s.profDelay p with
  | none => 0xffffffff
  | some d =>
    let ns := roundEven (presetNs s.active p + d * mkRat (outPeriod (profCfg s.active p 1) * 1000000) 6144)
    (clampInt 0 0xfffffffe ns).toNat

/-- 2300h+p.0C, in 1/256 sample, as 32 bits (R209). -/
def State.rankSectionDelay (s : State) (p : Nat) : Nat :=
  match s.profDelay p with
  | none => 0x80000000
  | some d => unsigned 32 (clampInt (-0x7fffffff) 0x7fffffff (roundEven (d * 256)))

end Sys2Proof.Machine
end

