-- ==== Sys2Proof/Machine/Result.lean ====
section
/-! DEFINITION. Result formation (chapter 09, R161, R162, R347): from the stage-5 output to VALUE, RAW and OVR. -/
namespace Sys2Proof.Machine
open Sys2Proof

/-- Nominal reference of a slot in volts, binary64; 1 under RATIO, whose values are in reference units (R175). -/
def slotVref (a : Tbl Nat) (n : Nat) : Rat :=
  match slotCfg a n 6 with
  | 0 => mkRat 5 2
  | 1 => rnd64 (mkRat (cfg a 0x2210 3) 1000000)
  | 2 => rnd64 (mkRat (cfg a 0x2210 4) 1000000)
  | _ => 1

/-- The value of one lane code in the unit of v (R354): Vref ÷ (2^23 · 2^g). -/
def slotK (a : Tbl Nat) (n : Nat) : Rat := slotVref a n / ((2 ^ (23 + slotCfg a n 5) : Nat) : Rat)

/-- Step 1 (R347): q = (x − Z ÷ 256) × Sp in binary64, requantised; with saturation. Values in units of 2^−8 code. -/
def stepCal (a : Tbl Nat) (n : Nat) (x : Int) : Int × Bool :=
  requant (f64mul (((x - signed 32 (slotCfg a n 0x14) : Int) : Rat) / 256) (decode32 (slotCfg a n 0x15)) * 256)

/-- Step 2 (R175): v from q. -/
def stepV (a : Tbl Nat) (n : Nat) (q : Int) : Rat :=
  f64mul (mkRat q 256) (slotVref a n) / ((2 ^ (23 + slotCfg a n 5) : Nat) : Rat)

/-- The excitation current in amperes (R161): set current in current mode, the latest reading in voltage mode, 0 with
no source. -/
def State.current (s : State) (a : Tbl Nat) (n : Nat) : Rat :=
  let e := slotCfg a n 7
  if e = 0xff then 0
  else if cfg a (0x2140 + e) 2 = 1 then rnd64 (mkRat (cfg a (0x2140 + e) 4) 1000000000)
  else rnd64 (mkRat (s.source e).currentNa 1000000000)

/-- Whether a kept instant precedes another (R162, R235): an earlier tick, or an earlier cycle of the same tick. -/
def precedes (t : TickNo) (c : Nat) (t' : TickNo) (c' : Nat) : Bool := t ≠ t' || decide (c < c')

/-- The lead value xL (R162): the newest qualifying v of the lead slot whose sample instant precedes. -/
def State.leadValue (s : State) (a : Tbl Nat) (n : Nat) (t : TickNo) (c : Nat) : Option Rat :=
  let e := slotCfg a n 7
  if e = 0xff then none
  else
    let l := cfg a (0x2140 + e) 11
    if l = 0xff then none
    else ((s.slot l).leads.find? (fun r => precedes r.1 r.2.1 t c && !(s.source e).staleLeads.contains r)).map (fun r => r.2.2)

/-- Correction by the stored lead (mode 01h, R161). -/
def State.storedLead (s : State) (a : Tbl Nat) (n : Nat) (v : Rat) : Rat :=
  let rl := decode32 (slotCfg a n 0x13)
  if slotCfg a n 7 = 0xff then v
  else if slotCfg a n 6 = 3 then f64sub v (f64div rl (decode32 (cfg a (0x2140 + slotCfg a n 7) 12)))
  else f64sub v (f64mul (s.current a n) rl)

/-- Step 3 (R161, R162): the corrected v. -/
def State.stepLead (s : State) (a : Tbl Nat) (n : Nat) (t : TickNo) (c : Nat) (v : Rat) : Rat :=
  match slotCfg a n 0x12 with
  | 0 => v
  | 1 => s.storedLead a n v
  | _ =>
    match s.leadValue a n t c with
    | some x => f64sub v x
    | none => s.storedLead a n v

/-- Curve families of 2180h+n.09 (R43, R232). -/
inductive Curve where
  | none | pwl (t : Nat) | thermocouple (c : Nat) | rtd (r0 : Nat) | ntc (set : Nat) | bridge | raw | undefined
  deriving DecidableEq, Repr

/-- The curve a linearisation code names (R43, R232). -/
def curveOf (lin : Nat) : Curve :=
  if lin = 0 then .none
  else if lin < 0x200 then .pwl (lin - 0x100)
  else if lin < 0x208 then .thermocouple (lin - 0x200)
  else if lin = 0x210 then .rtd 100
  else if lin = 0x211 then .rtd 500
  else if lin = 0x212 then .rtd 1000
  else if 0x220 ≤ lin ∧ lin < 0x228 then .ntc (lin - 0x220)
  else if lin = 0x230 then .bridge
  else if lin = 0x2ff then .raw
  else .undefined

/-- Step 4 (R230): the curve input u; none where it is undefined. -/
def State.curveInput (s : State) (a : Tbl Nat) (n : Nat) (v : Rat) : Option Rat :=
  let ratio := decide (slotCfg a n 6 = 3)
  let e := slotCfg a n 7
  let ohms : Option Rat :=
    if ratio then (if e = 0xff then none else some (f64mul v (decode32 (cfg a (0x2140 + e) 12))))
    else if s.current a n = 0 then none else some (f64div v (s.current a n))
  match curveOf (slotCfg a n 9) with
  | .thermocouple _ => if ratio then none else some v
  | .rtd _ => ohms
  | .ntc _ => ohms
  | .bridge =>
    if ratio then some v
    else if e = 0xff then none
    else if cfg a (0x2140 + e) 2 = 0 then some (f64div v (rnd64 (mkRat (cfg a (0x2140 + e) 3) 1000)))
    else none
  | _ => some v

/-- x and y of point j of a PWL table, as values (R237). -/
def pwlX (a : Tbl Nat) (t j : Nat) : Rat := decode32 (cfg a (0x2400 + t) (2 + j))
/-- The y of point j. -/
def pwlY (a : Tbl Nat) (t j : Nat) : Rat := decode32 (cfg a (0x2400 + t) (0x43 + j))

/-- Length of the longest leading run of rising x from point j on, at most `fuel` points (R237). -/
def pwlRun (a : Tbl Nat) (t : Nat) : Nat → Nat → Nat
  | 0, _ => 0
  | 1, _ => 1
  | f + 2, j => if pwlX a t j < pwlX a t (j + 1) then 1 + pwlRun a t (f + 1) (j + 1) else 1

/-- 2400h+t.84: the points in use (R237). -/
def pwlUsed (a : Tbl Nat) (t : Nat) : Nat := pwlRun a t (cfg a (0x2400 + t) 1) 0

/-- Interpolation on the lowest segment that holds u (R238). -/
def pwlEval (a : Tbl Nat) (t : Nat) (u : Rat) : Nat → Nat → Rat
  | 0, j => pwlY a t j
  | f + 1, j =>
    if u ≤ pwlX a t (j + 1) then
      f64add (pwlY a t j)
        (f64div (f64mul (f64sub u (pwlX a t j)) (f64sub (pwlY a t (j + 1)) (pwlY a t j))) (f64sub (pwlX a t (j + 1)) (pwlX a t j)))
    else pwlEval a t u f (j + 1)

/-- A PWL table on any u, with whether u lies beyond an end (R238, R242). -/
def pwlCurve (a : Tbl Nat) (t : Nat) (u : Rat) : Rat × Bool :=
  let n := pwlUsed a t
  if u < pwlX a t 0 then (pwlY a t 0, true)
  else if pwlX a t (n - 1) < u then (pwlY a t (n - 1), true)
  else (pwlEval a t u (n - 1) 0, false)

/-- Coefficients of IEC 60751 (R232). -/
def rtdA : Rat := mkRat 39083 10000000
/-- B. -/
def rtdB : Rat := mkRat (-5775) 10000000000
/-- C, below 0 °C. -/
def rtdC : Rat := mkRat (-4183) 1000000000000000

/-- R(T) ÷ R0 of IEC 60751 in binary64: 1 + A·T + B·T² + C·(T − 100)·T³, the last term below 0 °C only (R229, R232). -/
def rtdRatio (t : Rat) : Rat :=
  let t2 := f64mul t t
  let r := f64add (f64add 1 (f64mul (rnd64 rtdA) t)) (f64mul (rnd64 rtdB) t2)
  if t < 0 then f64add r (f64mul (f64mul (rnd64 rtdC) (f64sub t 100)) (f64mul t2 t)) else r

/-- Its derivative by T in binary64: A + 2·B·T + C·(4·T³ − 300·T²). -/
def rtdSlope (t : Rat) : Rat :=
  let t2 := f64mul t t
  let d := f64add (rnd64 rtdA) (f64mul (f64mul 2 (rnd64 rtdB)) t)
  if t < 0 then f64add d (f64mul (rnd64 rtdC) (f64sub (f64mul 4 (f64mul t2 t)) (f64mul 300 t2))) else d

/-- The closed form of the quadratic in binary64 (R233). -/
def rtdClosed (w : Rat) : Rat :=
  let a := rnd64 rtdA
  let b := rnd64 rtdB
  f64div (f64sub (f64sqrt (f64sub (f64mul a a) (f64mul (f64mul 4 b) (f64sub 1 w)))) a) (f64mul 2 b)

/-- Newton's method in binary64 from T until values differ by less than 10^−6 °C (R233). -/
def rtdNewton (w : Rat) : Nat → Rat → Rat
  | 0, t => t
  | f + 1, t =>
    let t' := f64sub t (f64div (f64sub (rtdRatio t) w) (rtdSlope t))
    if ratAbs (f64sub t' t) < mkRat 1 1000000 then t' else rtdNewton w f t'

/-- A platinum RTD on u ohms, with whether u lies beyond the domain −200 to 850 °C (R232, R233, R242). -/
def rtdCurve (r0 : Nat) (u : Rat) : Rat × Bool :=
  let w := f64div u r0
  if u < f64mul (rtdRatio (-200)) r0 then (-200, true)
  else if f64mul (rtdRatio 850) r0 < u then (850, true)
  else if (r0 : Rat) ≤ u then (rtdClosed w, false)
  else (rtdNewton w 32 (rtdClosed w), false)

/-- A thermocouple on u volts with cold junction `tcj`: the T, and whether either lies beyond the domain (R234, R242). The domain of
totals runs from the least E of the type, which type B has above its lower end. -/
def tcCurve (c : Nat) (tcj u : Rat) : Rat × Bool :=
  let d := tcDomain c
  let cj := if tcj < d.1 then d.1 else if d.2 < tcj then d.2 else tcj
  let total := f64add (f64mul u 1000) (tcEmf c cj)
  let y :=
    if total < tcExact c (tcBottom c) then (d.1, true)
    else if tcExact c d.2 < total then (d.2, true)
    else (tcSolve c total, false)
  (y.1, y.2 || tcj < d.1 || d.2 < tcj)

/-- The coefficients of an NTC set. -/
def ntcCoef (a : Tbl Nat) (set i : Nat) : Nat := cfg a 0x2440 (0x10 + 5 * set + i)

/-- 1/T of a set at u > 0, binary64 (R236). -/
def ntcInv (a : Tbl Nat) (set : Nat) (u : Rat) : Rat :=
  let l := lnOf u
  f64add (f64add (decode32 (ntcCoef a set 0)) (f64mul (decode32 (ntcCoef a set 1)) l))
    (f64mul (decode32 (ntcCoef a set 2)) (f64mul (f64mul l l) l))

/-- Whether a temperature in °C lies between Tmin and Tmax of a set. -/
def ntcWithin (a : Tbl Nat) (set : Nat) (t : Rat) : Bool :=
  decide (decode32 (ntcCoef a set 3) ≤ t) && decide (t ≤ decode32 (ntcCoef a set 4))

/-- T in °C from 1/T (R236). -/
def ntcTemp (inv : Rat) : Rat := f64sub (f64div 1 inv) (rnd64 (mkRat 27315 100))

/-- 0 K in °C. -/
def zeroKelvin : Rat := mkRat (-27315) 100

/-- An NTC set on u ohms; none where the set has no domain (R236, R242). 1/T is continuous in ln u, so wherever u lies the
nearest point of the domain has T = Tmin where 1/T at u is above the domain's values, and Tmax where it is below them; a u at or
below 0 lies where ln u falls without bound. -/
def ntcCurve (a : Tbl Nat) (set : Nat) (u : Rat) : Option (Rat × Bool) :=
  let b := decode32 (ntcCoef a set 1)
  let c := decode32 (ntcCoef a set 2)
  let tmin := decode32 (ntcCoef a set 3)
  let tmax := decode32 (ntcCoef a set 4)
  let inv := ntcInv a set u
  if 0 < u ∧ 0 < inv ∧ ntcWithin a set (ntcTemp inv) = true then some (ntcTemp inv, false)
  else if b = 0 ∧ c = 0 then
    let k := decode32 (ntcCoef a set 0)
    if 0 < k ∧ ntcWithin a set (ntcTemp k) = true then some (ntcTemp k, true) else none
  else if tmax ≤ zeroKelvin then none
  else if u ≤ 0 then
    some (if c < 0 ∨ (c = 0 ∧ b < 0) then (if tmin ≤ zeroKelvin then rnd64 zeroKelvin else tmin) else tmax, true)
  else some (if inv ≤ 0 ∨ tmax < ntcTemp inv then tmax else tmin, true)

/-- The cold junction of R235 with whether it is the die: the newest qualifying VALUE of the slot of 2440h.01, or the die
temperature. -/
def State.coldJunction (s : State) (a : Tbl Nat) (t : TickNo) (c : Nat) : Rat × Bool :=
  let die := rnd64 (mkRat s.sup.die 100)
  let k := cfg a 0x2440 1
  if k = 0xff then (die, true)
  else match (s.slot k).lasts.find? (fun r => precedes r.1 r.2.1 t c) with
    | some r => (decode32 r.2.2.toNat, false)
    | none => (die, true)

/-- Whether a PWL table gives −0 at u: a point −0 beyond an end, or at x0 with the table falling from there (R229, R238). -/
def pwlNegZero (a : Tbl Nat) (t : Nat) (u : Rat) : Bool :=
  let n := pwlUsed a t
  let isNegZero := fun j : Nat => decide (cfg a (0x2400 + t) (0x43 + j) = 2 ^ 31)
  (decide (u < pwlX a t 0) && isNegZero 0) || (decide (pwlX a t (n - 1) < u) && isNegZero (n - 1))
    || (decide (u = pwlX a t 0) && isNegZero 0 && decide (pwlY a t 1 < 0))

/-- Whether the y of step 5 has the sign bit: below 0, or the binary64 −0 that a PWL table or the closed form of an RTD at u = R0
gives (R229). -/
def yNegative (a : Tbl Nat) (n : Nat) (u y : Rat) : Bool :=
  decide (y < 0) || match curveOf (slotCfg a n 9) with
    | .pwl t => pwlNegZero a t u
    | .rtd r0 => decide (u = r0)
    | _ => false

/-- Step 6 (R239): the binary32 of gain × y + offset, with its overflow; `neg` is the sign bit of y. -/
def stepScale (a : Tbl Nat) (n : Nat) (neg : Bool) (y : Rat) : Nat × Bool :=
  let g := slotCfg a n 0x10
  let o := slotCfg a n 0x11
  let p := f64mul (decode32 g) y
  let r := f64add p (decode32 o)
  if overflows32 r then ((if r < 0 then 2 ^ 31 else 0) + 0x7f7fffff, true)
  else if r = 0 then
    ((if p = 0 ∧ decide (2 ^ 31 ≤ g) ≠ neg ∧ o = 2 ^ 31 then 2 ^ 31 else 0), false)
  else (encode32 r, false)

/-- Whether the slot's excitation marks its records OVR (R152). -/
def State.excitationOvr (s : State) (a : Tbl Nat) (n : Nat) : Bool :=
  let e := slotCfg a n 7
  let r := s.source e
  e ≠ 0xff && (r.compl || r.pinFault || (r.clip && slotCfg a n 6 ≠ 3))

/-- Keeps a list of sample instants short: this tick's entries and the newest older one. -/
def keepTick {α : Type} (t : TickNo) : List (TickNo × α) → List (TickNo × α)
  | [] => []
  | e :: l => if e.1 = t then e :: keepTick t l else [e]

/-- What the formation of a data record answers: VALUE, OVR, v, Tcj used, whether u
was undefined, saturations of step 1. -/
structure Formation where
  value  : BitVec 32
  ovr    : Bool
  v      : Rat
  tcj    : Option (Rat × Bool)
  undef  : Bool
  sat    : Bool
  deriving DecidableEq, Repr

/-- The linearised y of u (steps 5), with OVR, and the Tcj used; none where u is undefined (R231). -/
def State.linearise (s : State) (a : Tbl Nat) (n : Nat) (t : TickNo) (c : Nat) (v : Rat) :
    Option (Rat × Bool × Option (Rat × Bool)) :=
  match s.curveInput a n v with
  | none => none
  | some u =>
    match curveOf (slotCfg a n 9) with
    | .pwl k => let r := pwlCurve a k u; some (r.1, r.2, none)
    | .thermocouple k =>
      let cj := s.coldJunction a t c
      let r := tcCurve k cj.1 u
      some (r.1, r.2, some cj)
    | .rtd k => let r := rtdCurve k u; some (r.1, r.2, none)
    | .ntc k => (ntcCurve a k u).map (fun r => (r.1, r.2, none))
    | .bridge => some (f64mul 1000 u, false, none)
    | _ => some (u, false, none)

/-- Steps 1 to 6 for slot n under copy `a` on a stage-5 output, sampled in tick t at cycle c (R228, R240, R243). -/
def State.formation (s : State) (a : Tbl Nat) (n : Nat) (t : TickNo) (c : Nat) (x : Int) : Formation :=
  let q := stepCal a n x
  let v := stepV a n q.1
  if curveOf (slotCfg a n 9) = .raw then
    { value := BitVec.ofInt 32 q.1, ovr := q.2, v := v, tcj := none, undef := false, sat := q.2 }
  else
    let l := s.stepLead a n t c v
    match s.linearise a n t c l with
    | none => { value := 0x7fc00000, ovr := true, v := v, tcj := none, undef := true, sat := q.2 }
    | some y =>
      let r := stepScale a n (yNegative a n ((s.curveInput a n l).getD 0) y.1) y.1
      { value := BitVec.ofNat 32 r.1, ovr := q.2 || y.2.1 || r.2, v := v, tcj := y.2.2, undef := false, sat := q.2 }

/-- Whether slot n is the lead slot of its own excitation source (R162). -/
def isLeadSlot (a : Tbl Nat) (n : Nat) : Bool := slotCfg a n 7 ≠ 0xff && cfg a (0x2140 + slotCfg a n 7) 11 = n

/-- A published lead in ohms (2140h+e.0E, R162). -/
def State.leadOhms (s : State) (a : Tbl Nat) (n : Nat) (x : Rat) : Option (BitVec 32) :=
  if slotCfg a n 6 = 3 then some (BitVec.ofNat 32 (encode32 (f64mul x (decode32 (cfg a (0x2140 + slotCfg a n 7) 12)))))
  else if s.current a n = 0 then none
  else some (BitVec.ofNat 32 (encode32 (f64div x (s.current a n))))

/-- What the formation of a record leaves behind: lead published, Tcj, undefined-input event, saturation, and the slot's
kept v and VALUE (R162, R231, R235). `ovr` is the whole OVR of the record. -/
def State.noteFormation (s : State) (a : Tbl Nat) (n : Nat) (t : TickNo) (c : Nat) (f : Formation) (ovr : Bool) : State :=
  let r := s.slot n
  let first := f.undef && !r.undefSeen
  let lasts := if ovr || curveOf (slotCfg a n 9) = .raw then r.lasts else keepTick t ((t, c, f.value) :: r.lasts)
  let leads := if ovr then r.leads else keepTick t ((t, c, f.v) :: r.leads)
  let s1 := s.setSlot n { r with
    leads := leads, lasts := lasts, undefSeen := r.undefSeen || f.undef, ovrNext := false, fresh := false }
  let s2 := match s.leadOhms a n f.v with
    | some o => if isLeadSlot a n && !ovr then s1.updSource (slotCfg a n 7) (fun q => { q with leadOhm := o }) else s1
    | none => s1
  let s3 := match f.tcj with
    | some cj => { s2 with sense := { s2.sense with tcj := BitVec.ofNat 32 (encode32 cj.1), tcjDie := cj.2 } }
    | none => s2
  let s4 := if f.sat then s3.addSat (slotProf a n) 1 else s3
  if first then
    ({ s4 with sense := { s4.sense with undefined := satInc s4.sense.undefined } }).event 0x2440 4 (satInc s4.sense.undefined)
  else s4

/-- The data record of a formation (R249): RAW is the stage-5 output as a lane code (R203). -/
def dataRecord (n : Nat) (t : TickNo) (x : Int) (f : Formation) (ovr cal stl : Bool) (dly : BitVec 4) : Rec :=
  { kind := 0, val := f.value, aux := BitVec.ofInt 24 (laneCode x), ovr := ovr, cal := cal, stl := stl, tick := t,
    word12 := dly ++ (0 : BitVec 12), slot := BitVec.ofNat 7 n }

end Sys2Proof.Machine
end

