-- ==== Sys2Proof/Machine/Triggers.lean ====
section
/-! DEFINITION. Slots, lanes and triggers (chapters 02 and 03): acceptance, collisions, starts, expiry. -/
namespace Sys2Proof.Machine
open Sys2Proof

/-- The lane of a slot. -/
def slotLane (a : Tbl Nat) (n : Nat) : Nat := slotCfg a n 2

/-- Whether lane l is multiplexed in a copy (R45). -/
def laneMux (a : Tbl Nat) (l : Nat) : Bool := cfg a (0x2200 + l) 1 = 0

/-- The enabled slots of a lane, ascending. -/
def slotsOn (a : Tbl Nat) (l : Nat) : List Nat := (slotsOf a).filter (fun n => slotLane a n = l)

/-- The slot of a dedicated lane (R45). -/
def dedSlot (a : Tbl Nat) (l : Nat) : Option Nat := if laneMux a l then none else (slotsOn a l).head?

/-- The lane that serves the slots of lane l: E where it substitutes; none where that lane is faulted (R181, R189). -/
def State.server (s : State) (l : Nat) : Option Nat :=
  let p := if s.quad.serving = some l then 4 else l
  if (s.lane p).faulted then none else some p

/-- The lane A–D whose slots the physical lane p works for: itself, or for E the lane it overlaps or serves. -/
def State.laneFor (s : State) (p : Nat) : Option Nat :=
  if p < 4 then some p
  else match s.quad.overlap with
    | some o => some o.lane
    | none => s.quad.serving

/-- Whether lanes convert at all (R66): not in a stop, not after DOZE or STANDBY has stopped them. -/
def State.lanesRun (s : State) : Bool := s.tick.on && !s.stopped && !s.pow.lanesOff

/-- Whether slot n is converting on its multiplexed lane. -/
def State.converting (s : State) (n : Nat) : Bool :=
  [0, 1, 2, 3].any fun l => match (s.lane l).conv with
    | some c => c.slot = n
    | none => false

/-- How far a tick lies behind the running one; a trigger of the next tick is the youngest (R48). -/
def State.age (s : State) (t : TickNo) : Nat := (s.tick.counter + 1 - t).toNat

/-- Service class of a slot's trigger that runs (R48, R72): a Guard slot that has completed a conversion of the same tick, which
every boundary forgets, counts as Soft. -/
def State.classOf (s : State) (n : Nat) (t : TickNo) : Nat :=
  let c := slotCfg s.active n 14
  if c = 0 ∧ (s.slot n).guardDone = some t then 2 else c

/-- Whether a conversion of slot n may start on edge e of the running tick (R47). -/
def State.fits (s : State) (n e : Nat) : Bool :=
  decide (12 ≤ e) && decide (8 * e < s.guardOpen) && decide (8 * (e + occupancy (slotPreset s.active n)) ≤ s.tickCycles)

/-- Whether waiting trigger (n, t) is served before (m, u) (R48). -/
def State.ranksBefore (s : State) (n : Nat) (t : TickNo) (m : Nat) (u : TickNo) : Bool :=
  let c := s.classOf n t
  let d := s.classOf m u
  decide (c < d) || (decide (c = d) && (decide (s.age u < s.age t) || (decide (s.age t = s.age u) && decide (n < m))))

/-- The trigger a free multiplexed lane starts on edge e (R48). -/
def State.pick (s : State) (l e : Nat) : Option (Nat × Trig) :=
  ((slotsOn s.active l).filterMap fun n =>
    match (s.slot n).run with
    | some t => if !s.converting n && s.fits n e then some (n, t) else none
    | none => none).foldl (fun best c => match best with
      | none => some c
      | some b => if s.ranksBefore c.1 c.2.tick b.1 b.2.tick then some c else some b) none

/-- Whether an excitation source is in AC-SWAP (R154, R155): lock 0 ticks, 1 slot pairs. -/
def acSource (a : Tbl Nat) (n lock : Nat) : Bool :=
  let e := slotCfg a n 7
  e ≠ 0xff && cfg a (0x2140 + e) 1 = 2 && cfg a (0x2140 + e) 9 = lock

/-- Whether a conversion that uses the source of slot n runs on a lane other than l over edge e (R155); one that ends on this
edge does not (R47). -/
def State.sourceBusy (s : State) (n l e : Nat) : Bool :=
  [0, 1, 2, 3].any fun k => k ≠ l && match (s.lane k).conv with
    | some c => slotCfg s.active c.slot 7 = slotCfg s.active n 7 && decide (e < c.start + occupancy (slotPreset s.active c.slot))
    | none => false

/-- The polarity a conversion of slot n starts with on lane l at edge e (R155): under slot-pair lock the opposite of the slot's
previous conversion, unless another lane uses the source or it is open. -/
def State.startPolarity (s : State) (n l e : Nat) : Bool :=
  let src := s.source (slotCfg s.active n 7)
  if acSource s.active n 1 then
    let want := match (s.slot n).prev with
      | some p => !p.2.1
      | none => true
    if s.sourceBusy n l e || src.isOpen then src.pos else want
  else if acSource s.active n 0 then src.pos
  else true

/-- Whether an input pin of slot n under copy `a` is in fault (R145). -/
def State.inputFaultIn (s : State) (a : Tbl Nat) (n : Nat) : Bool :=
  (s.pin (slotCfg a n 3)).fault ≠ 0 || (decide (slotCfg a n 4 < 40) && (s.pin (slotCfg a n 4)).fault ≠ 0)

/-- Whether an input pin of slot n is in fault (R145). -/
def State.inputFault (s : State) (n : Nat) : Bool := s.inputFaultIn s.active n

/-- Starts the conversion of slot n on lane l at edge e (R49). -/
def State.startConv (s : State) (l n : Nat) (t : Trig) (e : Nat) : State :=
  let pos := s.startPolarity n l e
  let s1 := if acSource s.active n 1 then s.updSource (slotCfg s.active n 7) (fun r => { r with pos := pos }) else s
  s1.updLane l fun r =>
    { r with conv := some { slot := n, trig := t, start := e, pos := pos, byE := s.server l = some 4, ovr := s.inputFault n } }

/-- A free multiplexed lane starts the highest-ranked waiting trigger that fits (R48). -/
def State.startLane (e : Nat) (s : State) (l : Nat) : State :=
  if s.lanesRun && laneMux s.active l && (s.lane l).conv.isNone && (s.server l).isSome then
    match s.pick l e with
    | some c => s.startConv l c.1 c.2 e
    | none => s
  else s

/-- Every free lane starts what it can on edge e. -/
def State.startAll (s : State) (e : Nat) : State := [0, 1, 2, 3].foldl (State.startLane e) s

/-- The first modulator edge at or after a system clock cycle (R49). -/
def edgeAt (cyc : Nat) : Nat := (cyc + 7) / 8

/-- The tick a trigger latched at a cycle of the running tick belongs to (R55). -/
def State.tickOf (s : State) (cyc : Nat) : TickNo := if s.guardOpen ≤ cyc then s.tick.counter + 1 else s.tick.counter

/-- Aborts the running conversion of slot n (R58, R77). -/
def State.abort (s : State) (n : Nat) : State :=
  { s with lanes := tmapVals (fun _ => {}) (fun _ r => match r.conv with
      | some c => if c.slot = n then { r with conv := none } else r
      | none => r) s.lanes }

/-- Whether the other lane of the pair takes over the slots of lane l at the next boundary (R189): the lane itself where E has
faulted while it serves for it, else E where it is about to park on the lane. -/
def State.rescued (s : State) (l : Nat) : Bool :=
  if s.quad.serving = some l then !(s.lane l).faulted else s.quad.parked = some l && !(s.lane 4).faulted

/-- Whether a trigger of slot n that belongs to tick t is lost to a lane fault at its latch (R189, R191): its multiplexed
lane has no server, unless the trigger belongs to the next tick, at whose boundary the other lane takes over. -/
def State.laneLost (s : State) (n : Nat) (t : TickNo) : Bool :=
  laneMux s.active (slotLane s.active n) && (s.server (slotLane s.active n)).isNone &&
    (t = s.tick.counter || !s.rescued (slotLane s.active n))

/-- The reason of a stop in force (R486). -/
def State.stopReason (s : State) : Reason := if s.sup.shutdown then .thermalStop else .integrityStop

/-- A trigger of enabled slot n, belonging to tick t, is accepted (R55): resolved at once by a stop, absence or lane
fault, served, queued, or judged a collision (R58). It starts no conversion yet. -/
def State.accept (s : State) (n : Nat) (t : TickNo) : State :=
  let s1 := { s with ledger := { s.ledger with accepted := s.ledger.accepted + 1 } }
  let r := s.slot n
  if s.stopped then s1.resolve n s.stopReason t 1
  else if r.absent && t = s.tick.counter then s1.resolve n .inputAbsent t 1
  else if s.laneLost n t then s1.resolve n .laneFault t 1
  else match r.run with
    | none => s1.setSlot n { r with run := some ⟨t⟩ }
    | some old =>
      match slotCfg s.active n 13 with
      | 0 => if r.pend.isNone then s1.setSlot n { r with pend := some ⟨t⟩ } else s1.resolve n .busy t 1
      | 1 => ((s1.setSlot n { r with run := some ⟨t⟩ }).abort n).resolve n .superseded old.tick 1
      | _ => s1.resolve n .busy t 1

/-- An event of a slot's trigger source (R54): every k-th is a trigger. In the DOZE drain and in DOZE it is none (R496), and it does
not advance the count of the divider, of which R496 does not speak (DESIGN CHOICE, log entry 69). -/
def State.slotEvent (s : State) (t : TickNo) (n : Nat) : State :=
  if s.pow.noTrig then s
  else
    let r := s.slot n
    let s1 := s.setSlot n { r with events := r.events + 1 }
    if r.events % slotCfg s.active n 12 = 0 then s1.accept n t else s1

/-- The enabled slots with a trigger source among `codes`. -/
def slotsWith (a : Tbl Nat) (codes : List Nat) : List Nat := (slotsOf a).filter (fun n => codes.contains (slotCfg a n 11))

/-- A slot stops running; a pending trigger is served next (R58). -/
def SlotRt.promote (r : SlotRt) : SlotRt := { r with run := r.pend, pend := none }

/-- Service class of a slot's pending trigger (R72): it would start after the running one, so that behind a Guard trigger of its
own tick it counts as Soft. -/
def State.pendClass (s : State) (n : Nat) (t : TickNo) : Nat :=
  let c := s.classOf n t
  if c = 0 ∧ (s.slot n).run = some ⟨t⟩ then 2 else c

/-- Whether a waiting trigger of slot n and class c is resolved at the opening of the guard window, and as what (R74, R75). -/
def State.expiry (s : State) (n c : Nat) (t : TickNo) : Option Reason :=
  if t = s.tick.counter + 1 then none
  else match c with
    | 0 => none
    | 1 => if slotCfg s.active n 15 ≤ (s.tick.counter - t).toNat then some .firmExpired else none
    | _ => some .budgetRefused

/-- Resolves an expired trigger with the fields of R76 and counts it (2003h.14, .15). -/
def State.expire (s : State) (n : Nat) (t : TickNo) (why : Reason) : State :=
  let firm := why = .firmExpired
  ({ s with com := { s.com with
      expired := if firm then satInc s.com.expired else s.com.expired
      refusedN := if firm then s.com.refusedN else satInc s.com.refusedN } }).resolve n why t 1
    (if firm then BitVec.ofNat 4 (slotCfg s.active n 15) else 0) firm

/-- The guard opening judges the waiting and the pending trigger of a multiplexed slot (R74, R75, R88). -/
def State.expireSlot (s : State) (n : Nat) : State :=
  if laneMux s.active (slotLane s.active n) then
    let s1 := match (s.slot n).pend with
      | some p => match s.expiry n (s.pendClass n p.tick) p.tick with
        | some why => (s.updSlot n (fun r => { r with pend := none })).expire n p.tick why
        | none => s
      | none => s
    match (s1.slot n).run with
    | some p =>
      if s.converting n then s1
      else match s1.expiry n (s1.classOf n p.tick) p.tick with
        | some why => (s1.updSlot n SlotRt.promote).expire n p.tick why
        | none => s1
    | none => s1
  else s

/-- Resolves every latched trigger of slot n (running, waiting, pending) for one reason, with the ticks given. -/
def State.resolveSlot (s : State) (n : Nat) (why : Reason) (tickFor : TickNo → TickNo) (ring : Option Nat) : State :=
  let r := s.slot n
  let s1 := s.setSlot n { r with run := none, pend := none }
  let s2 := match r.run with
    | some t => s1.resolve n why (tickFor t.tick) 1 0 false ring
    | none => s1
  match r.pend with
  | some t => s2.resolve n why (tickFor t.tick) 1 0 false ring
  | none => s2

end Sys2Proof.Machine
end

