-- ==== Sys2Proof/Machine/Elements.lean ====
section
/-! DEFINITION. Touch, press and plug (chapter 11). -/
namespace Sys2Proof.Machine
open Sys2Proof

/-- The object index of element i: electrodes 2700h + i, press channel c (i = 32 + c) 2730h + c. -/
def elemIndex (i : Nat) : Nat := if i < 32 then 0x2700 + i else 0x2730 + (i - 32)

/-- The element number of a command's element. -/
def elementNum : Element → Nat
  | .electrode i => i.val
  | .press c => 32 + c.val

/-- Parameters of an element in the active copy: Ton, Toff, debounce, β, action bits, repeat interval, routing. -/
structure ElemPar where
  ton   : Rat
  toff  : Rat
  deb   : Nat
  beta  : Nat
  acts  : Nat
  rep   : Nat
  route : Nat
  deriving DecidableEq, Repr

/-- The parameters of element i (chapter 11, entry blocks). -/
def elemPar (a : Tbl Nat) (i : Nat) : ElemPar :=
  let x := elemIndex i
  if i < 32 then
    { ton := (cfg a x 6 : Rat), toff := (cfg a x 7 : Rat), deb := cfg a x 8, beta := cfg a x 9, acts := cfg a x 10,
      rep := cfg a x 11, route := cfg a x 12 }
  else
    { ton := decode32 (cfg a x 3), toff := decode32 (cfg a x 4), deb := cfg a x 5, beta := cfg a x 6, acts := cfg a x 7,
      rep := cfg a x 8, route := cfg a x 9 }

/-- The bit of an element or plug group in 2720h.09 (R289): electrodes 0–23, press channels 32–47, plug groups 48–55. -/
def setBit64 (v : BitVec 64) (k : Nat) : BitVec 64 := v ||| BitVec.ofNat 64 (2 ^ k)

/-- Counts an event record of tick n against the limit of 32 (R82): whether it is taken, and the counts after it. `next` is the
tick the next boundary opens. -/
def TickSt.takeTouch (t : TickSt) (n next : TickNo) : Bool × TickSt :=
  if n = next then
    if t.touchNext < 32 then (true, { t with touchNext := t.touchNext + 1 }) else (false, t)
  else match t.hist.find? (fun i => i.tick = n) with
    | some i =>
      if i.touchEvents < 32 then
        (true, { t with hist := t.hist.map (fun j => if j.tick = n then { j with touchEvents := j.touchEvents + 1 } else j) })
      else (false, t)
    | none => (true, t)

/-- An event of the touch chapter (R287–R289): its record where routing bit 1 is set, its pending bit where bit 2 is. -/
def State.touchEvent (s : State) (route bit code source : Nat) (value : BitVec 32) (t : TickNo) (slot : Nat) : State :=
  let ring := s.acfg 0x2720 5
  let s1 :=
    if route / 2 % 2 = 0 ∨ ring = 0xffff then s
    else if s.acfg (0x2500 + ring) 1 = 0 then { s with touch := { s.touch with lost := satInc s.touch.lost } }
    else
      let k := s.tick.takeTouch t s.openNumber.1
      if k.1 then
        ({ s with tick := k.2 }).form ring
          { kind := 3, val := value, aux := BitVec.ofNat 24 (code + 256 * source), tick := t, slot := BitVec.ofNat 7 slot }
      else { s with touch := { s.touch with lost := satInc s.touch.lost } }
  if route / 4 % 2 = 0 then s1 else { s1 with touch := { s1.touch with pending := setBit64 s1.touch.pending bit } }

/-- The event of an element: VALUE is δ, an INTEGER32 in fF or a REAL32 (R288). -/
def State.elemEvent (s : State) (i code : Nat) (t : TickNo) (d : Rat) : State :=
  let v := if i < 32 then BitVec.ofInt 32 (roundEven d) else BitVec.ofNat 32 (encode32 d)
  s.touchEvent (elemPar s.active i).route i code (if i < 32 then i else 0x100 + (i - 32)) v t
    (if i < 32 then 0 else s.acfg (elemIndex i) 2)

/-- The baseline an element starts with, and whether one is stored (R285). -/
def State.startBaseline (s : State) (i : Nat) : Rat × Bool :=
  let x := elemIndex i
  if i < 32 then
    let b := s.lcfg x 15
    if b = 0xffffffff then ((s.elem i).b, false)
    else ((b : Rat) + decode32 (s.acfg x 13) * mkRat (s.sup.die - signed 16 (s.lcfg x 16)) 100, true)
  else (decode32 (s.lcfg x 10), s.lcfg x 11 = 1)

/-- The tracked baseline of R282: to 2 fF for an electrode, in binary64 and held as REAL32 for a press channel. -/
def track (i : Nat) (b m : Rat) (beta : Nat) : Rat :=
  let k : Rat := ((2 ^ beta : Nat) : Rat)
  if i < 32 then (roundEven ((b + (m - b) / k) / 2) : Rat) * 2 else rnd32 (f64add b (f64div (f64sub m b) k))

/-- A state is entered: the timer starts at the next boundary, counts restart (R281, R284). -/
def ElemRt.enter (r : ElemRt) (st : ElemState) : ElemRt :=
  { r with state := st, count := 0, timerOn := false, timer := 0 }

/-- What an evaluation does to an element, with the event code it writes and that event's δ (R281, R282, R285). -/
def ElemRt.judge (r0 : ElemRt) (i : Nat) (p : ElemPar) (b0 : Rat × Bool) (m : Rat) : ElemRt × Option Nat :=
  if !r0.started then
    let d := m - b0.1
    let r := { r0 with started := true, m := m, b := b0.1, d := d }
    if !b0.2 ∨ p.ton ≤ d then ({ r.enter .startHeld with peak := m, q := m }, some 0x33)
    else (r.enter .idle, none)
  else
    let d := m - r0.b
    let r := { r0 with m := m, d := d }
    match r.state with
    | .idle =>
      if p.ton ≤ d then
        if p.deb ≤ r.count + 1 then ({ r.enter .pressed with touchDue := true }, some 0x30)
        else ({ r with count := r.count + 1 }, none)
      else if d < p.toff then
        let b := track i r.b m p.beta
        ({ r with count := 0, b := b, d := m - b }, none)
      else ({ r with count := 0 }, none)
    | .startHeld =>
      let peak := if r.peak < m then m else r.peak
      let far := decide (p.toff < ratAbs (m - r.q))
      let q := if far then m else r.q
      let on := if far then false else r.timerOn
      let count := if m ≤ peak - p.ton then r.count + 1 else 0
      if p.deb ≤ count then ({ r.enter .idle with b := m, d := 0, peak := peak, q := q }, some 0x35)
      else ({ r with peak := peak, q := q, timerOn := on, timer := if far then 0 else r.timer, count := count }, none)
    | _ =>
      if d < p.toff then
        if p.deb ≤ r.count + 1 then ({ r.enter .idle with releaseDue := true, touchTick := none }, some 0x31)
        else ({ r with count := r.count + 1 }, none)
      else ({ r with count := 0 }, none)

/-- One evaluation of element i with measurement m, in the tick it belongs to (R278, R279). -/
def State.evaluate (s : State) (i : Nat) (m : Rat) (t : TickNo) : State :=
  let p := elemPar s.active i
  let k := (s.elem i).judge i p (s.startBaseline i) m
  let s1 := s.updElem i (fun _ => k.1)
  match k.2 with
  | some code => s1.elemEvent i code t (m - (if (s.elem i).started then (s.elem i).b else k.1.b))
  | none => s1

/-- Whether pin .02 or .04 of electrode i is in fault (R297); at once from its entry (R144). -/
def State.electrodeFault (s : State) (i : Nat) : Bool :=
  let f := fun x => decide (x < 40) && (s.pin x).fault ≠ 0
  f (s.acfg (0x2700 + i) 2) || f (s.acfg (0x2700 + i) 4)

/-- The enabled electrodes, ascending. -/
def electrodesOn (a : Tbl Nat) : List Nat := listedOn a 0x2700 24

/-- Whether the touch engine scans in this power state (R277, R296). -/
def State.scanAllowed (s : State) : Bool :=
  s.tick.on && s.acfg 0x2720 1 ≠ 0 && s.pow.state ≠ .standby

/-- SCAN_START (R277): at t0 of a tick n with n mod S = 0 in which no scan runs. -/
def State.scanStart (s : State) : State :=
  let els := (electrodesOn s.active).filter (fun i => !s.electrodeFault i)
  if s.scanAllowed && s.touch.scan.isNone && s.tick.part = .prologue &&
      decide (s.tick.counter.toNat % s.acfg 0x2720 2 = 0) && !els.isEmpty then
    { s with touch := { s.touch with scan := some (s.tick.counter, els), dropped := [] } }
  else s

/-- Duration of one electrode's measurement in µs (R277). -/
def measureUs (a : Tbl Nat) (i : Nat) : Nat := 32 * 2 ^ cfg a (0x2700 + i) 5 + 8

/-- A capacitance as the engine reads it, in fF: to a resolution, and at most 200 000 (R276, R296). -/
def readCap (step c : Nat) : Int := if 200000 < c then 200000 else step * roundEven (mkRat c step)

/-- One measured electrode at the end of a scan: 2 fF resolution, over range above 200 000 fF (R276). One whose pin has been in
fault during the scan is measured again from the next scan on (R297). -/
def State.measured (t : TickNo) (s : State) (im : Nat × Nat) : State :=
  if s.electrodeFault im.1 || s.touch.dropped.contains im.1 || !(electrodesOn s.active).contains im.1 then s
  else
    let m : Int := readCap 2 im.2
    (s.updElem im.1 (fun r => { r with overRng := decide (200000 < im.2) })).evaluate im.1 (m : Rat) t

/-- SCAN_END (R278): every measured electrode is evaluated, in ascending order, in the tick the scan started. A clock fault gates the
touch engine, so no scan ends during one (R132). -/
def State.scanEnd (s : State) (ms : List Nat) : State :=
  match s.touch.scan with
  | none => s
  | some (t, els) =>
    if s.clockFault then s
    else (els.zip ms).foldl (State.measured t)
      { s with touch := { s.touch with
          scan := none
          lastUs := (els.map (measureUs s.active)).sum
          scans := satInc s.touch.scans } }

/-- Cycles at which a limit of `sec` seconds is reached (R284). -/
def limitCycles (sec : Nat) : Nat := sec * 6144000

/-- Whether the rest limit of an element in PRESSED is reached by its timer (R284). -/
def State.restDue (s : State) (r : ElemRt) : Bool :=
  r.state = .pressed && r.timerOn && decide (limitCycles (s.acfg 0x2720 4) ≤ r.timer)

/-- Whether the start limit of an element in START-HELD is reached by its timer (R284). -/
def State.startDue (s : State) (r : ElemRt) : Bool :=
  r.state = .startHeld && r.timerOn && decide (limitCycles (s.acfg 0x2720 3) ≤ r.timer)

/-- The trigger source code of an element (R53). -/
def elemSource (i : Nat) : Nat := if i < 32 then 0x20 + i else 0x40 + (i - 32)

/-- An action of element i is latched at t0: one event of its trigger source, where routing bit 0 is set (R283, R287). -/
def State.elemAction (s : State) (i : Nat) : State :=
  if (elemPar s.active i).route % 2 = 0 then s
  else (slotsWith s.active [elemSource i]).foldl (State.slotEvent · s.tick.counter) s

/-- Whether element i is an electrode with a pin in fault, which produces no repeat (R297). -/
def State.muted (s : State) (i : Nat) : Bool := decide (i < 32) && s.electrodeFault i

/-- REPEAT (R283), sent before the boundary at which a repeat interval ends: the repeat action of an element PRESSED since its
touch action falls due at the t0 that follows, which latches it. -/
def State.repeatAction (s : State) (i : Nat) : State :=
  let r := s.elem i
  if r.state = .pressed ∧ r.touchTick.isSome = true then s.updElem i (fun r => { r with repeatDue := true }) else s

/-- Whether an element's timer holds at a boundary: pin fault, or a press channel in DOZE (R296, R297). -/
def State.timerHolds (s : State) (i : Nat) : Bool :=
  if i < 32 then s.electrodeFault i else s.pow.state = .doze

/-- The boundary advances an element's timer by N cycles, starting it at 0 (R284). -/
def ElemRt.advance (r : ElemRt) (n : Nat) : ElemRt :=
  if r.started then { r with timerOn := true, timer := if r.timerOn then r.timer + n else 0 } else r

/-- Element i as the next boundary finds it: its timer advanced, unless it holds (R284, R296, R297). -/
def State.elemNext (s : State) (i : Nat) : ElemRt :=
  if s.timerHolds i then s.elem i else (s.elem i).advance (tickN s.active)

/-- REST_LIMIT (R284), sent before the boundary at which a PRESSED element's timer reaches the rest limit: that boundary makes it
STUCK. -/
def State.restLimit (s : State) (i : Nat) : State :=
  if s.restDue (s.elemNext i) then s.updElem i (fun r => { r with limitDue := true }) else s

/-- START_LIMIT (R284), sent before the boundary at which a START-HELD element's timer reaches the start limit: that boundary makes
it IDLE. -/
def State.startLimit (s : State) (i : Nat) : State :=
  if s.startDue (s.elemNext i) then s.updElem i (fun r => { r with limitDue := true }) else s

/-- A limit reached at the boundary just reached (R284): PRESSED becomes STUCK, START-HELD becomes IDLE with b = the latest m. -/
def State.elemLimit (s : State) (i : Nat) : State :=
  let r := s.elem i
  if r.limitDue then
    let s1 := s.updElem i (fun r => { r with limitDue := false })
    if s.restDue r then
      (s1.updElem i (fun r => r.enter .stuck)).elemEvent i 0x32 s.tick.counter r.d
    else if s.startDue r then
      (s1.updElem i (fun r => { r.enter .idle with b := r.m, d := 0 })).elemEvent i 0x34 s.tick.counter r.d
    else s1
  else s

/-- An element at t0, before the deliveries and the evaluations of the tick opened (R283, R284, R298): its timer advances, the
actions of the tick that has ended come due at this t0, and a limit is judged. -/
def State.elemOpen (s : State) (i : Nat) : State :=
  let r := s.elemNext i
  (s.updElem i (fun _ => { r with
    touchDue := false, releaseDue := false, touchNow := r.touchDue, releaseNow := r.releaseDue })).elemLimit i

/-- Whether the repeat interval ends at t0 of tick t (R283). -/
def repeatAt (r : ElemRt) (rep : Nat) (t : TickNo) : Bool :=
  match r.touchTick with
  | some e => r.state = .pressed && t ≠ e && decide ((t - e).toNat % rep = 0)
  | none => false

/-- Whether t0 of the running tick latches a repeat action: one is due, the element is PRESSED, not STUCK by its rest limit, and no
pin of the electrode is in fault (R283, R284, R297). -/
def State.repeats (s : State) (i : Nat) (r : ElemRt) : Bool :=
  let p := elemPar s.active i
  r.repeatDue && p.acts / 4 % 2 = 1 && repeatAt r p.rep s.tick.counter && !s.muted i

/-- At t0 of the running tick, after the limits: touch, release and repeat actions are latched, those of one t0 as one event
(R56, R283, R284). -/
def State.elemBoundary (s : State) (i : Nat) : State :=
  let r := s.elem i
  let p := elemPar s.active i
  let act := (r.touchNow && p.acts % 2 = 1) || (r.releaseNow && p.acts / 2 % 2 = 1) || s.repeats i r
  let touchTick := if r.touchNow ∧ r.state = .pressed then some s.tick.counter else r.touchTick
  let s1 := s.updElem i (fun _ => { r with
    touchNow := false, releaseNow := false, repeatDue := false, touchTick := touchTick })
  if act then s1.elemAction i else s1

/-- The enabled elements, ascending. -/
def elementsOn (a : Tbl Nat) : List Nat := electrodesOn a ++ (listedOn a 0x2730 16).map (32 + ·)

/-- The electrodes a wake scan measures, ascending: those with their wake bit, and no pin in fault (R296, R297). -/
def State.wakeElectrodes (s : State) : List Nat :=
  (electrodesOn s.active).filter (fun i => s.acfg (0x2700 + i) 12 / 8 % 2 = 1 && !s.electrodeFault i)

/-- WAKE_SCAN (R296): consecutive scans at 50 fF resolution with δ ≥ .0E are counted per electrode measured. -/
def State.wakeScan (s : State) (ms : List Nat) : State :=
  if s.pow.state = .standby ∧ s.acfg 0x2720 1 = 2 then
    (s.wakeElectrodes.zip ms).foldl
      (fun acc im =>
        let m : Int := readCap 50 im.2
        acc.updElem im.1 (fun r =>
          { r with wakeHits := if ((acc.acfg (0x2700 + im.1) 14 : Nat) : Rat) ≤ (m : Rat) - r.b then r.wakeHits + 1 else 0 })) s
  else s

/-- A data record of slot n is one evaluation of every enabled press channel on it, unless its VALUE is NaN (R279). -/
def State.pressEvaluate (s : State) (n : Nat) (t : TickNo) (value : BitVec 32) (raw undef : Bool) : State :=
  if undef then s
  else
    let m : Rat := if raw then (value.toInt : Rat) else decode32 value.toNat
    ((listedOn s.active 0x2730 16).filter (fun c => s.acfg (0x2730 + c) 2 = n)).foldl (fun acc c => acc.evaluate (32 + c) m t) s

/-- The class of a detect voltage (R290). -/
def plugClass (a : Tbl Nat) (g mv : Nat) : PlugState :=
  if mv < cfg a (0x2740 + g) 4 then .shorted else if cfg a (0x2740 + g) 5 < mv then .unplugged else .plugged

/-- The event code of entering a state (R291). -/
def PlugState.code : PlugState → Nat
  | .unplugged => 0x38 | .plugged => 0x39 | .shorted => 0x3a | .faulted => 0x3b

/-- The event of a plug group: VALUE is the detect voltage (R288). -/
def State.plugEvent (s : State) (g code : Nat) (t : TickNo) (mv : BitVec 16) : State :=
  s.touchEvent (s.acfg (0x2740 + g) 9) (48 + g) code (0x200 + g) (mv.setWidth 32) t 0

/-- What a sample of class k does to a group: its run of equal samples, and the change of state at the d-th (R291, R292). -/
def PlugRt.sample (r : PlugRt) (k : PlugState) (mv : BitVec 16) (d hold : Nat) : PlugRt × Bool :=
  let run := if k = r.state then 0 else if k = r.cls then r.run + 1 else 1
  if k ≠ r.state ∧ d ≤ run then
    ({ r with state := k, cls := k, run := 0, mv := mv, changes := satInc r.changes,
              hold := if k = .plugged then some (hold + 1) else none }, true)
  else ({ r with cls := k, run := run, mv := mv }, false)

/-- The enabled plug groups, ascending. -/
def plugsOn (a : Tbl Nat) : List Nat := listedOn a 0x2740 8

/-- The tick a plug decision belongs to (R288): that of the boundary it is made at, which the next TICK_BOUNDARY opens. The manual
does not say which tick a decision in STANDBY carries, where no tick runs: the last one, whose number 2001h.02 still reads
(DESIGN CHOICE, log entry 86). -/
def State.decidingTick (s : State) : TickNo := if s.pow.state = .standby then s.tick.counter else s.openNumber.1

/-- PLUG_SAMPLE (R290, R291): the sample of a boundary, taken before that boundary's other effects, where one can occur (R132); in
STANDBY a sample of the always-on clock. -/
def State.plugSample (s : State) (g : Nat) (mv : BitVec 16) : State :=
  if (s.boundaryDue || s.pow.state = .standby) && (plugsOn s.active).contains g && (s.pin (s.acfg (0x2740 + g) 2)).fault = 0 then
    let k := (s.plug g).sample (plugClass s.active g mv.toNat) mv (s.acfg (0x2740 + g) 6) (s.acfg (0x2740 + g) 8)
    let s1 := s.updPlug g (fun _ => { k.1 with moved := k.1.moved || (k.2 && s.pow.state = .standby) })
    if k.2 then s1.plugEvent g k.1.state.code s.decidingTick mv else s1
  else s

/-- SETTLE_HOLD_END (R292): at the boundary H ticks after PLUGGED the hold ends and SETTLED is written. -/
def State.settleHoldEnd (s : State) (g : Nat) : State :=
  if s.boundaryDue && (s.plug g).hold = some 1 then
    (s.updPlug g (fun r => { r with hold := none })).plugEvent g 0x3c s.decidingTick (s.plug g).mv
  else s

/-- At t0: the hold counts down to the boundary that ends it, and a group whose pin is in fault becomes FAULTED (R291). -/
def State.plugBoundary (s : State) (g : Nat) : State :=
  let r := s.plug g
  if (s.pin (s.acfg (0x2740 + g) 2)).fault ≠ 0 ∧ r.state ≠ .faulted then
    (s.updPlug g (fun r => { r with state := .faulted, cls := .faulted, run := 0, hold := none,
                                    changes := satInc r.changes })).plugEvent g 0x3b s.tick.counter r.mv
  else s.updPlug g (fun r => { r with hold := r.hold.map (fun h => max (h - 1) 1) })

/-- Whether slot n is absent (R292): a group that serves it is not PLUGGED or in its settle hold. -/
def State.absentNow (s : State) (n : Nat) : Bool :=
  (plugsOn s.active).any fun g =>
    s.acfg (0x2740 + g) 7 / 2 ^ n % 2 = 1 && (decide ((s.plug g).state ≠ .plugged) || (s.plug g).hold.isSome)

/-- The filter history of a slot is emptied, on the lanes that measure for it too, both of an overlap (R210, R295). -/
def State.emptyFilter (s : State) (n : Nat) : State :=
  let s1 := s.updSlot n (fun r => { r with filt := {} })
  { s1 with lanes := tmapVals (fun _ => {}) (fun l r =>
      if (s.laneFor l).bind (dedSlot s.active) = some n then { r with filt := {} } else r) s1.lanes }

/-- At t0 absence is decided for slot n: waiting triggers of an absent slot are resolved INPUT-ABSENT, and a slot that
stops being absent starts with an empty filter (R293, R295). -/
def State.absenceBoundary (s : State) (n : Nat) : State :=
  let now := s.absentNow n
  let was := (s.slot n).absent
  let s1 := s.updSlot n (fun r => { r with absent := now })
  if now then s1.resolveSlot n .inputAbsent id none
  else if was then s1.emptyFilter n else s1

/-- SCAN_START. -/
def execScanStart (s : State) : Host.Outcome State Fault Refusal := s.run State.scanStart
/-- SCAN_END. -/
def execScanEnd (ms : List Nat) (s : State) : Host.Outcome State Fault Refusal := s.run (·.scanEnd ms)
/-- REPEAT. -/
def execRepeatAction (el : Element) (s : State) : Host.Outcome State Fault Refusal := s.run (·.repeatAction (elementNum el))
/-- REST_LIMIT. -/
def execRestLimit (el : Element) (s : State) : Host.Outcome State Fault Refusal := s.run (·.restLimit (elementNum el))
/-- START_LIMIT. -/
def execStartLimit (el : Element) (s : State) : Host.Outcome State Fault Refusal := s.run (·.startLimit (elementNum el))
/-- WAKE_SCAN. -/
def execWakeScan (ms : List Nat) (s : State) : Host.Outcome State Fault Refusal := s.run (·.wakeScan ms)
/-- PLUG_SAMPLE. -/
def execPlugSample (g : Fin 8) (mv : BitVec 16) (s : State) : Host.Outcome State Fault Refusal := s.run (·.plugSample g mv)
/-- SETTLE_HOLD_END. -/
def execSettleHoldEnd (g : Fin 8) (s : State) : Host.Outcome State Fault Refusal := s.run (·.settleHoldEnd g)

end Sys2Proof.Machine
end

