-- ==== Sys2Proof/Machine/Calib.lean ====
section
/-! DEFINITION. System calibration and its verdicts (chapter 14). -/
namespace Sys2Proof.Machine
open Sys2Proof

/-- Result codes of R353. -/
inductive Verdict where
  | accepted | unstable | implausible | noExcitation | isOpen | aborted
  deriving DecidableEq, Repr

/-- The code of a result (R353). -/
def Verdict.code : Verdict → Nat
  | .accepted => 1 | .unstable => 2 | .implausible => 3 | .noExcitation => 4 | .isOpen => 5 | .aborted => 6

/-- Whether a system calibration runs (R352). -/
def CalSt.system (c : CalSt) : Bool := c.run = some .zero || c.run = some .span

/-- 2A00h.07 and 2004h.02. -/
def CalSt.stateCode (c : CalSt) : Nat := if c.run = some .self then 1 else if c.system then 2 else 0

/-- Whether a system calibration of slot n runs. -/
def State.calibrating (s : State) (n : Nat) : Bool := s.cal.system && s.cal.slot = n

/-- Peak-to-peak of the values collected, in codes (R353). -/
def peakToPeak (xs : List Int) : Rat :=
  match xs with
  | [] => 0
  | x :: t => mkRat (t.foldl max x - t.foldl min x) 256

/-- Mean of the values collected, in codes (R354). -/
def meanCodes (xs : List Int) : Rat := if xs.isEmpty then 0 else mkRat xs.sum (256 * xs.length)

/-- Expected codes e ÷ K (R354). -/
def expectedCodes (a : Tbl Nat) (n e : Nat) : Rat := decode32 e / slotK a n

/-- The zero coefficient computed from the mean (R354). -/
def zeroCoef (a : Tbl Nat) (n e : Nat) (mean : Rat) : Int :=
  clampInt (-0x80000000) 0x7fffffff (roundEven (256 * (mean - expectedCodes a n e / decode32 (slotCfg a n 0x15))))

/-- The mean less the zero in force (R354). -/
def zeroed (a : Tbl Nat) (n : Nat) (mean : Rat) : Rat := mean - mkRat (signed 32 (slotCfg a n 0x14)) 256

/-- The plausibility limits of R355. -/
def plausible (a : Tbl Nat) (n e : Nat) (span : Bool) (mean : Rat) : Bool :=
  let x := expectedCodes a n e
  if span then decide (ratAbs (zeroed a n mean - x) ≤ ratAbs x / 2)
  else decide (ratAbs (mean - x) ≤ mkRat (2 * 2 ^ 23) 100)

/-- The coefficient an ACCEPTED verdict leaves for the result boundary (R354, R357): slot, whether span, encoding. -/
def State.newCoef (s : State) : Nat × Bool × Nat :=
  let c : CalSt := s.cal
  let mean := meanCodes c.xs
  if c.run = some CalKind.span then
    (c.slot, true, encode32 (expectedCodes s.active c.slot c.expected.toNat / zeroed s.active c.slot mean))
  else (c.slot, false, unsigned 32 (zeroCoef s.active c.slot c.expected.toNat mean))

/-- What a verdict writes to 2A00h (R356). A one-shot that ends holds the rotation to the next boundary (R361). -/
def State.verdictCal (s : State) (v : Verdict) (cause : Nat) : CalSt :=
  let c : CalSt := s.cal
  { c with
    run := none
    result := BitVec.ofNat 8 v.code
    cause := if v = Verdict.aborted then BitVec.ofNat 8 cause else 0
    pp := BitVec.ofNat 32 (encode32 (peakToPeak c.xs * 1000000 / ((2 ^ 23 : Nat) : Rat)))
    mean := BitVec.ofNat 32 (if c.system then encode32 (slotK s.active c.slot * meanCodes c.xs) else 0)
    tick := s.tick.counter
    selfEnd := c.selfEnd || c.run = some CalKind.self
    coef := if v = Verdict.accepted ∧ c.system = true then some s.newCoef else c.coef }

/-- Every verdict (R356): 2A00h, the slot's status, an event. The calibration is over. -/
def State.verdict (s : State) (v : Verdict) (cause : Nat) : State :=
  let kind := if s.cal.run = some CalKind.span then 16 else 0
  let s1 := { s with
    cal := s.verdictCal v cause
    slots := if s.cal.system then
        tput (fun _ => {}) s.slots s.cal.slot { s.slot s.cal.slot with
          calStatus := ((s.slot s.cal.slot).calStatus &&& 0xc0) ||| BitVec.ofNat 8 (v.code + kind) }
      else s.slots }
  s1.event 0x2a00 8 v.code

/-- A stop, DOZE, STANDBY or a clock fault ends a running calibration (R353, R364). -/
def State.calLanesStopped (s : State) : State := if s.cal.run.isSome then s.verdict .aborted 3 else s

/-- A pin fault, absence or INPUT-ABSENT record of the calibrated slot ends it as REJECTED-OPEN (R353). -/
def State.calOpen (s : State) (n : Nat) : State := if s.calibrating n then s.verdict .isOpen 0 else s

/-- A LANE-FAULT whey record of the calibrated slot ends it (R353). -/
def State.calLaneFault (s : State) (n : Nat) : State := if s.calibrating n then s.verdict .aborted 5 else s

/-- Triggers of the calibrated slot resolved at a latch as LANE-FAULT or INPUT-ABSENT end the calibration (R353). -/
def State.calWhey (s : State) : State :=
  if s.cal.system then
    if s.whey.any (fun w => w.slot = s.cal.slot && w.reason = Reason.laneFault) then s.verdict .aborted 5
    else if s.whey.any (fun w => w.slot = s.cal.slot && w.reason = Reason.inputAbsent) then s.verdict .isOpen 0
    else s
  else s

/-- Whether the excitation of the calibrated slot fails the check of R353 at a collected record. -/
def State.calExcitation (s : State) (n : Nat) : Bool :=
  let e := slotCfg s.active n 7
  let set : Int := s.acfg (0x2140 + e) 4
  let got : Int := (s.source e).currentNa
  s.excitationOvr s.active n ||
    (decide (e ≠ 0xff) && decide (s.acfg (0x2140 + e) 2 = 1) && decide (set < 10 * (got - set).natAbs))

/-- A data record of the calibrated slot is collected and judged (R352, R353). -/
def State.calCollect (s : State) (n : Nat) (x : Int) (ovr : Bool) : State :=
  if s.calibrating n && s.cal.started then
    let s1 := { s with cal := { s.cal with xs := s.cal.xs ++ [x] } }
    let c := s1.cal
    let span := decide (c.run = some CalKind.span)
    if s.calExcitation n then s1.verdict .noExcitation 0
    else if ovr then s1.verdict .implausible 0
    else if c.xs.length < 64 then s1
    else if !plausible s.active n c.expected.toNat span (meanCodes c.xs) then s1.verdict .implausible 0
    else if (c.window : Rat) * mkRat (2 ^ 23) 1000000 < peakToPeak c.xs then s1.verdict .unstable 0
    else s1.verdict .accepted 0
  else s

/-- The result boundary (R357): the coefficient enters the active copy and, unless it holds a change, the shadow copy. -/
def State.applyCoef (s : State) (k : Nat × Bool × Nat) : State :=
  let i := key (0x2180 + k.1) (if k.2.1 then 0x15 else 0x14)
  let old := tget dflt s.active i
  let held := decide (tget dflt s.shadow i ≠ old)
  let upd := fun (d : Tbl Nat) => if tget dflt d i = old then tput dflt d i k.2.2 else d
  { s with
    active := tput dflt s.active i k.2.2
    shadow := upd s.shadow
    com := { s.com with frozen := s.com.frozen.map upd }
    cal := { s.cal with coef := none }
    slots := tput (fun _ => {}) s.slots k.1 { s.slot k.1 with
      calStatus := ((s.slot k.1).calStatus &&& 0x1f) ||| (if held then 0xc0 else 0x80) } }

/-- The boundary starts a requested calibration and runs its timeout down (R350, R352), and ends the hold of a one-shot that has
ended (R361). -/
def CalSt.boundary (c : CalSt) : CalSt :=
  let c1 := { c with selfEnd := false }
  if c.run.isSome then { c1 with started := true, left := c.left - 1 } else c1

/-- CALIBRATION_TIMEOUT (R353): the timeout of 2A00h.06 is reached. -/
def State.calTimeout (s : State) : State :=
  if s.cal.system && s.cal.left = 0 then s.verdict .aborted 2 else s

/-- CALIBRATION_TIMEOUT. -/
def execCalibrationTimeout (s : State) : Host.Outcome State Fault Refusal := s.run State.calTimeout

end Sys2Proof.Machine
end

