-- ==== Sys2Proof/Machine/Latch.lean ====
section
/-! DEFINITION. The latching of events in order of time, and the starts that follow it (R48, R49, R53, R56, R62). -/
namespace Sys2Proof.Machine
open Sys2Proof

/-- The start edges that lie before system clock cycle `c` are reached: free lanes start what waits (R48, R49). -/
def State.startsBefore (s : State) (c : Nat) : State :=
  (s.tick.starts.filter (fun e => decide (8 * e < c))).foldl State.startAll
    { s with tick := { s.tick with starts := s.tick.starts.filter (fun e => decide (c ≤ 8 * e)) } }

/-- An event of sources `codes` is on its way to its latch at cycle `c` (R53). -/
def State.willLatch (s : State) (codes : List Nat) (c : Nat) : State :=
  { s with tick := { s.tick with
      latches := s.tick.latches.filter (fun k => decide (k.1 ≤ c)) ++ codes.map (fun k => (c, k)) ++
        s.tick.latches.filter (fun k => decide (c < k.1)) } }

/-- Every event latched at cycle `c` is accepted by its slots, one event a slot and cycle (R56), and the lanes start at the
first edge at or after it (R49, R62). Edges before it have started what waited. -/
def State.latchCycle (s0 : State) (c : Nat) : State :=
  let s := s0.startsBefore c
  let codes := (s.tick.latches.filter (fun k => k.1 = c)).map (·.2)
  let s1 := { s with tick := { s.tick with latches := s.tick.latches.filter (fun k => k.1 ≠ c) } }
  let s2 := (slotsWith s1.active codes).foldl (State.slotEvent · (s1.tickOf c)) s1
  { s2 with tick := { s2.tick with
      starts := if s2.tick.starts.contains (edgeAt c) then s2.tick.starts else s2.tick.starts ++ [edgeAt c] } }

/-- What is latched up to cycle `c` of the running tick, in order of time (R53, R62). An event latched at the boundary that ends the
tick, or after it, is the next tick's (R54, R115). -/
def State.latchTo (s : State) (c : Nat) : State :=
  let due := fun (k : Nat) => decide (k ≤ c) && (!s.tick.on || decide (k < s.tickCycles))
  ((((s.tick.latches.map (·.1)).filter due).eraseDups).foldl State.latchCycle s).calWhey

/-- Time reaches cycle `c`: what is latched up to it is accepted, and what starts up to it starts. -/
def State.at (s : State) (c : Nat) : State := ((s.latchTo c).startsBefore (c + 1)).clockAt c

/-- Events that have not reached their latch, and starts not reached, are dropped where the tick stops (R132, DEDUCED, log entry
84). -/
def TickSt.dropLatches (t : TickSt) : TickSt := { t with latches := [], starts := [] }

end Sys2Proof.Machine
end

