-- ==== Sys2Proof/Machine/Crosspoint.lean ====
section
/-! DEFINITION. Crosspoint, bias and excitation (chapter 06). -/
namespace Sys2Proof.Machine
open Sys2Proof

/-- Whether the core works at all: not in reset and not stopped for good (R138, R146). -/
def State.alive (s : State) : Bool := s.boot ≠ .inReset && !s.clk.coreStopped

/-- The sources that are not OFF in a copy. -/
def sourcesOn (a : Tbl Nat) : List Nat := listedOn a 0x2140 8

/-- The four pins of a source: force+, force−, sense+, sense− (FFh none). -/
def sourcePins (a : Tbl Nat) (e : Nat) : List Nat := [5, 6, 7, 8].map (cfg a (0x2140 + e))

/-- The seven roles in the order of the bits of 2100h+x.03 (R142). -/
inductive Role where
  | inp | exf | exs | bias | touch | mon | plug
  deriving DecidableEq, Repr

/-- The bit of a role (R142). -/
def Role.bit : Role → Nat
  | .inp => 0 | .exf => 1 | .exs => 2 | .bias => 3 | .touch => 4 | .mon => 5 | .plug => 6

/-- Whether pin x holds a role in a copy (R141). -/
def holdsRole (a : Tbl Nat) (x : Nat) : Role → Bool
  | .inp => (slotsOf a).any fun n => slotCfg a n 3 = x || slotCfg a n 4 = x
  | .exf => (sourcesOn a).any fun e => cfg a (0x2140 + e) 5 = x || cfg a (0x2140 + e) 6 = x
  | .exs => (sourcesOn a).any fun e => cfg a (0x2140 + e) 7 = x || cfg a (0x2140 + e) 8 = x
  | .bias => cfg a (0x2100 + x) 1 ≠ 0
  | .touch => cfg a 0x2720 1 ≠ 0 && (electrodesOn a).any fun i => cfg a (0x2700 + i) 2 = x || cfg a (0x2700 + i) 4 = x
  | .mon => (listedOn a 0x2800 16).any fun m => cfg a (0x2800 + m) 2 = x
  | .plug => (plugsOn a).any fun g => cfg a (0x2740 + g) 2 = x

/-- Every role. -/
def allRoles : List Role := [.inp, .exf, .exs, .bias, .touch, .mon, .plug]

/-- 2100h+x.03 in a copy (R142). -/
def roleBits (a : Tbl Nat) (x : Nat) : Nat := ((allRoles.filter (holdsRole a x)).map (fun r => 2 ^ r.bit)).sum

/-- 2140h+e.0D (R152). -/
def SourceRt.status (r : SourceRt) : Nat :=
  (if r.clip then 1 else 0) + (if r.compl then 2 else 0) + (if r.pinFault then 4 else 0) + (if r.pos then 0 else 8)

/-- Whether a pin of source e is in fault (R145). -/
def State.sourcePinFault (s : State) (e : Nat) : Bool :=
  (sourcePins s.active e).any fun x => decide (x < 40) && (s.pin x).fault ≠ 0

/-- A source opens all four connections (R145, R152). -/
def SourceRt.open (r : SourceRt) : SourceRt := { r with isOpen := true, clip := false, compl := false, currentNa := 0 }

/-- Source e meets a pin fault: it opens and, at the entry, writes an event (R145, R152). -/
def State.sourceFault (x : Nat) (s : State) (e : Nat) : State :=
  if (sourcePins s.active e).contains x then
    let r := s.source e
    let r' := { r.open with pinFault := true }
    let s1 := s.updSource e (fun _ => r')
    if r.pinFault then s1 else s1.event (0x2140 + e) 13 r'.status
  else s

/-- A running conversion whose slot has an input on pin x is marked OVR (R145). -/
def markConv (a : Tbl Nat) (x : Nat) (r : LaneRt) : LaneRt :=
  match r.conv with
  | some c => if slotCfg a c.slot 3 = x ∨ slotCfg a c.slot 4 = x then { r with conv := some { c with ovr := true } } else r
  | none => r

/-- Debounce counts of an electrode on a faulted pin restart, and a scan under way no longer measures it (R297). -/
def State.electrodeRestart (x : Nat) (s : State) (i : Nat) : State :=
  if s.acfg (0x2700 + i) 2 = x ∨ s.acfg (0x2700 + i) 4 = x then
    { s.updElem i (fun r => { r with count := 0 }) with touch := { s.touch with dropped := i :: s.touch.dropped } }
  else s

/-- PIN_FAULT_ENTRY (R144, R145): the pin is isolated; a crossing after it has left fault is a new entry. -/
def State.pinFaultEntry (s : State) (x : Nat) (above : Bool) : State :=
  let p := s.pin x
  if s.alive && (p.fault = 0 || p.left) then
    let code : BitVec 8 := if above then 1 else 2
    let s1 := (s.updPin x (fun _ => { p with fault := code, left := false, entries := satInc p.entries, tick := s.tick.counter })).event
      (0x2100 + x) 4 code.toNat
    let s2 := { s1 with lanes := tmapVals (fun _ => {}) (fun _ => markConv s.active x) s1.lanes }
    let s3 := (sourcesOn s.active).foldl (State.sourceFault x) s2
    let s4 := (electrodesOn s.active).foldl (State.electrodeRestart x) s3
    if s.cal.system ∧ (slotCfg s.active s.cal.slot 3 = x ∨ slotCfg s.active s.cal.slot 4 = x) then s4.calOpen s.cal.slot else s4
  else s

/-- PIN_FAULT_EXIT (R144): after 100 µs inside the range the pin has left fault; its switches close at the next boundary. -/
def State.pinFaultExit (s : State) (x : Nat) : State :=
  if s.alive && (s.pin x).fault ≠ 0 then s.updPin x (fun p => { p with left := true }) else s

/-- The switches of pin x close at a boundary (R144): 2100h+x.04 returns to 00h. -/
def PinRt.close (p : PinRt) : PinRt := if p.left then { p with fault := 0, left := false } else p

/-- EXCITATION_READING (R152): the monitoring converter reads a source; CLIP or COMPLIANCE is judged. -/
def State.excitationReading (s : State) (e currentNa neededUv avddUv : Nat) : State :=
  let r := s.source e
  let mode := s.acfg (0x2140 + e) 1
  if s.tick.on && mode ≠ 0 && !r.isOpen then
    let volt := decide (s.acfg (0x2140 + e) 2 = 0)
    let clip := volt && (decide (avddUv < neededUv + 200000) || decide (30000000 ≤ currentNa))
    let compl := !volt && decide (avddUv < neededUv + 500000)
    let r' := { r with clip := clip, compl := compl, currentNa := currentNa }
    let s1 := s.updSource e (fun _ => r')
    let s2 := if (clip && !r.clip) || (compl && !r.compl) then s1.event (0x2140 + e) 13 r'.status else s1
    s2
  else s

/-- The polarity of a tick-locked source in tick n (R154): positive when ⌊n ÷ h⌋ is even. -/
def tickPolarity (a : Tbl Nat) (e : Nat) (n : TickNo) : Bool := n.toNat / cfg a (0x2140 + e) 10 % 2 = 0

/-- Whether sources are off as a whole (R153): in a stop, in DOZE and in STANDBY. -/
def State.sourcesOff (s : State) : Bool := s.stopped || s.pow.lanesOff

/-- A source at a boundary (R145, R152–R154, R164): it takes its active mode, opens or returns, and under tick lock takes
the polarity of the tick opened. -/
def State.sourceBoundary (s : State) (e : Nat) : State :=
  let r := s.source e
  let a := s.active
  if cfg a (0x2140 + e) 1 = 0 then
    s.updSource e (fun r => { r.open with pinFault := false, pos := true })
  else
    let pf := s.sourcePinFault e
    let off := pf || s.sourcesOff
    let pos :=
      if cfg a (0x2140 + e) 1 = 1 then true
      else if off then r.pos
      else if cfg a (0x2140 + e) 9 = 0 then tickPolarity a e s.tick.counter
      else r.pos
    let r' := { (if off then r.open else { r with isOpen := false }) with pinFault := pf, pos := pos }
    let s1 := s.updSource e (fun _ => r')
    if pf && !r.pinFault then s1.event (0x2140 + e) 13 r'.status else s1

/-- Every source opens at once (R153, R485). -/
def State.openSources (s : State) : State :=
  { s with sources := tmapVals (fun _ => {}) (fun _ r => r.open) s.sources }

/-- The bias code of 2100h that is applied to pin x now (R148): continuous in RUN outside fault, or during a conversion that names the pin;
an input of a dedicated slot has it continuously. -/
def State.biasOf (s : State) (x : Nat) : Nat :=
  let b := s.acfg (0x2100 + x) 1
  let names := fun n => slotCfg s.active n 3 = x || slotCfg s.active n 4 = x
  let ded := [0, 1, 2, 3].any fun l => match dedSlot s.active l with
    | some n => names n
    | none => false
  let conv := [0, 1, 2, 3].any fun l => match (s.lane l).conv with
    | some c => names c.slot
    | none => false
  if s.pow.lanesOff || (s.pin x).fault ≠ 0 || s.boot ≠ .running then 0
  else if s.acfg (0x2100 + x) 2 = 0 || ded || conv then b else 0

/-- The code of the detect current .03 that plug groups force out of pin x, 0 none and 1 to 3 for 0.1, 1 and 10 µA: the plug bias,
which stays in DOZE and STANDBY (R148, R290). -/
def State.plugBias (s : State) (x : Nat) : Nat :=
  if (s.pin x).fault ≠ 0 || s.boot ≠ .running then 0
  else match (plugsOn s.active).find? (fun g => s.acfg (0x2740 + g) 2 = x) with
    | some g => s.acfg (0x2740 + g) 3 + 1
    | none => 0

/-- VREFO_READING (R173, R514): 2210h.07 and bit 3 of 2210h.06. -/
def State.vrefoReading (s : State) (uv : BitVec 32) : State :=
  if !s.converterOn then s
  else { s with sense := { s.sense with
      vrefoUv := uv
      vrefoOut := decide (uv.toNat < 2498000) || decide (2502000 < uv.toNat) } }

/-- PIN_FAULT_ENTRY. -/
def execPinFaultEntry (x : Fin 40) (above : Bool) (s : State) : Host.Outcome State Fault Refusal :=
  s.run (·.pinFaultEntry x.val above)
/-- PIN_FAULT_EXIT. -/
def execPinFaultExit (x : Fin 40) (s : State) : Host.Outcome State Fault Refusal := s.run (·.pinFaultExit x.val)
/-- EXCITATION_READING. -/
def execExcitationReading (e : Fin 8) (currentNa neededUv avddUv : Nat) (s : State) : Host.Outcome State Fault Refusal :=
  s.run (·.excitationReading e.val currentNa neededUv avddUv)
/-- VREFO_READING. -/
def execVrefoReading (uv : BitVec 32) (s : State) : Host.Outcome State Fault Refusal := s.run (·.vrefoReading uv)

end Sys2Proof.Machine
end

