-- ==== Sys2Proof/Machine/Lanes.lean ====
section
/-! DEFINITION. Lanes (chapters 02, 07, 08): conversions, output samples, deliveries, lane faults. -/
namespace Sys2Proof.Machine
open Sys2Proof

/-- What a reference level does to 2210h.06 (R176); `l` is the lane A–D of slot n, whichever lane of the pair converts. The bit
of RATIO is kept for each of them, since 2210h.06 reports it for any lane (DEDUCED, log entry 86). -/
def State.noteRef (s : State) (n l : Nat) (ref : RefLevel) : SenseSt :=
  let low := decide (ref ≠ RefLevel.ok)
  match slotCfg s.active n 6 with
  | 1 => { s.sense with extaLow := low }
  | 2 => { s.sense with extbLow := low }
  | 3 => { s.sense with ratioLow := s.sense.ratioLow.set l low }
  | _ => s.sense

/-- Whether the requantisation at the output of stage 1 saturates (R202, R203). -/
def stage1Sat (x : Int) (ref : RefLevel) : Bool := decide (ref ≠ RefLevel.nonPositive) && (requant x).2

/-- The stage-1 output in force: the one given, requantised, or a free code of the code range where the reference differential is at or
below 0 V (R176). -/
def State.stage1 (s : State) (x : Int) (ref : RefLevel) : Int :=
  if ref = RefLevel.nonPositive then signed 32 (Config.freeWord s.draws).toNat else (requant x).1

/-- Reads the reference of a conversion or output sample: status bits, and a free value drawn if one is used (R176). -/
def State.drawRef (s : State) (n l : Nat) (ref : RefLevel) : State :=
  { s with sense := s.noteRef n l ref, draws := if ref = RefLevel.nonPositive then s.draws + 1 else s.draws }

/-- Whether the source of slot n is in AC-SWAP. -/
def acSlot (a : Tbl Nat) (n : Nat) : Bool := acSource a n 0 || acSource a n 1

/-- What stage 3 makes of a multiplexed conversion: output, saturation, whether unpaired, and whether a conversion that enters it
is over-range or has saturated. -/
structure Paired where
  x        : Int
  sat      : Bool
  unpaired : Bool
  bad      : Bool
  deriving DecidableEq, Repr

/-- Stage 3 on a multiplexed lane (R156, R157): the corrected code with its sign, paired with the previous conversion where
the polarities are opposite. `prev` is that conversion's code, polarity, and whether it is over-range or has saturated; `bad` is
the same of this one (R203, R241). -/
def pairCode (ac : Bool) (prev : Option (Int × Bool × Bool)) (x : Int) (pos bad : Bool) : Paired :=
  let sx := if pos then x else -x
  let alone : Paired := { x := (requant sx).1, sat := (requant sx).2, unpaired := ac, bad := bad }
  if ac then
    match prev with
    | some (x0, p0, o0) =>
      if p0 = pos then alone
      else
        let q := requant (mkRat (sx + if p0 then x0 else -x0) 2)
        { x := q.1, sat := q.2, unpaired := false, bad := bad || o0 }
    | none => alone
  else alone

/-- Counts an unpaired record in 2140h+e.0F (R159). -/
def State.noteUnpaired (s : State) (a : Tbl Nat) (n : Nat) (unpaired : Bool) : State :=
  if unpaired then s.updSource (slotCfg a n 7) (fun r => { r with unpaired := satInc r.unpaired }) else s

/-- The delay of a record whose trigger belongs to tick t (R74, R76, R87): the ticks since, in the 4 bits of DLY. Tick numbers are
compared modulo 2^32, and a trigger that has waited across a step of a GaltLink member's counter (R465) is aged by the stepped
numbers, up to the 15 that DLY holds: the manual does not say what it carries (DESIGN CHOICE, log entry 84). -/
def State.delayOf (s : State) (t : TickNo) : Nat := min 15 (s.tick.counter - t).toNat

/-- 2003h.12 and .13 at a record with delay `d` (R87). -/
def CommitSt.noteDly (c : CommitSt) (d : Nat) : CommitSt :=
  { c with delayed := if d = 0 then c.delayed else satInc c.delayed, maxDly := max c.maxDly d }

/-- A data record of slot n is formed from a stage-5 output sampled in the running tick at cycle c (R228, R279, R352):
formation, its traces, the record to the slot's ring, press evaluation, calibration. -/
def State.formData (s : State) (a : Tbl Nat) (n c : Nat) (x5 : Int) (ovr cal : Bool) (dly : Nat) : State :=
  let t := s.tick.counter
  let f := s.formation a n t c x5
  let bad := ovr || f.ovr || s.excitationOvr a n || (s.slot n).ovrNext
  let raw := decide (curveOf (slotCfg a n 9) = Curve.raw)
  let s1 := (s.noteFormation a n t c f bad).form (slotCfg s.active n 10)
    (dataRecord n t x5 f bad cal (decide (dly ≠ 0)) (BitVec.ofNat 4 dly))
  (({ s1 with com := s1.com.noteDly dly }).pressEvaluate n t f.value raw f.undef).calCollect n x5 bad

/-- A conversion c of lane l ends with stage-1 output x0 (R47, R200): stages 2 to 5, its record, its trigger resolved, the lane free. -/
def State.endConv (s : State) (l : Nat) (c : Conv) (x0 : Int) (ref : RefLevel) : State :=
  let n := c.slot
  let r := s.slot n
  let p := slotProf s.active n
  let x := s.stage1 x0 ref
  let st2 := correctCode (s.point (if c.byE then 4 else l) (slotPoint s.active n)) x
  let bad := overRange x || stage1Sat x0 ref || st2.2
  let st3 := pairCode (acSlot s.active n) r.prev st2.1 c.pos bad
  let st5 := runFilter (profCfg s.active p 3) (s.profCoefs p) r.filt st3.x
  let sats := (if stage1Sat x0 ref then 1 else 0) + (if st2.2 then 1 else 0) + (if st3.sat then 1 else 0) + st5.2.2
  let guard := if slotCfg s.active n 14 = 0 then some c.trig.tick else r.guardDone
  let s1 := (s.drawRef n l ref).updLane l (fun q => { q with conv := none })
  let s2 := s1.setSlot n { r with filt := st5.1, prev := some (st2.1, c.pos, bad), guardDone := guard }
  let s3 := (if sats = 0 then s2 else s2.addSat p sats).noteUnpaired s.active n st3.unpaired
  let s4 := s3.formData s.active n (8 * c.start) st5.2.1
    (st3.bad || decide (ref ≠ RefLevel.ok) || c.ovr || decide (sats ≠ 0)) c.byE (s.delayOf c.trig.tick)
  s4.updSlot n SlotRt.promote

/-- CONVERSION_END (R47, R48): what is latched before the end edge e of lane l's conversion is accepted, and may abort it; the
conversion ends; what is latched at e is accepted, and on e the free lanes start what waits. -/
def State.conversionEnd (s : State) (l : Nat) (x0 : Int) (ref : RefLevel) : State :=
  match (s.lane l).conv with
  | none => s
  | some c =>
    let e := c.start + occupancy (slotPreset s.active c.slot)
    let s0 := (s.latchTo (8 * e - 1)).startsBefore (8 * e)
    let s1 := if (s0.lane l).conv = some c then s0.endConv l c x0 ref else s0
    ((s1.latchTo (8 * e)).startAll e).at (8 * e)

/-- A lane's own input is connected again (R205): its history is empty and nothing has been sampled; an over-range sample since the
previous delivery still marks the next record (R241). -/
def LaneRt.rejoin (r : LaneRt) : LaneRt :=
  { r with conn := some 0, last := none, refLowNow := false, filt := {}, plus := none, minus := none }

/-- A lane is connected to an input it did not measure before (R182, R189): its own over-range samples were another input's. Those
the slot's lane has taken since the last delivery stay with the slot (R241). -/
def LaneRt.connect (r : LaneRt) : LaneRt := { r.rejoin with ovrAcc := false }

/-- A lane's input is disconnected. -/
def LaneRt.disconnect (r : LaneRt) : LaneRt := { r.rejoin with conn := none }

/-- The lane of the pair that delivers for lane l: E while it substitutes (R182). -/
def State.deliverer (s : State) (l : Nat) : Nat := if s.quad.serving = some l then 4 else l

/-- Stage 3 on a sample of a data slot under tick lock (R158): the half-period pair, or the half present; the sample itself where
neither half has closed (DEDUCED). With the saturation of the pairing, whether it is unpaired, and whether a sample of it has
saturated. -/
def pairHalves (plus minus : Option (Int × Bool)) (x : Int) : Int × Bool × Bool × Bool :=
  match plus, minus with
  | some a, some b => let q := requant (mkRat (a.1 + b.1) 2); (q.1, q.2, false, a.2 || b.2)
  | some a, none => (a.1, false, true, a.2)
  | none, some b => (b.1, false, true, b.2)
  | none, none => (x, false, true, false)

/-- The half-period samples that stage 3 takes (R158): the latest of either polarity, and before the first record after an activation
that affected the slot the newest alone, so that this record is unpaired (R159). -/
def LaneRt.halves (r : LaneRt) (fresh : Bool) : Option (Int × Bool) × Option (Int × Bool) :=
  if fresh then (if r.halfPos then (r.plus, none) else (none, r.minus)) else (r.plus, r.minus)

/-- Saturations of an output sample of slot n are counted, and mark the record it enters or the next (R203). -/
def State.markSat (s : State) (n p sats : Nat) : State :=
  if sats = 0 then s else (s.addSat p sats).updSlot n (fun q => { q with ovrNext := true })

/-- The settled output sample of lane p passes the rest of stage 3 and stages 4 and 5, once (R200, R210). Every settled sample
does, recorded or not; under tick lock its stage-3 output is the pair of the latest half-period samples (R158). -/
def State.runSample (s : State) (p n : Nat) : State :=
  match (s.lane p).last with
  | none => s
  | some m =>
    if !m.settled || m.y.isSome then s
    else
      let r := s.lane p
      let prof := slotProf s.active n
      let ac := acSource s.active n 0 && profCfg s.active prof 8 ≠ 1
      let w := r.halves (s.slot n).fresh
      let h := if ac then pairHalves w.1 w.2 m.x else (m.x, false, false, false)
      let st5 := runFilter (profCfg s.active prof 3) (s.profCoefs prof) r.filt h.1
      (s.updLane p (fun q => { q with
          last := some { m with y := some st5.2.1, unpaired := h.2.2.1, sat := h.2.2.2 }, filt := st5.1 })).markSat n prof
        ((if h.2.1 then 1 else 0) + st5.2.2)

/-- DEDICATED_OUTPUT_SAMPLE (R200, R205): an output sample of lane p completes at a cycle of the running tick. Settled
samples run the later stages and enter a totaliser; a sample of a tick-locked AC-SWAP data slot that completes at the boundary runs
them there, since it may close a half-period first (R158). -/
def State.outputSample (s0 : State) (p : Nat) (x0 : Int) (ref : RefLevel) (cyc : Nat) : State :=
  let s := s0.at cyc
  match s.laneFor p, (s.lane p).conn with
  | some l, some conn =>
    match dedSlot s.active l with
    | none => s
    | some n =>
      let prof := slotProf s.active n
      let pre := slotPreset s.active n
      let tot := decide (profCfg s.active prof 8 = 1)
      let ac := acSource s.active n 0
      let x := s.stage1 x0 ref
      let st2 := correctCode (s.point p (slotPoint s.active n)) x
      let st3 := requant (if ac && !(s.source (slotCfg s.active n 7)).pos then -st2.1 else st2.1)
      let settled := decide (8 * occupancy pre ≤ conn + cyc)
      let sats := (if stage1Sat x0 ref then 1 else 0) + (if st2.2 then 1 else 0) + (if st3.2 then 1 else 0)
      let s1 := ((s.drawRef n l ref).updLane p (fun q =>
        { q with last := some { x := st3.1, xSat := decide (sats ≠ 0), y := none, unpaired := false, sat := false,
                                settled := settled, at_ := cyc },
                 ovrAcc := q.ovrAcc || overRange x, refLowNow := decide (ref ≠ RefLevel.ok) })).markSat n prof sats
      let s1 := s1.updSlot n (fun q => { q with ovrAcc := q.ovrAcc || (overRange x && s.deliverer l = p) })
      let s2 := if ac && !tot && decide (s.tickCycles ≤ cyc) then s1 else s1.runSample p n
      match (s2.lane p).last with
      | some m => if tot && settled && s.deliverer l = p then s2.totalise n cyc (outPeriod pre) (m.y.getD 0) else s2
      | none => s2
  | _, _ => s

/-- The settled sample of lane p that completes at the boundary just reached. -/
def State.sampleNow (s : State) (p : Nat) : Option Sample :=
  match (s.lane p).last with
  | some m => if m.settled && m.at_ = 0 then some m else none
  | none => none

/-- The totaliser record of slot n (R220, R249). -/
def totRecord (n : Nat) (t : TickNo) (r : SlotRt) (ovr cal : Bool) : Rec :=
  { kind := 4, val := BitVec.ofNat 32 r.sum, aux := BitVec.ofNat 24 (r.sum / 2 ^ 32), ovr := ovr, cal := cal, tick := t,
    word12 := r.epoch, slot := BitVec.ofNat 7 n, restarts := r.restarts }

/-- Whether over-range samples since the previous delivery mark the next delivery of slot n by lane p (R241): those of the lane that
delivered then, and those that p has taken in an overlap. -/
def State.overRangeOf (s : State) (n p : Nat) : Bool := (s.slot n).ovrAcc || (s.lane p).ovrAcc

/-- The record of a delivery of slot n by lane p under copy `a` (R50, R158, R220, R241), in the ring the slot targets as
the record is formed: a trigger that waited is delivered before the activation at b, to the outgoing ring, and one latched at b
after it, to the incoming ring, which R99 leaves open (DESIGN CHOICE, log entry 28). -/
def State.deliverRecord (s : State) (a : Tbl Nat) (n p : Nat) (m : Sample) : State :=
  let ovr := s.overRangeOf n p || (s.lane p).refLowNow || s.inputFaultIn a n || m.sat
  if profCfg a (slotProf a n) 8 = 1 then
    let bad := ovr || (s.slot n).ovrNext || s.excitationOvr a n
    (s.form (slotCfg s.active n 10) (totRecord n s.tick.counter (s.slot n) bad (p = 4))).updSlot n
      (fun q => { q with ovrNext := false })
  else (s.noteUnpaired a n m.unpaired).formData a n 0 (m.y.getD 0) ovr (p = 4) 0

/-- A trigger that runs on slot n of a dedicated lane is resolved LANE-FAULT (R189, R191). -/
def State.dedLost (s : State) (n : Nat) (t : TickNo) : State :=
  ((s.resolve n .laneFault t 1).updSlot n SlotRt.promote).calLaneFault n

/-- Whether lane l resolves a trigger at this boundary: it is a delivery boundary of a running lane with a trigger to serve
and a settled sample, or no settled lane delivers after a lane fault (R50, R189). -/
def State.serves (s : State) (a : Tbl Nat) (l : Nat) : Bool :=
  match dedSlot a l with
  | none => false
  | some n =>
    s.lanesRun && (s.lane l).delivIn = 0 && (s.slot n).run.isSome && !s.absentNow n &&
      ((s.sampleNow (s.deliverer l)).isSome || (s.lane l).takeover || (s.lane (s.deliverer l)).faulted)

/-- Delivery of lane l at the boundary just reached, under copy `a` (R50, R99, R189). -/
def State.deliver (s : State) (a : Tbl Nat) (l : Nat) : State :=
  match dedSlot a l with
  | none => s
  | some n =>
    match (s.slot n).run with
    | none => s
    | some t =>
      if !s.serves a l then s
      else
        let p := s.deliverer l
        match s.sampleNow p, (s.lane p).faulted with
        | some m, false =>
          let s1 := (s.deliverRecord a n p m).updSlot n (fun r => { r.promote with ovrAcc := false })
          { s1 with lanes := tmapVals (fun _ => {}) (fun q r =>
              if q = l then { r with ovrAcc := false, takeover := false }
              else if q = p ∨ s.laneFor q = some l then { r with ovrAcc := false } else r) s1.lanes }
        | _, _ => s.dedLost n t.tick

/-- A half-period of a tick-locked AC-SWAP source closes: the lane samples its last settled output sample (R158). -/
def LaneRt.closeHalf (r : LaneRt) (wasPos : Bool) : LaneRt :=
  match r.last with
  | some m =>
    if m.settled then
      (if wasPos then { r with plus := some (m.x, m.xSat), halfPos := true }
       else { r with minus := some (m.x, m.xSat), halfPos := false })
    else r
  | none => r

/-- At the boundary opening the running tick, every lane of a dedicated slot whose source changes polarity closes a
half-period (R154, R158). While the source is open no sample is taken, and the boundary at which it reconnects, where its
POLARITY bit may change under R164, closes none: R158 does not say so (DESIGN CHOICE, log entry 86). -/
def State.closeHalves (s : State) (l : Nat) : State :=
  match dedSlot s.active l with
  | none => s
  | some n =>
    let e := slotCfg s.active n 7
    let src := s.source e
    if acSource s.active n 0 && !src.isOpen && decide (tickPolarity s.active e s.tick.counter ≠ src.pos) then
      let s1 := s.updLane l (LaneRt.closeHalf · src.pos)
      if s.laneFor 4 = some l then s1.updLane 4 (LaneRt.closeHalf · src.pos) else s1
    else s

/-- The samples that complete at the boundary run their later stages, after the half-periods have closed (R158, R200). -/
def State.runSamples (s : State) : State :=
  (List.range 5).foldl (fun acc p => match (acc.laneFor p).bind (dedSlot acc.active) with
    | some n => acc.runSample p n
    | none => acc) s

/-- A delivery boundary is counted down; D boundaries apart (R50). -/
def State.countDelivery (s : State) (l : Nat) : State :=
  match dedSlot s.active l with
  | none => s
  | some n =>
    let d := delivD (tickN s.active) (outPeriod (slotPreset s.active n))
    s.updLane l (fun r => { r with delivIn := if r.delivIn = 0 then d - 1 else r.delivIn - 1 })

/-- The delivery boundaries of lane l are aligned to the ticks whose number is a multiple of D (R50). -/
def State.align (s : State) (l : Nat) : State :=
  match dedSlot s.active l with
  | none => s
  | some n =>
    let d := delivD (tickN s.active) (outPeriod (slotPreset s.active n))
    s.updLane l (fun r => { r with delivIn := (d - s.tick.counter.toNat % d) % d })

/-- A tick has passed on a lane: its connection is older, its last sample lies further back, points measured act (R178). -/
def LaneRt.tickOver (l : Nat) (cycles : Nat) (r : LaneRt) : LaneRt :=
  { r with
    conn := r.conn.map (· + cycles)
    last := r.last.map (fun m => { m with at_ := m.at_ - (cycles : Int) })
    points := r.newPoints.foldl (fun t k => tput (factoryPoint l) t k.1 k.2) r.points
    newPoints := [] }

/-- Connects the lane that delivers for every dedicated lane with a slot (R205): lanes start or restart. -/
def State.connectAll (s : State) : State :=
  [0, 1, 2, 3].foldl (fun acc l =>
    if (dedSlot acc.active l).isSome && !(acc.lane (acc.deliverer l)).faulted then acc.updLane (acc.deliverer l) LaneRt.rejoin
    else acc) s

/-- The totaliser of slot n stops; what passes until the next settled sample is not added (R221). -/
def State.totStop (s : State) (n : Nat) : State := s.updSlot n (fun r => { r with totSince := none })

/-- The lanes stop: conversions are aborted, inputs are disconnected, an overlap is abandoned without counting, the held
phase restarts when the lanes do (R66, R186), totalisers add nothing (R221). -/
def State.lanesStop (s : State) : State :=
  (totSlots s.active).foldl State.totStop { s with
    lanes := tmapVals (fun _ => {}) (fun _ r => { r.disconnect with conv := none }) s.lanes
    quad := { s.quad with overlap := none, held := true } }

/-- A calibration window of a lane has been completed (2200h+l.05). -/
def State.windowDone (s : State) (p : Nat) : State := s.updLane p (fun r => { r with windows := satInc r.windows })

end Sys2Proof.Machine
end

