-- ==== Sys2Proof/Machine/Quadrille.lean ====
section
/-! DEFINITION. The Quadrille rotation, its measurements and handovers, and lane faults (chapter 07, R350, R361–R365). -/
namespace Sys2Proof.Machine
open Sys2Proof

/-- The points the enabled slots of lane l use; gain code 0, class INT without one (R178). -/
def pointsOf (a : Tbl Nat) (l : Nat) : List Nat :=
  let p := ((slotsOn a l).map (slotPoint a)).eraseDups
  if p.isEmpty then [0] else p

/-- Ticks in which a number of points is measured: ⌈p · 32 932 ÷ N⌉ (R179). -/
def measureTicks (n points : Nat) : Nat := (points * 32932 + n - 1) / n

/-- K(i) of lane i in a copy (R179). -/
def kTicks (a : Tbl Nat) (i : Nat) : Nat := measureTicks (tickN a) (pointsOf a i).length

/-- The cycle length C in ticks (R179). -/
def cycleTicks (a : Tbl Nat) : Nat := (cfg a 0x2220 2 * 6144 + tickN a - 1) / tickN a

/-- Length of phase k: the larger of F and its minimum (R179). -/
def phaseTicks (a : Tbl Nat) (k : Nat) : Nat :=
  let i := k / 2
  let m :=
    if k % 2 = 0 then kTicks a i
    else if (dedSlot a i).isSome then 2 * cfg a 0x2220 3 + kTicks a i
    else kTicks a i + 1
  max (cycleTicks a / 8) m

/-- Whether the rotation skips lane i for a system calibration (R185). -/
def State.skips (s : State) (i : Nat) : Bool := s.cal.system && slotLane s.active s.cal.slot = i

/-- 2220h.0A (R185). -/
def State.skipBits (s : State) : Nat := (([0, 1, 2, 3].filter s.skips).map (fun i => 2 ^ i)).sum

/-- Whether E is held out of the rotation: it is faulted, or parked on a faulted lane (R191). -/
def State.spareBound (s : State) : Bool := (s.lane 4).faulted || s.quad.parked.isSome

/-- 2004h.03 (R184): the mode in force, or PAUSED while E is faulted or parked, not yet free after OFF, or a one-shot holds the
rotation. -/
def State.quadCode (s : State) : Nat :=
  let m := s.acfg 0x2220 1
  if (m = 2 ∧ (s.quad.serving.isSome ∨ s.quad.overlap.isSome)) ∨ s.spareBound = true ∨
      (m ≠ 2 ∧ s.cal.run = some CalKind.self) then 1
  else m

/-- Whether the rotation may move at this boundary: E free and running lanes, and a mode that moves it (ON, or OFF until E
is free) (R184, R186, R191). A one-shot holds it, to the boundary after its end (R361). -/
def State.rotates (s : State) : Bool :=
  s.lanesRun && !s.spareBound && s.cal.run ≠ some CalKind.self && !s.cal.selfEnd &&
    (s.acfg 0x2220 1 = 0 || (s.acfg 0x2220 1 = 2 && s.quad.serving.isSome))

/-- The lane whose points are being measured now by the rotation, with the lane that measures: E in even phases, lane i in
the last K(i) ticks before its handback (R179). In an even phase longer than K(E, i) the window of E is open throughout
(DESIGN CHOICE, log entry 90). -/
def State.windowOpen (s : State) (p : Nat) : Bool :=
  let q := s.quad
  let i := q.phase / 2
  let k := kTicks s.active i
  let tail := if (dedSlot s.active i).isSome then q.ovl else 0
  s.quad.active && s.rotates &&
    !s.skips i &&
    if q.phase % 2 = 0 then p = 4 && decide (0 < q.left)
    else p = i && q.serving = some i && q.overlap.isNone && !q.stuck && decide (tail < q.left) && decide (q.left ≤ k + tail)

/-- An overlap opens: the newcomer is connected to the incumbent's pins (R182). -/
def State.openOverlap (s : State) (i : Nat) (intoE : Bool) : State :=
  ({ s with quad := { s.quad with
      overlap := some { lane := i, intoE := intoE, left := s.quad.ovl, len := s.quad.ovl, agree := [] } } }).updLane
    (if intoE then 4 else i) LaneRt.connect

/-- E starts to substitute lane i: a handover is completed (R181, R182). -/
def State.serveBy (s : State) (i : Nat) : State :=
  let s1 := { s with quad := { s.quad with serving := some i, overlap := none, done := satInc s.quad.done } }
  s1.updLane i LaneRt.disconnect

/-- E hands lane i back: a handover is completed (R181, R182). -/
def State.handBack (s : State) : State :=
  let s1 := { s with quad := { s.quad with serving := none, overlap := none, parked := none, done := satInc s.quad.done } }
  s1.updLane 4 LaneRt.disconnect

/-- Phase k starts at this boundary: its length, O and tolerance are read; an odd phase hands lane i over to E, at once on
a multiplexed lane, through an overlap on a dedicated one (R179, R181, R182). A lane found faulted keeps E (R189): one that has
faulted under OFF gets E only here, when its odd phase comes (DESIGN CHOICE, log entry 90). -/
def State.startPhase (s : State) (k : Nat) : State :=
  let i := k / 2
  let len := phaseTicks s.active k
  let cyc := ((List.range 8).map (fun j => if s.skips (j / 2) then 0 else phaseTicks s.active j)).sum
  let s1 := { s with quad := { s.quad with
    phase := k, left := len, len := len, ovl := s.acfg 0x2220 3, tol := s.acfg 0x2220 4, held := false, stuck := false,
    ran := 0, cycle := cyc } }
  if k % 2 = 0 ∨ s.quad.serving = some i then s1
  else if (s.lane i).faulted then
    ({ s1 with quad := { s1.quad with serving := some i, parked := some i } }).updLane 4 LaneRt.connect
  else if (dedSlot s.active i).isSome then s1.openOverlap i true
  else s1.serveBy i

/-- The next phase after k that the rotation does not skip, at most `fuel` further (R185). -/
def State.nextPhase (s : State) : Nat → Nat → Nat
  | 0, k => (k + 1) % 8
  | f + 1, k => if s.skips ((k + 1) % 8 / 2) then s.nextPhase f ((k + 1) % 8) else (k + 1) % 8

/-- Phase k starts, or where its lane's turn is skipped the next one that is not (R185); a lane E substitutes keeps E. -/
def State.enterPhase (s : State) (k : Nat) : State :=
  if s.skips (k / 2) && s.quad.serving ≠ some (k / 2) then s.startPhase (s.nextPhase 8 k) else s.startPhase k

/-- The calibration window of the phase under way has run for its K(i) ticks: it counts as completed for lane p (2200h+l.05). -/
def State.windowRan (s : State) (p : Nat) : State :=
  if kTicks s.active (s.quad.phase / 2) ≤ s.quad.ran then s.windowDone p else s

/-- Whether E substitutes a dedicated lane with a slot, which it hands back through an overlap only (R182). -/
def State.servesDedicated (s : State) : Bool :=
  match s.quad.serving with
  | some i => (dedSlot s.active i).isSome
  | none => false

/-- QUADRILLE_PHASE_END (R179, R181, R184): the phase's ticks have elapsed at the boundary just reached. E hands back a
multiplexed lane; the rotation goes to the next phase, or ends where OFF has been set. -/
def State.phaseEnd (s : State) : State :=
  let q := s.quad
  if s.tick.on && s.tick.part = TickPart.prologue && q.active && s.rotates && q.left = 0 && q.overlap.isNone && !s.servesDedicated then
    let s1 := if q.phase % 2 = 0 then s.windowRan 4 else s
    let s2 := match q.serving with
      | some i => (s1.windowRan i).handBack
      | none => s1
    if s.acfg 0x2220 1 = 2 then
      { s2 with quad := { s2.quad with active := decide (s2.quad.serving.isSome = true), phase := 0 } }
    else s2.startPhase (s2.nextPhase 8 q.phase)
  else s

/-- What becomes of the slots of lane l when the lane that serves it faults (R189): the triggers of a multiplexed lane are
resolved now, a dedicated lane waits for the other lane; a totaliser stops where no lane takes over (R221). -/
def State.lostSlots (s : State) (l : Nat) : State :=
  if laneMux s.active l then
    let s1 := s.updLane l (fun r => { r with conv := none })
    (slotsOn s.active l).foldl (fun acc n =>
      let had := (acc.slot n).run.isSome
      let acc1 := acc.resolveSlot n .laneFault id none
      if had then acc1.calLaneFault n else acc1) s1
  else
    match dedSlot s.active l with
    | some n =>
      let s1 := s.updLane l (fun r => { r with takeover := true })
      if s.rescued l then s1 else s1.totStop n
    | none => s

/-- Whether an overlap is past its settle boundary (R182). -/
def State.overlapSettled (s : State) (o : Overlap) : Bool :=
  match dedSlot s.active o.lane with
  | some n =>
    let occ := occupancy (slotPreset s.active n)
    decide ((occ + tickN s.active - 1) / tickN s.active ≤ o.len - o.left)
  | none => false

/-- The rotation after lane p has faulted (R183, R189, R191, R194): an overlap ends, with the other lane delivering where
it is settled; E parks on a faulted lane A–D unless Quadrille is OFF or E is bound. -/
def State.quadFault (s : State) (p : Nat) : QuadSt :=
  let q := s.quad
  let free := !(s.lane 4).faulted && q.parked.isNone && s.acfg 0x2220 1 ≠ 2
  match q.overlap with
  | some o =>
    let incumbent := if o.intoE then o.lane else 4
    if p = 4 ∨ p = o.lane then
      if p = incumbent ∧ s.overlapSettled o then
        { q with overlap := none, held := true, serving := if o.intoE then some o.lane else none,
                 parked := if o.intoE then some o.lane else q.parked }
      else if p = incumbent ∧ o.intoE then { q with overlap := none, held := true, parked := some o.lane }
      else if p < 4 ∧ !o.intoE then { q with overlap := none, held := true, parked := some p }
      else { q with overlap := none, held := true }
    else if p < 4 ∧ free then { q with parked := some p, held := true } else q
  | none =>
    if p = 4 then { q with held := true, parked := none }
    else if q.serving = some p then { q with held := true, parked := some p }
    else if free then { q with held := true, parked := some p }
    else q

/-- The lanes whose slots lose lane p as it faults (R189, R191): none where the other lane of a settled overlap delivers on; with E
also a lane it is parked on and does not yet serve. -/
def State.servedBy (s : State) (p : Nat) : List Nat :=
  let early := match s.quad.overlap with
    | some o => s.overlapSettled o && (p = if o.intoE then o.lane else 4)
    | none => false
  if p < 4 then (if s.quad.serving = some p || early then [] else [p])
  else (if early then [] else s.quad.serving.toList) ++ s.quad.parked.toList.filter (fun l => s.quad.serving ≠ some l)

/-- Lane p faults (R188, R189): cause, event and EMCY; what it served is lost or taken over; a calibration of the lane
ends (R365). Points measured before keep their new values (R178, R350). A lane that faults again while its 27 points are measured
for a clear stays FAULTED with the new cause (R188, R192). `cause` 1–3. -/
def State.faultLane (s : State) (p cause : Nat) : State :=
  let again := (s.lane p).faulted
  let s1 := { (s.updLane p (fun r =>
      { r.disconnect with faulted := true, cause := BitVec.ofNat 8 cause, clearing := none, measured := [],
                          trips := if cause = 1 then satInc r.trips else r.trips })) with
    quad := if again then s.quad else s.quadFault p }
  let s2 := (s1.event (0x2200 + p) 3 cause).emcy 0xff01 p
  let s3 := if again then s2 else (s.servedBy p).foldl State.lostSlots s2
  if s3.cal.run = some CalKind.self ∧ s3.cal.lane = p then
    (if cause = 2 then s3.verdict .implausible 0 else s3.verdict .aborted 5)
  else s3

/-- LANE_FAULT (R188): the stability detector of lane p trips; a FAULTED lane is gated (R189) unless it measures its points for a
clear (R192). -/
def State.laneFault (s : State) (p : Nat) : State :=
  if s.tick.on && s.lanesRun && (!(s.lane p).faulted || (s.lane p).clearing.isSome) then s.faultLane p 1 else s

/-- OVERLAP_END (R182, R183): at s + O the handover completes if the last two comparisons agree, else it is abandoned. Where OFF
has been set in an overlap into E, that handover still completes, and then the handback follows (DESIGN CHOICE, log entry 90). -/
def State.overlapEnd (s : State) : State :=
  match s.quad.overlap with
  | none => s
  | some o =>
    if !(s.tick.on && s.tick.part = TickPart.prologue && o.left = 0) then s
    else
      let newcomer := if o.intoE then 4 else o.lane
      if o.agree.take 2 = [true, true] then
        let s1 := (if o.intoE then s.serveBy o.lane else s.handBack).updLane newcomer (fun r => { r with abandonRun := 0 })
        if o.intoE ∧ s.acfg 0x2220 1 = 2 then { s1 with quad := { s1.quad with left := s1.quad.ovl + 1, held := false } } else s1
      else
        let q := s.quad
        let q1 := if o.intoE then { q with stuck := true }
          else { q with active := true, phase := 2 * o.lane + 1, held := false, ran := 0, left := kTicks s.active o.lane + q.ovl }
        let s1 := ({ s with quad := { q1 with overlap := none, abandoned := satInc q.abandoned } }).updLane newcomer
          (fun r => { r.disconnect with abandoned := satInc r.abandoned, abandonRun := r.abandonRun + 1 })
        let s2 := s1.event 0x2220 9 (satInc q.abandoned)
        if 2 ≤ (s2.lane newcomer).abandonRun then s2.faultLane newcomer 3 else s2

/-- What a measurement gives (R178): om and γm; none where the codes are equal. -/
def measurement (z sp : Int) : Option (Rat × Rat) :=
  if sp = z then none else some ((z : Rat), (7864320 : Rat) / (((sp - z : Int)) : Rat) - 1)

/-- Whether a measurement of point j of lane p is within the limits of cause 02h (R188). -/
def withinLimits (p j : Nat) (m : Rat × Rat) : Bool :=
  let f := factoryPoint p j
  decide (ratAbs (m.1 - f.1) ≤ mkRat 8388608 1000) && decide (ratAbs (m.2 - f.2) ≤ mkRat 5 10000)

/-- The smoothed update of a point (R178). -/
def smooth (old m : Rat × Rat) : Rat × Rat := (old.1 + (m.1 - old.1) / 4, old.2 + (m.2 - old.2) / 4)

/-- Whether lane p measures its 27 points for a fault clear (R192). -/
def LaneRt.clearingNow (r : LaneRt) (n : Nat) : Bool :=
  match r.clearing with
  | some c => decide (c ≤ measureTicks n 27)
  | none => false

/-- QUADRILLE_MEASUREMENT (R177, R178, R188): zero and span codes of point j of lane p. -/
def State.quadMeasure (s : State) (p j : Nat) (z sp : Int) : State :=
  let r := s.lane p
  let clear := r.faulted && r.clearingNow (tickN s.active)
  let rot := !r.faulted && s.windowOpen p && (pointsOf s.active (s.quad.phase / 2)).contains j
  if !(s.tick.on && (clear || rot)) then s
  else
    match measurement z sp with
    | some m =>
      if withinLimits p j m then
        s.updLane p (fun r => { r with
          newPoints := r.newPoints ++ [(j, smooth (s.point p j) m)],
          measured := if clear && !r.measured.contains j then j :: r.measured else r.measured })
      else s.faultLane p 2
    | none => s.faultLane p 2

/-- SELF_CALIBRATION_POINT (R350): the next point of the lane under one-shot self-calibration, in ascending order. -/
def State.selfPoint (s : State) (z sp : Int) : State :=
  let c := s.cal
  if c.run = some CalKind.self ∧ c.started = true then
    match measurement z sp with
    | some m =>
      if withinLimits c.lane c.point m then
        let s1 := { s.updLane c.lane (fun r => { r with newPoints := r.newPoints ++ [(c.point, m)] }) with
          cal := { c with point := c.point + 1 } }
        if c.point + 1 = 27 then s1.verdict .accepted 0 else s1
      else s.faultLane c.lane 2
    | none => s.faultLane c.lane 2
  else s

/-- A fault clear of a faulted lane (R192): from the next boundary the lane calibrates its 27 points. -/
def State.faultClear (s : State) (p : Nat) : State :=
  if (s.lane p).faulted then
    s.updLane p (fun r => { r with clearing := some (measureTicks (tickN s.active) 27 + 1), measured := [] })
  else s

/-- The clear of lane p ends at this boundary with every point passed (R192): the lane returns; E hands back a lane it was
parked on, through an overlap on a dedicated lane, and after the collection where a slot of the lane is under system calibration
(R185, R359); a cleared E restarts the rotation at phase 0. The run of abandoned handovers of R183 goes on over a clear (DESIGN
CHOICE, log entry 90). -/
def State.laneReturns (s : State) (p : Nat) : State :=
  let s1 := (s.updLane p (fun r => { r with faulted := false, cause := 0, clearing := none, measured := [] })).windowDone p
  if p = 4 then { s1 with quad := { s1.quad with phase := 0, held := true } }
  else if s.quad.parked = some p ∧ s.quad.serving = some p then
    if s.skips p then
      { s1 with quad := { s1.quad with
          parked := none, active := true, phase := 2 * p + 1, held := false, ran := 0
          left := kTicks s.active p + s.quad.ovl } }
    else if (dedSlot s.active p).isSome then ({ s1 with quad := { s1.quad with parked := none } }).openOverlap p false
    else s1.handBack
  else if (dedSlot s.active p).isSome ∧ s.lanesRun = true then s1.updLane p LaneRt.connect
  else s1

/-- A running fault clear advances by a tick (R192). -/
def State.clearBoundary (s : State) (p : Nat) : State :=
  let r := s.lane p
  match r.clearing with
  | none => s
  | some c =>
    if !s.lanesRun then s
    else if c ≤ 1 ∧ 27 ≤ r.measured.length then s.laneReturns p
    else s.updLane p (fun r => { r with clearing := some (c - 1) })

/-- One comparison at a delivery boundary after the newcomer has settled (R182, R197). -/
def State.compare (s : State) : State :=
  match s.quad.overlap with
  | none => s
  | some o =>
    let past := match dedSlot s.active o.lane with
      | some n => decide ((occupancy (slotPreset s.active n) + tickN s.active - 1) / tickN s.active < o.len - o.left)
      | none => false
    if past && (s.lane o.lane).delivIn = 0 then
      let ok := match s.sampleNow o.lane, s.sampleNow 4 with
        | some x, some y => decide (mkRat (x.y.getD 0 - y.y.getD 0).natAbs 256 ≤ mkRat (s.quad.tol * 8388607) 1000000)
        | _, _ => false
      { s with quad := { s.quad with overlap := some { o with agree := ok :: o.agree } } }
    else s

/-- A system calibration of a slot on an overlapped lane: the overlap is dropped without counting, and the lane that delivers goes
on through the collection (R185, R359); where that is E, lane i calibrates again before it is handed back. -/
def State.calOverlap (s : State) : State :=
  match s.quad.overlap with
  | some o =>
    if s.skips o.lane then
      ({ s with quad := { s.quad with
          overlap := none, ran := 0
          active := s.quad.active || !o.intoE
          phase := if o.intoE then s.quad.phase else 2 * o.lane + 1
          left := if o.intoE then s.quad.left else max s.quad.left (kTicks s.active o.lane + s.quad.ovl) } }).updLane
        (if o.intoE then 4 else o.lane) LaneRt.disconnect
    else s
  | none => s

/-- The ticks of a phase and of an overlap run down at a boundary (R179, R182, R184, R185): a held rotation counts no
phase, a lane under system calibration keeps E or loses its turn. -/
def State.quadCount (s : State) : State :=
  let q := s.quad
  let ov := q.overlap.map (fun o => { o with left := o.left - 1 })
  let i := q.phase / 2
  let ran := if s.windowOpen 4 || s.windowOpen i then q.ran + 1 else q.ran
  let frozen := s.skips i && q.serving = some i
  let left :=
    if !(q.active && s.rotates) || q.held || frozen then q.left
    else if s.skips i && q.overlap.isNone then 0
    else q.left - 1
  { s with quad := { q with overlap := if s.lanesRun then ov else q.overlap, left := left, ran := ran } }

/-- E takes the place of a lane that has faulted, or leaves a place it can no longer take, at the first boundary after the
fault (R181, R189). -/
def State.takeOver (s : State) : State :=
  let q := s.quad
  if (s.lane 4).faulted then
    match q.serving with
    | some l =>
      let s1 := { s with quad := { q with serving := none } }
      if (dedSlot s.active l).isSome ∧ (s.lane l).faulted = false then s1.updLane l LaneRt.connect
      else s1
    | none => s
  else
    match q.parked with
    | some l =>
      if q.serving = some l then s
      else
        let s1 := { s with quad := { q with serving := some l, overlap := none } }
        let s2 := match q.serving with
          | some j => if (dedSlot s.active j).isSome ∧ (s.lane j).conn.isNone = true then s1.updLane j LaneRt.connect else s1
          | none => s1
        if (dedSlot s.active l).isSome then s2.updLane 4 LaneRt.connect else s2
    | none => s

/-- The rotation at a boundary after its counts (R182, R184–R186): it starts with ON, restarts a held phase, and opens a handback
overlap O ticks before the phase ends, or later where the lane has become a dedicated one. After OFF a held phase of a multiplexed
lane restarts, so that E hands back at its end, and a dedicated lane is handed back at once. -/
def State.quadMove (s : State) : State :=
  let q := s.quad
  let mode := s.acfg 0x2220 1
  if mode = 2 ∧ q.serving.isNone = true ∧ q.overlap.isNone = true then
    { s with quad := { q with active := false, held := false, phase := 0, left := 0 } }
  else if mode = 1 then { s with quad := { q with held := q.active } }
  else if !s.rotates then s
  else if !q.active then ({ s with quad := { q with active := true } }).enterPhase (match q.serving with
    | some i => 2 * i + 1
    | none => 0)
  else if q.held ∧ q.overlap.isNone = true ∧ (mode = 0 ∨ s.servesDedicated = false) then s.enterPhase q.phase
  else
    let s1 : State := if mode = 2 ∧ q.held = true ∧ q.overlap.isNone = true ∧ s.servesDedicated = true
      then { s with quad := { q with held := false, left := min q.left q.ovl } } else s
    match q.serving with
    | some i =>
      if (dedSlot s.active i).isSome ∧ q.overlap.isNone = true ∧ s.skips i = false ∧ s1.quad.left ≤ q.ovl then
        (s1.windowRan i).openOverlap i false
      else s1
    | none => s1

/-- An activation that affects the slot of an overlapped lane, or changes the lane's mode, abandons the overlap without
counting (R187); the newcomer is disconnected. The phase then restarts from its first boundary, as R186 has it for a stop (DESIGN
CHOICE, log entry 90). -/
def State.dropOverlap (s : State) : State :=
  match s.quad.overlap with
  | none => s
  | some o =>
    ({ s with quad := { s.quad with overlap := none, held := true } }).updLane (if o.intoE then 4 else o.lane) LaneRt.disconnect

/-- An activation from the copy `old` sets OFF while E substitutes a dedicated lane, or under OFF makes the lane a dedicated one:
the handback overlap follows at once (R184). -/
def State.quadOff (old : Tbl Nat) (s : State) : State :=
  match s.quad.serving with
  | some i =>
    if s.acfg 0x2220 1 = 2 ∧ (cfg old 0x2220 1 ≠ 2 ∨ (dedSlot old i).isNone = true) ∧ (dedSlot s.active i).isSome ∧ s.quad.overlap.isNone = true ∧ s.quad.parked.isNone = true then
      { s with quad := { s.quad with left := s.quad.ovl, held := false } }
    else s
  | none => s

/-- 2200h+l.02 (R199). -/
def State.laneState (s : State) (p : Nat) : Nat :=
  if (s.lane p).faulted then 4
  else if decide (s.boot = .running) && !s.lanesRun then 5
  else if (match s.quad.overlap with
      | some o => p = 4 || o.lane = p
      | none => false) then 2
  else if s.windowOpen p || (s.cal.run = some CalKind.self && s.cal.started && s.cal.lane = p) then 3
  else if (if p = 4 then s.quad.serving.isSome else s.quad.serving = some p) then 1
  else 0

/-- CONVERSION_END. -/
def execConversionEnd (lane : Fin 4) (x : Int) (ref : RefLevel) (s : State) : Host.Outcome State Fault Refusal :=
  s.run (·.conversionEnd lane.val x ref)
/-- DEDICATED_OUTPUT_SAMPLE. -/
def execDedicatedOutputSample (lane : Fin 5) (x : Int) (ref : RefLevel) (cyc : Nat) (s : State) :
    Host.Outcome State Fault Refusal := s.run (·.outputSample lane.val x ref cyc)
/-- QUADRILLE_MEASUREMENT. -/
def execQuadrilleMeasurement (lane : Fin 5) (point : Fin 27) (z sp : Int) (s : State) : Host.Outcome State Fault Refusal :=
  s.run (·.quadMeasure lane.val point.val z sp)
/-- QUADRILLE_PHASE_END. -/
def execQuadrillePhaseEnd (s : State) : Host.Outcome State Fault Refusal := s.run State.phaseEnd
/-- OVERLAP_END. -/
def execOverlapEnd (s : State) : Host.Outcome State Fault Refusal := s.run State.overlapEnd
/-- LANE_FAULT. -/
def execLaneFault (lane : Fin 5) (s : State) : Host.Outcome State Fault Refusal := s.run (·.laneFault lane.val)
/-- SELF_CALIBRATION_POINT. -/
def execSelfCalibrationPoint (z sp : Int) (s : State) : Host.Outcome State Fault Refusal := s.run (·.selfPoint z sp)

end Sys2Proof.Machine
end

