-- ==== Sys2Proof/Machine/Monitors.lean ====
section
/-! DEFINITION. Window monitors: comparator edges, outputs, captures, readback and faults (chapter 12). -/
namespace Sys2Proof.Machine
open Sys2Proof

/-- The enabled monitors, ascending. -/
def monitorsOn (a : Tbl Nat) : List Nat := listedOn a 0x2800 16

/-- Whether bit m of a routing mask 2810h.sub is set (R306). -/
def State.routed (s : State) (sub m : Nat) : Bool := s.acfg 0x2810 sub / 2 ^ m % 2 = 1

/-- Whether the monitor sampler runs: neither STANDBY nor a clock fault gates it (R313, R314). -/
def State.samplerOn (s : State) : Bool := s.pow.state ≠ .standby && !s.clockFault

/-- Whether monitor m is powered (R313). -/
def State.monitorOn (s : State) (m : Nat) : Bool :=
  s.boot = .running && (monitorsOn s.active).contains m && (s.pow.state ≠ .standby || s.routed 7 m)

/-- Whether the amplifier of the lane that serves slot n settles at a cycle (R304): within 1.0 µs of the start edge of a
multiplexed conversion of the slot, and within 160 ns of a chopper transition, one every 256 cycles, counted from the start edge of
a multiplexed conversion and on the common 6.144 MHz grid on a dedicated lane (R128, R169). -/
def State.ampSettles (s : State) (n cyc : Nat) : Bool :=
  let l := slotLane s.active n
  let chop := fun (d : Nat) => decide (d % 256 * 100000 < 786432)
  if laneMux s.active l then
    match (s.lane l).conv with
    | some c => c.slot = n && (decide ((cyc - 8 * c.start) * 1000 < 49152) || chop (cyc - 8 * c.start))
    | none => false
  else chop (8 * (Config.chopperPhase (s.deliverer l) + s.tick.grid) + cyc)

/-- Bit 2 of 2800h+m.09 at a cycle: whether a hold of R304 is in force: no conversion of the slot, the amplifier settles, an input
pin in fault, a lane stopped or without a server. -/
def State.monHeld (s : State) (m cyc : Nat) : Bool :=
  let code := s.acfg (0x2800 + m) 2
  if code < 0x80 then false
  else
    let n := code - 0x80
    let l := slotLane s.active n
    s.inputFault n || !s.lanesRun || (s.server l).isNone || (laneMux s.active l && !s.converting n) || s.ampSettles n cyc

/-- A capture register takes a stamp, or in hold mode counts an edge it does not store (R309). -/
def CapRt.take (c : CapRt) (hold : Bool) (t : TickNo) (cyc : Nat) : CapRt :=
  if hold && c.held then { c with lost := satInc c.lost }
  else { c with tick := t, offset := BitVec.ofNat 32 cyc, count := satInc c.count, held := hold }

/-- Capture register k on an edge of monitor m (R309). -/
def State.captureEdge (m : Nat) (asserted : Bool) (cyc : Nat) (s : State) (k : Nat) : State :=
  let c := s.acfg 0x2811 (1 + k)
  let sel := if asserted then c / 16 % 2 else c / 32 % 2
  if c % 16 = m ∧ sel = 1 then
    { s with caps := tput (fun _ => {}) s.caps k ((s.capture k).take (c / 64 % 2 = 1) s.tick.counter cyc) }
  else s

/-- The hysteresis shift of a threshold code in effect, clamped to 0–1023 (R302). -/
def shifted (code h : Nat) (up : Bool) : Nat := if up then min 1023 (code + h) else code - h

/-- The threshold code in effect (R302, R310): shifted while the comparator output is asserted, in the modes that move it. -/
def State.thresholdCode (s : State) (m : Nat) (high : Bool) : Nat :=
  let x := 0x2800 + m
  let code := s.lcfg x (if high then 5 else 4)
  let h := s.lcfg x 6
  if !(s.monitor m).comp then code
  else match s.acfg x 3, high with
    | 0, true => shifted code h false
    | 1, false => shifted code h true
    | 2, true => shifted code h false
    | 2, false => shifted code h true
    | 3, true => shifted code h true
    | 3, false => shifted code h false
    | _, _ => code

/-- The codes in effect of both threshold DACs of monitor m, low and high (R302). -/
def State.codes (s : State) (m : Nat) : Nat × Nat := (s.thresholdCode m false, s.thresholdCode m true)

/-- The threshold DACs of monitor m had the codes `was` before a change at a cycle: each whose code in effect is another now is
read no sooner than 150 ns later (R310). -/
def State.dacsMoved (s : State) (m : Nat) (was : Nat × Nat) (cyc : Nat) : State :=
  let c := s.codes m
  s.updMonitor m (fun r => { r with
    loAt := if c.1 = was.1 then r.loAt else (cyc : Int), hiAt := if c.2 = was.2 then r.hiAt else (cyc : Int) })

/-- The comparator output of monitor m takes a state at a cycle: its edge is stamped, and hysteresis moves its DACs (R302, R303,
R309). -/
def State.compEdge (s : State) (m : Nat) (asserted : Bool) (cyc : Nat) : State :=
  if (s.monitor m).comp = asserted then s
  else
    let s1 := (s.updMonitor m (fun r =>
      { r with comp := asserted, edge := (s.tick.counter, cyc), since := (cyc : Int) })).dacsMoved m (s.codes m) cyc
    if s.samplerOn then (List.range 8).foldl (State.captureEdge m asserted cyc) s1 else s1

/-- Counts a monitor event record of a tick against the limit of 32 (R82). -/
def TickSt.takeMonitor (t : TickSt) (n : TickNo) : Bool × TickSt :=
  match t.hist.find? (fun i => i.tick = n) with
  | some i =>
    if i.monitorEvents < 32 then
      (true, { t with hist := t.hist.map (fun j => if j.tick = n then { j with monitorEvents := j.monitorEvents + 1 } else j) })
    else (false, t)
  | none => (true, t)

/-- An event record of monitor m (R308). -/
def State.monEvent (s : State) (m code : Nat) (value : BitVec 32) (t : TickNo) : State :=
  let ring := s.acfg 0x2810 10
  if !s.routed 9 m || ring = 0xffff then s
  else if s.acfg (0x2500 + ring) 1 = 0 then { s with mon := { s.mon with lost := satInc s.mon.lost } }
  else
    let k := s.tick.takeMonitor t
    if k.1 then
      { s with
        tick := k.2
        formed := insertMonitor ⟨ring, { kind := 3, val := value, aux := BitVec.ofNat 24 (code + 256 * (0x300 + m)), tick := t }, 0⟩
          s.formed }
    else { s with mon := { s.mon with lost := satInc s.mon.lost } }

/-- Sets a pending bit of 2810h.0B (R307). -/
def State.monPend (s : State) (k : Nat) : State :=
  { s with mon := { s.mon with pending := s.mon.pending ||| BitVec.ofNat 32 (2 ^ k) } }

/-- The monitor output takes a state (R63, R305–R308): an assertion counts, pends, and is an event of slots; both states
write an event record. `value` is the record's VALUE, `t` its TICK, `cyc` the instant of the change. Whether the assertion is
routed to the slots is judged at the change, not at its latch (DESIGN CHOICE, log entry 30). -/
def State.monOutput (s : State) (m : Nat) (asserted : Bool) (value : BitVec 32) (t : TickNo) (cyc : Nat) : State :=
  if (s.monitor m).out = asserted then s
  else
    let s1 := s.updMonitor m (fun r => { r with out := asserted, asserts := if asserted then satInc r.asserts else r.asserts })
    if asserted then
      let s2 := (s1.monPend m).monEvent m 0x40 value t
      if s.routed 8 m && s.tick.on then s2.willLatch [0x10 + m] (cyc + 3) else s2
    else s1.monEvent m 0x41 value t

/-- The threshold of a code for monitor m, in nV of the compared quantity (R301): 5 mV a step at a pin, FS ÷ 409.6 a step from code
512 at an amplifier, with FS = Vref ÷ 2^g of its slot; `vref` is the slot's reference in nV. -/
def State.threshold (s : State) (m code vref : Nat) : Rat :=
  let inp := s.acfg (0x2800 + m) 2
  if inp < 0x80 then ((code * 5000000 : Nat) : Rat)
  else ((code : Int) - 512 : Int) * mkRat vref (2 ^ slotCfg s.active (inp - 0x80) 5) * mkRat 10 4096

/-- The polarity sign that the comparator input of monitor m is multiplied by, under AC-SWAP of its slot's source (R156, R301). -/
def State.monSign (s : State) (m : Nat) : Int :=
  let inp := s.acfg (0x2800 + m) 2
  if 0x80 ≤ inp ∧ acSlot s.active (inp - 0x80) = true ∧ (s.source (slotCfg s.active (inp - 0x80) 7)).pos = false then -1 else 1

/-- The state the comparator of monitor m takes for the compared quantity v, in nV, with the thresholds of the codes in effect
(R302): from released it asserts on the condition of its mode, from asserted it releases on the other. An OUTSIDE monitor with
low ≥ high is always asserted. -/
def State.compare302 (s : State) (m : Nat) (v : Int) (vref : Nat) : Bool :=
  let x : Rat := ((s.monSign m * v : Int) : Rat)
  let lo := s.threshold m (s.thresholdCode m false) vref
  let hi := s.threshold m (s.thresholdCode m true) vref
  let on := (s.monitor m).analog
  match s.acfg (0x2800 + m) 3 with
  | 0 => if on then !decide (x < hi) else decide (hi < x)
  | 1 => if on then !decide (lo < x) else decide (x < lo)
  | 2 =>
    if s.lcfg (0x2800 + m) 5 ≤ s.lcfg (0x2800 + m) 4 then true
    else if on then !(decide (lo < x) && decide (x < hi)) else decide (hi < x) || decide (x < lo)
  | _ => if on then !(decide (hi < x) || decide (x < lo)) else decide (lo < x) && decide (x < hi)

/-- COMPARATOR_EDGE (R302, R303): the compared quantity of monitor m is v, in nV, at a cycle, and its comparator takes the state that
v gives; a hold keeps the comparator output, a fault forces it. `vref` is the reference of an amplifier input's slot, in nV. -/
def State.comparatorEdge (s0 : State) (m : Nat) (v : Int) (vref cyc : Nat) : State :=
  let s := s0.at cyc
  if s.monitorOn m && !s.monHeld m cyc then
    let on := s.compare302 m v vref
    let s1 := s.updMonitor m (fun r => { r with analog := on })
    if (s.monitor m).faulted then s1 else s1.compEdge m on cyc
  else s

/-- MONITOR_OUTPUT_CHANGE (R305): the monitor output takes the comparator output's state once that has been stable for Q cycles, 3
cycles after the edge at the earliest. -/
def State.monitorChange (s0 : State) (m : Nat) (asserted : Bool) (cyc : Nat) : State :=
  let s := s0.at cyc
  let r := s.monitor m
  if s.monitorOn m && s.samplerOn && !r.faulted && r.comp = asserted &&
      decide (r.since + 3 + s.acfg (0x2800 + m) 7 ≤ (cyc : Int)) then
    s.monOutput m asserted (BitVec.ofNat 32 r.edge.2) r.edge.1 cyc
  else s

/-- The states that the fault action of monitor m forces on its comparator output and its monitor output (R311). -/
def State.forced (s : State) (m : Nat) : Bool × Bool :=
  match s.acfg (0x2800 + m) 8 with
  | 0 => (true, true)
  | 1 => (false, false)
  | _ => ((s.monitor m).keptComp, (s.monitor m).keptOut)

/-- A monitor fault forces both outputs as the fault action selects (R311). -/
def State.monForce (s : State) (m : Nat) : State :=
  let c := s.tick.cyc
  let f := s.forced m
  (s.compEdge m f.1 c).monOutput m f.2 (BitVec.ofNat 32 c) s.tick.counter c

/-- Monitor m faults (R310): cause, count, pending bit, event 42h, event log, EMCY; then its outputs are forced. -/
def State.monFault (s : State) (m : Nat) (high : Bool) (diff : Int) : State :=
  let cause : BitVec 8 := if high then 2 else 1
  let s1 := s.updMonitor m (fun r =>
    { r with faulted := true, cause := cause, faults := satInc r.faults, clearReq := false, keptComp := r.comp, keptOut := r.out })
  let s2 := ((s1.monPend (16 + m)).monEvent m 0x42 (BitVec.ofInt 32 diff) s.tick.counter).event (0x2800 + m) 10 cause.toNat
  (s2.emcy 0xff03 m).monForce m

/-- MONITOR_READBACK (R310, R311): a threshold DAC of monitor m is read at a cycle and compared with the code in effect. A reading
within 150 ns after a change of the code is dropped: it is taken again. -/
def State.monReadback (s0 : State) (m : Nat) (high : Bool) (reading cyc : Nat) : State :=
  let s := s0.at cyc
  let at_ := if high then (s.monitor m).hiAt else (s.monitor m).loAt
  let fresh := decide (((cyc : Int) - at_) * 100000 < 737280)
  if s.monitorOn m && s.samplerOn && !fresh then
    let diff : Int := (reading : Int) - (s.thresholdCode m high : Int)
    let ok := decide (diff.natAbs ≤ 2)
    let s1 := s.updMonitor m (fun r =>
      if high then { r with rbHigh := reading, okHigh := ok } else { r with rbLow := reading, okLow := ok })
    if !ok && !(s.monitor m).faulted then s1.monFault m high diff else s1
  else s

/-- A fault clear is requested: readings of both DACs are awaited (R311). A further request while one waits changes nothing. -/
def State.monClear (s : State) (m : Nat) : State :=
  if (s.monitor m).faulted && !(s.monitor m).clearReq then s.updMonitor m (fun r => { r with clearReq := true, okLow := false, okHigh := false }) else s

/-- At a boundary a requested clear whose readings are good ends the fault, and the comparator drives again (R311). -/
def State.monBoundary (s : State) (m : Nat) : State :=
  let r := s.monitor m
  if r.faulted && r.clearReq && r.okLow && r.okHigh then
    ((s.updMonitor m (fun r => { r with faulted := false, cause := 0, clearReq := false })).monEvent m 0x43 0 s.tick.counter).compEdge
      m r.analog 0
  else s

/-- An activation that changes .01, .02, .03 or .07 of a monitor starts it released (R315); a fault in force keeps its forced
outputs (R311). -/
def MonRt.restart (r : MonRt) : MonRt :=
  if r.faulted then { r with analog := false } else { r with analog := false, comp := false, out := false }

/-- The sampler restarts (R313, R314): an output whose comparator differs takes its state; an assertion so found has VALUE
FFFF FFFFh. A faulted monitor is forced as its fault action selects (R311), without a capture. -/
def State.monResume (s : State) (m : Nat) : State :=
  let r := s.monitor m
  if r.faulted then
    ((s.updMonitor m (fun r => { r with comp := (s.forced m).1 })).dacsMoved m (s.codes m) s.tick.cyc).monOutput
      m (s.forced m).2 0xffffffff s.tick.counter s.tick.cyc
  else s.monOutput m r.comp 0xffffffff s.tick.counter s.tick.cyc

/-- A tick has passed: instants of a monitor lie further back. -/
def MonRt.tickOver (r : MonRt) (cycles : Nat) : MonRt :=
  { r with since := r.since - cycles, loAt := r.loAt - cycles, hiAt := r.hiAt - cycles }

/-- STANDBY releases every monitor output, and the comparator outputs of monitors without wake bit (R313). -/
def State.monStandby (s : State) (m : Nat) : State :=
  (s.updMonitor m (fun r =>
    let r' := { r with out := false }
    if s.routed 7 m then r' else { r' with analog := false, comp := false })).dacsMoved m (s.codes m) s.tick.cyc

/-- MONk (R306): high while any selected monitor's comparator output is asserted. -/
def State.monPin (s : State) (k : Nat) : Bool :=
  (monitorsOn s.active).any (fun m => s.routed (1 + k) m && (s.monitor m).comp)

/-- 2800h+m.09 (R301). -/
def State.monState (s : State) (m : Nat) : Nat :=
  let r := s.monitor m
  (if r.comp then 1 else 0) + (if r.out then 2 else 0) +
    (if (monitorsOn s.active).contains m && s.monHeld m s.tick.cyc then 4 else 0) + (if r.faulted then 8 else 0)

/-- Re-arms capture registers (R309). -/
def State.capRearm (s : State) (mask : BitVec 8) : State :=
  { s with caps := tmapVals (fun _ => {}) (fun k c => if mask.getLsbD k then { c with held := false } else c) s.caps }

/-- Clears pending bits of 2810h.0B (R307). -/
def State.monPendClear (s : State) (mask : BitVec 32) : State :=
  { s with mon := { s.mon with pending := s.mon.pending &&& ~~~mask } }

/-- COMPARATOR_EDGE. -/
def execComparatorEdge (m : Fin 16) (input : CompInput) (cyc : Nat) (s : State) : Host.Outcome State Fault Refusal :=
  s.run (·.comparatorEdge m.val input.v input.vref cyc)
/-- MONITOR_OUTPUT_CHANGE. -/
def execMonitorOutputChange (m : Fin 16) (asserted : Bool) (cyc : Nat) (s : State) : Host.Outcome State Fault Refusal :=
  s.run (·.monitorChange m.val asserted cyc)
/-- MONITOR_READBACK. -/
def execMonitorReadback (m : Fin 16) (high : Bool) (reading : ThresholdReading) (s : State) :
    Host.Outcome State Fault Refusal := s.run (·.monReadback m.val high reading.code.val reading.cyc)

end Sys2Proof.Machine
end

