-- ==== Sys2Proof/Machine/Outputs.lean ====
section
/-! DEFINITION. Outputs, waveform generators and their supervision (chapter 13). -/
namespace Sys2Proof.Machine
open Sys2Proof

/-- The mode of output n. -/
def State.outMode (s : State) (n : Nat) : Nat := s.acfg (0x2900 + n) 1

/-- Whether output n uses its current span (R319). -/
def State.outCurrent (s : State) (n : Nat) : Bool :=
  s.outMode n = 2 || (s.outMode n = 3 && s.acfg (0x2900 + n) 4 = 1)

/-- The span in force (R320), in µV or nA: whether bipolar, and S or B. -/
def State.outSpan (s : State) (n : Nat) : Bool × Nat :=
  if s.outCurrent n then
    match s.acfg (0x2900 + n) 3 with
    | 0 => (false, 20000000)
    | 1 => (false, 24000000)
    | _ => (true, 10000000)
  else
    match s.acfg (0x2900 + n) 2 with
    | 0 => (false, 2500000)
    | 1 => (false, 5000000)
    | 2 => (true, 1250000)
    | _ => (true, 2500000)

/-- The output value of a code in a span (R320). -/
def spanValue (sp : Bool × Nat) (k : Int) : Rat :=
  if sp.1 then mkRat ((k - 32768) * (sp.2 : Int)) 32768 else mkRat (k * (sp.2 : Int)) 65536

/-- The width of a span: from code 0 to 65 536. -/
def spanWidth (sp : Bool × Nat) : Nat := if sp.1 then 2 * sp.2 else sp.2

/-- Forced to mid-scale (R323, R324): held code 8000h, released bit cleared, earlier codes superseded. -/
def OutRt.mid (r : OutRt) : OutRt :=
  { r with held := 0x8000, code := 0x8000, released := false, driven := false, sampled := none, fresh := [] }

/-- An accepted write of 2900h+n.06 at a cycle of the running tick (R324, R326). -/
def State.writeCode (s : State) (n : Nat) (code : BitVec 16) (cyc : Nat) : State :=
  s.updOutput n (fun r => { r with held := code, released := true, fresh := r.fresh ++ [((cyc : Int), code)] })

/-- Whether a write at instant t counts at an update event at instant e: it completed at least 2 µs before (R326). -/
def inTime (e t : Int) : Bool := decide (98304 ≤ (e - t) * 1000)

/-- The last write in time, and the writes left for later events (R326). -/
def takeFresh {α : Type} (e : Int) (cur : α) (l : List (Int × α)) : α × List (Int × α) :=
  ((l.filter (fun w => inTime e w.1)).foldl (fun _ w => w.2) cur, l.filter (fun w => !inTime e w.1))

/-- Whether output n follows its codes: released, without latched fault or stop (R324, R335, R338). -/
def State.outFollows (s : State) (n : Nat) : Bool := (s.output n).released && !(s.output n).fault && !s.stopped

/-- Whether output n has left mid-scale: it follows its codes, and an update event has applied one written since (R323, R324). -/
def State.outDrives (s : State) (n : Nat) : Bool := s.outFollows n && (s.output n).driven

/-- w with 24 fraction bits from φ and the PRBS register (R329). -/
def waveW (shape : Nat) (phi : BitVec 32) (prbs : BitVec 31) : Int :=
  let p := phi.toNat
  match shape with
  | 0 =>
    let i := p / 2 ^ 20
    let f : Nat := p / 2 ^ 8 % 4096
    let a := sineEntry i
    let b := sineEntry ((i + 1) % 4096)
    roundEven (mkRat (a * 4096 + (b - a) * f) 4096)
  | 1 =>
    if p < 2 ^ 30 then roundEven (mkRat p 64)
    else if p < 3 * 2 ^ 30 then roundEven (mkRat (2 ^ 31 - (p : Int)) 64)
    else roundEven (mkRat ((p : Int) - 2 ^ 32) 64)
  | 2 => if p < 2 ^ 31 then roundEven (mkRat p 128) else roundEven (mkRat ((p : Int) - 2 ^ 32) 128)
  | _ => if prbs.getLsbD 30 then 2 ^ 24 else -(2 ^ 24)

/-- The output code in WAVE: held code plus A × w, rounded once and saturated, with whether it saturated (R330). -/
def waveCode (code : BitVec 16) (a : Nat) (w : Int) : Int × Bool :=
  let n := roundEven (mkRat ((code.toNat : Int) * 2 ^ 24 + (a : Int) * w) (2 ^ 24))
  (clampInt 0 65535 n, decide (n < 0) || decide (65535 < n))

/-- One step of the register of x^31 + x^28 + 1 (R329); bit 30 is its output bit (PRESUMED). -/
def prbsStep (r : BitVec 31) : BitVec 31 := (r <<< 1) ||| (BitVec.ofBool (r.getLsbD 30 != r.getLsbD 27)).setWidth 31

/-- `k` steps of the register. -/
def prbsSteps : Nat → BitVec 31 → BitVec 31
  | 0, r => r
  | k + 1, r => prbsSteps k (prbsStep r)

/-- φ and the register after `k` output-update cycles (R328). -/
def GenRt.move (r : GenRt) (k : Nat) : GenRt :=
  let t := r.phi.toNat + k * r.f
  { r with phi := BitVec.ofNat 32 t, prbs := prbsSteps (t / 2 ^ 32) r.prbs, adv := r.adv + k }

/-- The same, cycle by cycle, counting the cycles whose code saturates (R330). -/
def GenRt.moveCount (shape : Nat) (code : BitVec 16) : Nat → GenRt → GenRt
  | 0, r => r
  | k + 1, r =>
    let sat := (waveCode code r.a (waveW shape r.phi r.prbs)).2
    GenRt.moveCount shape code k { r.move 1 with sat := if sat then satInc r.sat else r.sat }

/-- Whether any code of generator amplitude a around a held code can saturate. -/
def canSaturate (code : BitVec 16) (a : Nat) : Bool := decide (code.toNat < a) || decide (65535 < code.toNat + a)

/-- Generator g runs up to output-update cycle `upTo` of the running tick (R328, R330). -/
def State.genAdvance (s : State) (g upTo : Nat) : State :=
  let r := s.gen g
  let o := s.output g
  if s.acfg (0x2910 + g) 1 = 1 ∧ s.pow.state ≠ .standby ∧ s.boot = .running then
    let k := upTo - r.adv
    let drives := s.outMode g = 3 && !o.hiZ && s.outDrives g && canSaturate o.code r.a
    s.updGen g (fun r => if drives then GenRt.moveCount (s.acfg (0x2910 + g) 2) o.code k r else r.move k)
  else s.updGen g (fun r => { r with adv := upTo })

/-- Every generator runs up to the latest cycle named, before outputs are forced to mid-scale (R330). -/
def State.gensNow (s : State) : State :=
  if s.tick.on then [0, 1, 2, 3].foldl (fun acc g => acc.genAdvance g (s.tick.cyc / 2)) s else s

/-- Forces output n to mid-scale unless it is HIZ (R323). -/
def State.forceMid (s : State) (n : Nat) : State := if s.outMode n = 0 then s else s.updOutput n OutRt.mid

/-- Every output in VOLT, CURR or WAVE is forced to mid-scale (R338). -/
def State.forceAllMid (s : State) : State := [0, 1, 2, 3].foldl State.forceMid s.gensNow

/-- φ is set to P0 and the register to 7FFF FFFFh (R328, R329, R332), at the boundary that 2910h+g.0B then reports (R345). -/
def State.genStart (s : State) (g : Nat) : State :=
  s.updGen g (fun r => { r with
    phi := BitVec.ofNat 32 (s.lcfg (0x2910 + g) 5), phiB := BitVec.ofNat 32 (s.lcfg (0x2910 + g) 5), prbs := 0x7fffffff })

/-- The code formed for output n where its generator stands (R324, R330). -/
def State.formedCode (s : State) (n : Nat) : Int :=
  let o := s.output n
  let r := s.gen n
  if s.outMode n = 3 && s.outDrives n && s.acfg (0x2910 + n) 1 = 1 then
    (waveCode o.code r.a (waveW (s.acfg (0x2910 + n) 2) r.phi r.prbs)).1
  else (o.code.toNat : Int)

/-- The system clock cycle in which output n is read (R334): t0 + (2 + n) µs. -/
def readCycle (n : Nat) : Nat := (2 + n) * 49152 / 1000

/-- The output-update cycle in which the code that the core then drives was formed, 3 cycles before (R319). -/
def formCycle (n : Nat) : Nat := readCycle n / 2 - 3

/-- The code that the reading of this tick finds at the core is kept before something that changes it later, at output-update cycle
`j` (R319, R333). -/
def State.keepSample (s : State) (n j : Nat) : State :=
  if s.tick.on && (s.output n).sampled.isNone && decide (formCycle n < j) then
    let s1 := s.genAdvance n (formCycle n)
    s1.updOutput n (fun r => { r with sampled := some (s1.formedCode n) })
  else s

/-- The update event of output n at cycle e of the running tick (R324, R326, R331). -/
def State.updateAt (s : State) (n e : Nat) : State :=
  let s1 := (s.keepSample n (e / 2)).genAdvance n (e / 2)
  let follows := s1.outFollows n
  let s2 := s1.updOutput n (fun r =>
    if follows then { r with
      code := (takeFresh e r.code r.fresh).1, driven := r.driven || r.fresh.any (fun w => inTime e w.1),
      fresh := (takeFresh e r.code r.fresh).2 }
    else r)
  s2.updGen n (fun r => { r with
    f := (takeFresh e r.f r.fFresh).1, fFresh := (takeFresh e r.f r.fFresh).2,
    a := (takeFresh e r.a r.aFresh).1, aFresh := (takeFresh e r.a r.aFresh).2 })

/-- Whether the running tick holds an update event of output n (R325). -/
def State.updateTick (s : State) (n : Nat) : Bool := s.tick.counter.toNat % s.acfg (0x2900 + n) 9 = 0

/-- UPDATE_EVENT (R325): the timer event of output n; a boundary event is taken by TICK_BOUNDARY. One at t0 gives the code in force
there, .10 (R326). -/
def State.updateEvent (s : State) (n : Nat) : State :=
  let e := 2 * (s.acfg (0x2900 + n) 8 % (4 * tickN s.active))
  if s.tick.on && s.acfg (0x2900 + n) 7 = 1 && s.updateTick n then
    let s1 := (s.at e).updateAt n e
    if e = 0 then s1.updOutput n (fun r => { r with inForce := BitVec.ofInt 16 (s1.formedCode n) }) else s1
  else s

/-- PHASE_RESET (R332): at t0 of the reset tick φ is set to P0, and the next reset is set q ticks on; 2900h+g.10 reports the code
formed there. -/
def State.phaseReset (s : State) (g : Nat) : State :=
  let r := s.gen g
  if s.tick.on && s.tick.part = TickPart.prologue && r.armed && r.next = s.tick.counter then
    let q := s.lcfg (0x2910 + g) 7
    let s1 := (s.genStart g).updGen g (fun r => { r with
      adv := 0, resets := satInc r.resets, again := true, armed := decide (q ≠ 0), next := r.next + BitVec.ofNat 32 q })
    s1.updOutput g (fun r => { r with inForce := BitVec.ofInt 16 (s1.formedCode g) })
  else s

/-- A phase reset is armed at tick R (R332). -/
def State.genArm (s : State) (g : Nat) : State :=
  s.updGen g (fun r => { r with armed := true, again := false, next := BitVec.ofNat 32 (s.lcfg (0x2910 + g) 6) })

/-- Causes that hold at a reading (R334): OPEN-LOAD, COMPLIANCE, OVERLOAD, READBACK; and CLIP. -/
structure Holds where
  openLoad : Bool := false
  compl    : Bool := false
  overload : Bool := false
  readback : Bool := false
  clip     : Bool := false
  deriving DecidableEq, Repr

/-- The code at the core when output n is read (R319, R330, R333): the one kept, or the one formed where the generator stands, at
`formCycle`. -/
def State.coreCode (s : State) (n : Nat) : Int := (s.output n).sampled.getD (s.formedCode n)

/-- What a generator adds to the tolerance, in codes (R334): A × 2π × f × 200 ns. -/
def waveTolerance (r : GenRt) : Rat :=
  (r.a : Rat) * twoPi * (r.f : Rat) * mkRat (24576000 * 200) (2 ^ 32 * 1000000000)

/-- The causes that hold at a reading of output n (R334). Voltages in µV, current in nA, positive out of the pin. -/
def State.judgeOutput (s : State) (n : Nat) (vOut vSense iOut vmid avdd : Int) : Holds :=
  let sp := s.outSpan n
  let cur := s.outCurrent n
  let want := spanValue sp (s.coreCode n)
  let width : Rat := (spanWidth sp : Rat)
  let tol := (s.acfg 0x2920 1 : Rat) * width / 10000 +
    (if s.outMode n = 3 then waveTolerance (s.gen n) * width / 65536 else 0)
  let detect := s.acfg 0x2920 3 / 2 ^ n % 2 = 1
  let sense := s.acfg (0x2900 + n) 5 = 1
  if cur then
    let headroom := if 0 ≤ want then avdd - vOut else vOut
    { openLoad := detect && decide (headroom < 100000) && decide (1000000 ≤ ratAbs want) &&
        decide (((10 * iOut.natAbs : Nat) : Rat) < ratAbs want)
      compl := decide (headroom < 500000)
      readback := decide (tol < ratAbs ((iOut : Rat) - want)) }
  else
    let pin := want + (if sp.1 then (vmid : Rat) else 0)
    let top : Rat := ((avdd - 200000 : Int) : Rat)
    let expect := if top < pin then top else pin
    { openLoad := detect && sense && decide (250000 < (vOut - vSense).natAbs)
      overload := decide (25000000 < iOut.natAbs)
      readback := decide (tol < ratAbs ((if sense then vSense else vOut : Int) - expect))
      clip := decide (top < pin) }

/-- Runs of consecutive readings, status bits, and whether a clear can follow (R334, R336). -/
def OutRt.reading (r : OutRt) (h : Holds) (late : Bool) : OutRt :=
  let any := h.openLoad || h.compl || h.overload || h.readback
  { r with
    clip := h.clip, compl := h.compl, openLoad := h.openLoad, overload := h.overload
    runOpen := if h.openLoad then r.runOpen + 1 else 0
    runCompl := if h.compl then r.runCompl + 1 else 0
    runOver := if h.overload then r.runOver + 1 else 0
    runRead := if h.readback then r.runRead + 1 else 0
    clearOk := if late then !any else r.clearOk }

/-- The cause decided over D readings, the first of the table (R334). -/
def OutRt.decided (r : OutRt) (d : Nat) : Option Nat :=
  if d ≤ r.runOpen then some 3 else if d ≤ r.runCompl then some 2 else if d ≤ r.runOver then some 4
  else if d ≤ r.runRead then some 1 else none

/-- An output fault is latched (R335); up to the availability of the reading, 1 µs after it, the generator's saturated cycles count
(R330). -/
def State.outFault (s : State) (n cause : Nat) : State :=
  let s0 := if s.tick.on then s.genAdvance n ((3 + n) * 24576 / 1000) else s
  let s1 := s0.updOutput n (fun r =>
    { r.mid with
      fault := true, cause := BitVec.ofNat 8 cause, faults := satInc r.faults
      clearReq := none, clearOk := false })
  (({ s1 with outPend := s1.outPend ||| BitVec.ofNat 4 (2 ^ n) }).event (0x2900 + n) 11 cause).emcy 0xff02 n

/-- OUTPUT_READING (R334): output n is read at t0 + (2 + n) µs of the running tick. In HIZ no cause holds (R343), so that a fault
kept over a change to HIZ can be cleared (R336, R340). -/
def State.outputReading (s : State) (n : Nat) (vOut vSense iOut vmid avdd : Int) : State :=
  if s.converterOn then
    let mode := s.outMode n
    let late := match (s.output n).clearReq with
      | some t => decide (t < (readCycle n : Int))
      | none => false
    if mode = 0 then
      s.updOutput n (fun r => { r.reading {} late with vRead := clampInt (-0x80000000) 0x7fffffff vOut })
    else
      let s1 := if s.tick.on && (s.output n).sampled.isNone then s.genAdvance n (formCycle n) else s
      let h := s1.judgeOutput n vOut vSense iOut vmid avdd
      let cur := s.outCurrent n
      let s2 := s1.updOutput n (fun r => { r.reading h late with
        vRead := clampInt (-0x80000000) 0x7fffffff vOut
        iRead := if cur then clampInt (-0x80000000) 0x7fffffff iOut else r.iRead })
      match (s2.output n).decided (s.acfg 0x2920 2), (s.output n).fault with
      | some c, false => s2.outFault n c
      | _, _ => s2
  else s

/-- A clear of an output fault is requested at a cycle of the running tick (R336); a request that waits goes on waiting. -/
def State.outClear (s : State) (n cyc : Nat) : State :=
  if (s.output n).fault && (s.output n).clearReq.isNone then s.updOutput n (fun r => { r with clearReq := some (cyc : Int), clearOk := false }) else s

/-- A tick has passed on an output: pending instants move back (R326, R336). -/
def OutRt.tickOver (cycles : Nat) (r : OutRt) : OutRt :=
  { r with
    sampled := none
    fresh := r.fresh.map (fun w => (w.1 - (cycles : Int), w.2))
    clearReq := r.clearReq.map (fun t => t - (cycles : Int)) }

/-- A tick has passed on a generator. -/
def GenRt.tickOver (cycles : Nat) (r : GenRt) : GenRt :=
  { r with
    fFresh := r.fFresh.map (fun w => (w.1 - (cycles : Int), w.2))
    aFresh := r.aFresh.map (fun w => (w.1 - (cycles : Int), w.2))
    adv := 0, phiB := r.phi }

/-- Generator g and output g at the end of a tick: φ reaches t0 where the tick has run to its end, instants move back
(R328). -/
def State.outTickOver (cycles : Nat) (s : State) (n : Nat) : State :=
  let s1 := if s.tick.on then s.genAdvance n (cycles / 2) else s
  (s1.updGen n (GenRt.tickOver cycles)).updOutput n (OutRt.tickOver cycles)

/-- Output n at a boundary (R325, R326, R336): a clear ends its fault, then a boundary update event, then .10, in WAVE the code
formed with the generator at the boundary. -/
def State.outBoundary (s : State) (n : Nat) : State :=
  let s1 := s.updOutput n (fun r =>
    if r.fault && r.clearReq.isSome && r.clearOk then { r with fault := false, cause := 0, clearReq := none, clearOk := false }
    else r)
  let s2 := if s.acfg (0x2900 + n) 7 = 0 && s.updateTick n then s1.updateAt n 0 else s1
  s2.updOutput n (fun r => { r with inForce := BitVec.ofInt 16 (s2.formedCode n) })

/-- An activation that changes .01–.04 (R327): the output takes its mode and span and is forced to mid-scale. A
cause that holds before and after goes on with its run of readings (R334). -/
def State.outRestart (s : State) (n : Nat) : State := s.updOutput n (fun r => { r.mid with hiZ := s.outMode n = 0 })

/-- The boundary that opens tick 0 (R323, R328): outputs drive mid-scale, one in HIZ stays as it is; enabled generators start at
P0. -/
def State.outStart (s : State) (n : Nat) : State :=
  ((if s.outMode n = 0 then s else s.outRestart n).genStart n).updGen n (fun r =>
    { r with f := s.lcfg (0x2910 + n) 3, a := s.lcfg (0x2910 + n) 4, fFresh := [], aFresh := [] })

/-- STANDBY (R338): every output is high impedance. -/
def State.outStandby (s : State) (n : Nat) : State := s.updOutput n (fun r => { r with hiZ := true })

/-- The first boundary after STANDBY (R338): a released output drives its held code, φ is P0. -/
def State.outResume (s : State) (n : Nat) : State :=
  let follows := s.outFollows n
  (s.genStart n).updOutput n (fun r =>
    { r with hiZ := s.outMode n = 0, code := if follows then r.held else 0x8000, driven := follows,
             fresh := if follows then [] else r.fresh })

/-- 2900h+n.0A (R345). -/
def OutRt.status (r : OutRt) : Nat :=
  (if r.released then 1 else 0) + (if r.fault then 2 else 0) + (if r.clip then 4 else 0) + (if r.compl then 8 else 0) +
    (if r.openLoad then 16 else 0) + (if r.overload then 32 else 0)

/-- UPDATE_EVENT. -/
def execUpdateEvent (n : Fin 4) (s : State) : Host.Outcome State Fault Refusal := s.run (·.updateEvent n.val)
/-- PHASE_RESET. -/
def execPhaseReset (g : Fin 4) (s : State) : Host.Outcome State Fault Refusal := s.run (·.phaseReset g.val)
/-- OUTPUT_READING. -/
def execOutputReading (n : Fin 4) (vOut vSense iOut vmid avdd : Int) (s : State) : Host.Outcome State Fault Refusal :=
  s.run (·.outputReading n.val vOut vSense iOut vmid avdd)

end Sys2Proof.Machine
end

