-- ==== Sys2Proof/Machine/Journal.lean ====
section
/-! DEFINITION. The NVM journal: records, generations, stores and restores, compaction, the start-up scan (chapter 15). -/
namespace Sys2Proof.Machine
open Sys2Proof

/-- Bytes a record with an L-byte payload occupies (R369). -/
def recordSize (l : Nat) : Nat := (16 + (l + 3) / 4 * 4 + 15) / 16 * 16

/-- The image of a record from its first byte to its commit word (R369). -/
def recordImage (typ cls seq : Nat) (payload : List Byte) : List Byte :=
  let l := payload.length
  let head := leBytes 1 typ ++ leBytes 1 cls ++ leBytes 2 l ++ leBytes 4 seq
  head ++ leBytes 4 (crc32 (head ++ payload)).toNat ++ payload ++ List.replicate ((l + 3) / 4 * 4 - l) 0xff ++
    leBytes 4 0xa5c33c5a

/-- Length of the payload a record is written with: a close record gains the sequence of its first data record. -/
def JRec.length (r : JRec) : Nat := if r.typ = 2 then 8 else r.payload.length

/-- What an erased byte reads as. -/
def erased (_ : Nat) : Nat := 0xff

/-- Writes bytes at ascending addresses. -/
def burn (flash : Tbl Nat) (addr : Nat) : List Byte → Tbl Nat
  | [] => flash
  | b :: t => burn (tput erased flash addr b.toNat) (addr + 1) t

/-- Whether a sector is fully erased. -/
def sectorErased (flash : Tbl Nat) (sec : Nat) : Bool := !flash.any (fun e => e.1 / 32768 = sec)

/-- Bytes of a complete generation: its data records and its close record. -/
def genSize (payloads : List (List Byte)) : Nat := (payloads.map (fun p => recordSize p.length)).sum + recordSize 8

/-- The latest complete generation of a class. -/
def JournalSt.gen (j : JournalSt) (c : Nat) : Option (List (List Byte)) := tget (fun _ => none) j.gens c

/-- 2B00h.07: bytes in the latest complete generations. -/
def JournalSt.standing (j : JournalSt) : Nat :=
  ([1, 2, 3].map (fun c => match j.gen c with
    | some p => genSize p
    | none => 0)).sum

/-- The records of a generation: data, then close (R371, R372). -/
def genRecords (cls : Nat) (payloads : List (List Byte)) : List JRec :=
  payloads.map (fun p => ({ typ := 1, cls := cls, payload := p } : JRec)) ++
    [{ typ := 2, cls := cls, payload := leBytes 1 cls ++ [0] ++ leBytes 2 payloads.length }]

/-- The records a compaction copies: the latest complete generation of each class, then the newest device state (R380). -/
def JournalSt.copies (j : JournalSt) : List JRec :=
  ([1, 2, 3].flatMap fun c => match j.gen c with
    | some p => genRecords c p
    | none => []) ++
  match j.devLast with
  | some p => [{ typ := 4, cls := 0, payload := p }]
  | none => []

/-- The records of the generation at the head of the plans. -/
def JournalSt.planRecords (j : JournalSt) : List JRec :=
  match j.plans with
  | p :: _ => genRecords p.cls p.payloads
  | [] => []

/-- A record starts to be programmed: at the end of its sector, with the next sequence (R368, R370). -/
def JournalSt.startRec (j : JournalSt) (margin spare : Bool) (r : JRec) : JournalSt :=
  let seq := j.seq + 1
  let first := if r.typ = 1 ∧ j.run = 0 then seq else j.firstSeq
  let payload := if r.typ = 2 then r.payload ++ leBytes 4 (if j.run = 0 then 0 else first) else r.payload
  let addr := if spare then (1 - j.active) * 32768 + j.spareUsed else j.active * 32768 + j.used
  { j with
    firstSeq := first
    run := if r.typ = 1 then j.run + 1 else j.run
    prog := some { jr := r, seq := seq, addr := addr, image := recordImage r.typ r.cls seq payload, spare := spare, margin := margin } }

/-- Compaction begins (R380): the generation under way will be written again in the new sector. -/
def JournalSt.compactNow (j : JournalSt) : JournalSt :=
  { j with compact := .eraseSpare, todo := j.planRecords, run := 0 }

/-- Whether a record of length l may go to the active sector: it fits, and no torn or weak record bars the sector, but for
the record or generation that is written again (R378, R379, R380). -/
def JournalSt.takes (j : JournalSt) (l : Nat) (again : Bool) : Bool :=
  decide (j.used + recordSize l ≤ 32768) && (!j.bad || again)

/-- Data records of a generation copied so far, which outlast what ends or begins a store meanwhile (R380). -/
def JournalSt.copyRun (j : JournalSt) : Nat :=
  match j.compact with
  | .copying _ => j.run
  | _ => 0

/-- The spare sector is erased, or its erase begins (R380). -/
def JournalSt.prepareSpare (j : JournalSt) : JournalSt :=
  if j.compact ≠ .eraseSpare then j
  else if sectorErased j.flash (1 - j.active) ∧ j.erase = none then { j with compact := .copying j.copies, spareUsed := 0, run := 0 }
  else if j.erase = none then { j with erase := some (1 - j.active) }
  else j

/-- Every copy is made: the spare becomes active and the former active sector is erased (R380). -/
def JournalSt.finishCopy (j : JournalSt) : JournalSt :=
  if j.compact = .copying [] then
    { j with compact := .idle, active := 1 - j.active, used := j.spareUsed, spareUsed := 0, bad := false,
             erase := some j.active, run := 0 }
  else j

/-- The next record with an idle sector: a device state ahead of any store, else the store under way; a record that finds
no place asks for compaction. A device state between data records makes the generation start again, since its data records
have consecutive sequences (R371, R441). -/
def JournalSt.nextIdle (j : JournalSt) (margin : Bool) : JournalSt :=
  match j.dev, j.todo with
  | d :: _, _ =>
    if j.takes d.length false then
      let cut := decide (0 < j.run) && (match j.todo with
        | r :: _ => decide (r.typ = 1)
        | [] => false)
      (if cut then { j with todo := j.planRecords, run := 0 } else j).startRec margin false d
    else j.compactNow
  | [], r :: _ => if j.takes r.length (decide (j.retries ≠ 0)) then j.startRec margin false r else j.compactNow
  | [], [] => j

/-- The journal moves on while no record is under program (R380). -/
def JournalSt.move (j : JournalSt) (margin : Bool) : JournalSt :=
  if j.prog.isSome then j
  else
    let j1 := j.prepareSpare.finishCopy
    match j1.compact with
    | .copying (r :: _) => j1.startRec margin true r
    | .idle =>
      let j2 := j1.nextIdle margin
      if j2.compact = .idle then j2
      else
        let j3 := j2.prepareSpare.finishCopy
        match j3.compact with
        | .copying (r :: _) => j3.startRec margin true r
        | .idle => j3.nextIdle margin
        | _ => j3
    | _ => j1

/-- Whether a program that starts now is margin-verified (R378); the stamp of a tick that it runs into adds its own. -/
def State.marginNow (s : State) : Bool := (s.info s.tick.counter).sup || s.clk.causes.any (fun c => c ≠ 4) || s.sup.shutdown

/-- The journal moves on, unless a latched thermal shutdown or a clock fault 01h or 02h bars a start (R134, R382). -/
def State.jnMove (s : State) : State :=
  if s.sup.shutdown || s.clk.coreStopped then s else { s with jn := s.jn.move s.marginNow }

/-- The record under program gains a margin read (R378). -/
def State.jnMargin (s : State) : State :=
  { s with jn := { s.jn with prog := s.jn.prog.map (fun p => { p with margin := true }) } }

/-- Whether a live entry of the communication profile holds the Default it follows from the node-ID (R374). -/
def State.atFollowed (s : State) (e : Nat × Nat) : Bool :=
  decide (e.1 / 256 < 0x2000) && dflt e.1 = follows && e.2 = followDflt s.nodeId (e.1 / 256)

/-- The entries a store of class c captures (R374): those of the active copy and the live entries whose value differs from
its Default, ascending; 2380h.02 among them. -/
def State.capture374 (s : State) (c : Nat) : Tbl Nat :=
  let want := fun (ap : Apply) (e : Nat × Nat) => match entryOf (e.1 / 256) (e.1 % 256) with
    | some x => decide (x.store.num = c) && decide (x.apply = ap)
    | none => false
  let bank := if c = 2 ∧ s.sense.bank ≠ 0 then [(key 0x2380 2, s.sense.bank.toNat)] else []
  ((s.live.filter (fun e => want .live e && !s.atFollowed e)) ++ bank).foldl (fun t e => tins e.1 e.2 (tdel t e.1)) (s.active.filter (want .commit))

/-- One entry of a data payload: index, sub-index, length, value (R371). -/
def entryBytes (e : Nat × Nat) : List Byte :=
  let n := match entryOf (e.1 / 256) (e.1 % 256) with
    | some x => x.ty.bytes
    | none => 0
  leBytes 2 (e.1 / 256) ++ leBytes 1 (e.1 % 256) ++ leBytes 1 n ++ leBytes n e.2

/-- Packs entries into payloads of at most 240 bytes, in order (R371, R374). -/
def packEntries : List (List Byte) → List Byte → List (List Byte)
  | [], cur => if cur.isEmpty then [] else [cur]
  | e :: t, cur =>
    if cur.length + e.length ≤ 240 then packEntries t (cur ++ e)
    else cur :: packEntries t e

/-- The data payloads of a capture. -/
def payloadsOf (l : Tbl Nat) : List (List Byte) := packEntries (l.map entryBytes) []

/-- The live baseline of an enabled element in IDLE is stored (R286). -/
def State.storeBaseline (s : State) (i : Nat) : State :=
  let r := s.elem i
  let x := elemIndex i
  if r.started && r.state = .idle then
    if i < 32 then
      let base := (clampInt 0 200000 (roundEven r.b)).toNat
      let temp := unsigned 16 (clampInt (-5500) 17000 s.sup.die)
      { s with live := tput dflt (tput dflt s.live (key x 15) base) (key x 16) temp }
    else { s with live := tput dflt (tput dflt s.live (key x 10) (encode32 r.b)) (key x 11) 1 }
  else s

/-- What a store of some classes captures from: with the application class the baselines become live entries first (R286). -/
def State.withBaselines (s : State) (classes : List Nat) : State :=
  if classes.contains 2 then (elementsOn s.active).foldl State.storeBaseline s else s

/-- The refusal of a store or restore of some classes, 0 for none (R373). -/
def State.storeRefusal (s : State) (isStore : Bool) (classes : List Nat) : Nat :=
  if 4 ≤ s.jn.queue.length then 0x50b
  else if s.netHalted then 0x505
  else if s.sup.shutdown then 0x50c
  else if isStore ∧ 32752 < (classes.map (fun c => genSize (payloadsOf ((s.withBaselines classes).capture374 c)))).sum + s.jn.standing then 0x50d
  else 0

/-- Classes of a sub-index of 1010h or 1011h (R373). -/
def storeClasses (sub : Nat) : List Nat := if sub = 1 then [1, 2, 3] else [sub - 1]

/-- A request is queued (R373). -/
def State.enqueue (s : State) (isStore : Bool) (sub : Nat) : State :=
  { s with jn := { s.jn with queue := s.jn.queue ++ [{ isStore := isStore, classes := storeClasses sub }] } }

/-- The request at the head of the queue captures its values at a boundary and begins (R374). -/
def State.storeBegin (s : State) : State :=
  match s.jn.queue with
  | [] => s
  | job :: _ =>
    if !s.jn.plans.isEmpty || s.sup.shutdown then s
    else
      let s1 := if job.isStore then s.withBaselines job.classes else s
      let plans : List Plan := job.classes.map fun c =>
        let cap := if job.isStore then s1.capture374 c else []
        { cls := c, payloads := payloadsOf cap, captured := cap }
      let j := { s1.jn with plans := plans, retries := 0 }
      ({ s1 with jn := { j with todo := j.planRecords } }).jnMove

/-- Bit 7 of 2180h+n.16 clears for a calibration coefficient stored and not changed since (R358, R375, R387). -/
def State.clearUnstored (s : State) (cap : List (Nat × Nat)) (isStore : Bool) : State :=
  if !isStore then s
  else
    { s with slots := tmapVals (fun _ => {}) (fun n r =>
        let same := fun sub =>
          let k := key (0x2180 + n) sub
          decide (tget dflt s.active k = tget dflt cap k)
        if same 0x14 && same 0x15 then { r with calStatus := r.calStatus &&& 0x7f } else r) s.slots }

/-- The store or restore under way ends (R375, R378, R382). -/
def JournalSt.endJob (j : JournalSt) : JournalSt :=
  { j with queue := j.queue.drop 1, plans := [], todo := [], retries := 0, run := j.copyRun }

/-- The class being written, for 2B00h.03 at the end of a request. -/
def JournalSt.classNow (j : JournalSt) : BitVec 8 :=
  match j.plans with
  | p :: _ => BitVec.ofNat 8 p.cls
  | [] => j.lastCls

/-- The store under way ends without success, with an event (R378, R382): 02h INTERRUPTED, 03h VERIFY-FAILED. -/
def State.storeFails (s : State) (code : Nat) : State :=
  ({ s with jn := { s.jn.endJob with result := BitVec.ofNat 8 code, lastCls := s.jn.classNow } }).event 0x2b00 2 code

/-- A close record has passed verification (R375): the generation stands; with the last class the request completes. -/
def State.planDone (s : State) : State :=
  match s.jn.plans, s.jn.queue with
  | p :: rest, job :: _ =>
    let j := { s.jn with
      gens := tput (fun _ => none) s.jn.gens p.cls (some p.payloads)
      lastCls := BitVec.ofNat 8 p.cls, plans := rest, run := 0, retries := 0 }
    let s1 : State := if p.cls = 3 then ({ s with jn := j }).clearUnstored p.captured job.isStore else { s with jn := j }
    let s2 : State :=
      if p.cls = 3 ∧ job.isStore = true ∧ p.captured.any (fun e => e.1 = key 0x2c10 9) then
        { s1 with lock := { s1.lock with pwStored := true } }
      else if p.cls = 3 ∧ job.isStore = false then { s1 with lock := { s1.lock with pwStored := false } }
      else s1
    if rest.isEmpty then { s2 with jn := { s2.jn.endJob with result := 1, tick := s2.tick.counter } }
    else { s2 with jn := { s2.jn with todo := s2.jn.planRecords } }
  | _, _ => s

/-- The record programmed was weak (R378): its data or close record is written again, at most twice. -/
def State.rewrite (s : State) (close : Bool) : State :=
  if s.jn.retries = 2 then s.storeFails 3
  else
    let j := s.jn
    { s with jn := { j with
        retries := j.retries + 1, rewrites := satInc j.rewrites
        todo := if close then j.todo else j.planRecords, run := if close then j.run else 0 } }

/-- A device-state record that waits takes the failed count that a record before it has raised (R413, R441). -/
def JRec.recount (n : Nat) (r : JRec) : JRec := { r with payload := r.payload.take 2 ++ leBytes 2 n }

/-- A device-state record has been verified or has failed (R441). -/
def State.devDone (s : State) (r : JRec) (weak : Bool) : State :=
  let s1 := { s with jn := { s.jn with dev := s.jn.dev.drop 1, devLast := if weak then s.jn.devLast else some r.payload } }
  if r.own then
    let n := if weak then s1.lock.fails else min (s1.lock.fails + 1) 65535
    { s1 with
      jn := { s1.jn with dev := s1.jn.dev.map (JRec.recount n) }
      lock := { s1.lock with
        attempt := s1.lock.attempt.map (fun a => { a with verified := true })
        fails := n
        verifyFailed := weak } }
  else s1

/-- A weak copy is made again: the spare is erased and copied once more. -/
def State.copyDone (s : State) (weak : Bool) (rest : List JRec) : State :=
  { s with jn := { s.jn with compact := if weak then .eraseSpare else .copying rest } }

/-- A close record whose store a shutdown has ended is in the flash: its generation stands, unless it is weak (R372, R382). -/
def JournalSt.cutDone (j : JournalSt) (weak : Bool) : JournalSt :=
  match j.cut with
  | some p => { j with cut := none, gens := if weak then j.gens else tput (fun _ => none) j.gens p.cls (some p.payloads) }
  | none => j

/-- RECORD_PROGRAM (R376, R378): the program and verify of the record under way completes; the next begins. -/
def State.recordProgram (s : State) (weak : Bool) : State :=
  match s.jn.prog with
  | none => s
  | some p =>
    let size := recordSize p.jr.length
    let j := { s.jn with
      flash := burn s.jn.flash p.addr p.image, seq := p.seq, prog := none
      used := if p.spare then s.jn.used else s.jn.used + size
      spareUsed := if p.spare then s.jn.spareUsed + size else s.jn.spareUsed
      weak := if weak then p.addr :: s.jn.weak else s.jn.weak
      bad := s.jn.bad || (weak && !p.spare)
      run := if p.spare && p.jr.typ = 2 then 0 else s.jn.run }
    let s1 : State := { s with jn := j }
    let s2 : State :=
      match j.compact with
      | .copying (_ :: rest) => s1.copyDone weak rest
      | _ =>
        if p.jr.typ = 4 then s1.devDone p.jr weak
        else if p.stray || j.plans.isEmpty || j.cut.isSome then { s1 with jn := j.cutDone weak }
        else if weak then (if s.sup.shutdown then s1.storeFails 2 else s1.rewrite (decide (p.jr.typ = 2)))
        else if p.jr.typ = 1 then { s1 with jn := { j with todo := j.todo.drop 1 } }
        else s1.planDone
    s2.jnMove

/-- ERASE_COMPLETE (R380, R381): the erase of a sector ends; it is suspended during a program, in a thermal shutdown, in
a clock fault 01h or 02h and in STANDBY (R134, R382, R498). -/
def State.eraseComplete (s : State) : State :=
  match s.jn.erase with
  | none => s
  | some sec =>
    if s.jn.prog.isSome || s.sup.shutdown || s.netHalted || s.pow.state = .standby then s
    else
      ({ s with jn := { s.jn with
          flash := s.jn.flash.filter (fun e => e.1 / 32768 ≠ sec), erase := none
          weak := s.jn.weak.filter (fun a => a / 32768 ≠ sec)
          erases0 := if sec = 0 then satInc s.jn.erases0 else s.jn.erases0
          erases1 := if sec = 0 then s.jn.erases1 else satInc s.jn.erases1 } }).jnMove

/-- Entry into thermal shutdown (R382): queued requests are discarded, the store under way is interrupted, unless its last
record, the close record, is being programmed; the close record of an earlier class still ends its generation. A data record under
program completes, and belongs to no store any more. -/
def State.jnShutdown (s : State) : State :=
  let j := s.jn
  let closing := match j.prog with
    | some p => decide (p.jr.typ = 2) && !p.spare
    | none => false
  let s1 := s.jnMargin
  if closing && decide (j.plans.length = 1) then { s1 with jn := { s1.jn with queue := j.queue.take 1 } }
  else if j.plans.isEmpty then { s1 with jn := { s1.jn with queue := [] } }
  else
    let prog := s1.jn.prog.map (fun p => { p with stray := p.stray || (!p.spare && p.jr.typ = 1) })
    ({ s1 with jn := { s1.jn with queue := [], prog := prog, cut := if closing then j.plans.head? else none } }).storeFails 2

/-- 2B00h.01. -/
def JournalSt.stateCode (j : JournalSt) : Nat :=
  if j.compact ≠ .idle then 2 else if !j.queue.isEmpty || j.prog.isSome then 1 else if j.erase.isSome then 3 else 0

/-- A record found by the scan. -/
structure Found where
  sec     : Nat
  addr    : Nat
  seq     : Nat
  typ     : Nat
  cls     : Nat
  payload : List Byte
  deriving DecidableEq, Repr

/-- Bytes of the flash from an address. -/
def flashBytes (flash : Tbl Nat) (addr n : Nat) : List Byte := (List.range n).map fun i => BitVec.ofNat 8 (tget erased flash (addr + i))

/-- What the parse of a sector gives: its records in order, where it stopped, torn records, and whether it stopped short of
erased flash. -/
structure Parsed where
  recs : List Found
  stop : Nat
  torn : Nat
  dirty : Bool
  deriving DecidableEq, Repr

/-- Parses a sector from an offset (R377). `weak` are the addresses of records judged weak; whether such a record reads as
valid is open. -/
def parseSector (flash : Tbl Nat) (weak : List Nat) (sec : Nat) : Nat → Nat → Parsed
  | 0, off => { recs := [], stop := off, torn := 0, dirty := false }
  | f + 1, off =>
    if 32768 ≤ off then { recs := [], stop := off, torn := 0, dirty := false }
    else
      let at_ := sec * 32768 + off
      let head := flashBytes flash at_ 16
      let l := leNum ((head.drop 2).take 2)
      if head.all (· = 0xff) then { recs := [], stop := off, torn := 0, dirty := false }
      else if 240 < l then { recs := [], stop := off, torn := 0, dirty := true }
      else
        let seq := leNum ((head.drop 4).take 4)
        let payload := flashBytes flash (at_ + 12) l
        let commit := leNum (flashBytes flash (at_ + 12 + (l + 3) / 4 * 4) 4)
        let good := decide (leNum ((head.drop 8).take 4) = (crc32 (head.take 8 ++ payload)).toNat) &&
          decide (commit = 0xa5c33c5a) && (!weak.contains at_ || Config.weakReads at_)
        if good then
          let r := parseSector flash weak sec f (off + recordSize l)
          { r with recs := ⟨sec, at_, seq, leNum (head.take 1), leNum ((head.drop 1).take 1), payload⟩ :: r.recs }
        else { recs := [], stop := off + recordSize l, torn := 1, dirty := true }

/-- The data payloads of the generation a close record names, where it is complete (R372). -/
def genOf (l : List Found) (c : Found) : Option (List (List Byte)) :=
  let n := leNum ((c.payload.drop 2).take 2)
  let first := leNum ((c.payload.drop 4).take 4)
  let recs := (List.range n).filterMap fun i => l.find? (fun r => r.typ = 1 && r.cls = c.cls && r.seq = first + i)
  if recs.length = n then some (recs.map (·.payload)) else none

/-- The record of highest sequence among some. -/
def newest (l : List Found) : Option Found :=
  l.foldl (fun b r => match b with
    | none => some r
    | some x => if x.seq < r.seq then some r else some x) none

/-- The standing generation of a class: complete, with the highest close-record sequence (R377). -/
def standingGen (l : List Found) (cls : Nat) : Option (List (List Byte)) :=
  match newest (l.filter (fun r => r.typ = 2 && r.cls = cls && (genOf l r).isSome)) with
  | some c => genOf l c
  | none => none

/-- The entries of a payload (R371), at most `fuel` of them. -/
def parseEntries : Nat → List Byte → List (Nat × Nat)
  | 0, _ => []
  | f + 1, b =>
    if b.length < 4 then []
    else
      let n := leNum ((b.drop 3).take 1)
      (key (leNum (b.take 2)) (leNum ((b.drop 2).take 1)), leNum ((b.drop 4).take n)) :: parseEntries f (b.drop (4 + n))

/-- A restored entry fills the shadow copy, a live entry, or the active banks (R121, R377). -/
def State.restoreEntry (s : State) (e : Nat × Nat) : State :=
  match entryOf (e.1 / 256) (e.1 % 256) with
  | none => s
  | some x =>
    if e.1 = key 0x2380 2 then { s with sense := { s.sense with bank := BitVec.ofNat 16 e.2 } }
    else if x.apply = .commit then { s with shadow := tput dflt s.shadow e.1 e.2 }
    else if x.apply = .live then { s with live := tput dflt s.live e.1 e.2 }
    else s

/-- The lock state a start finds (R413, R442, R443): that of the newest device-state record with its failed count, an
unlocked one restored as SEALED; without a record, by the fuse. -/
def State.restoreLock (s : State) (dev : Option (List Byte)) : State :=
  match dev with
  | some p =>
    let f := leNum ((p.drop 2).take 2)
    { s with lock := { s.lock with
        state := .isSealed, fails := f
        backOff := if f = 0 then 0 else min (2 ^ (f - 1)) 256 * 6144000 } }
  | none => { s with lock := { s.lock with state := if s.lock.fuse then .isSealed else .unsealed, fails := 0, backOff := 0 } }

/-- The start-up scan (R377): both sectors are read, the standing generations fill the shadow copy and the live entries. -/
def State.scan (s : State) (us : BitVec 16) : State :=
  let p0 := parseSector s.jn.flash s.jn.weak 0 2048 0
  let p1 := parseSector s.jn.flash s.jn.weak 1 2048 0
  let l := p0.recs ++ p1.recs
  let top := newest l
  let act := match top with
    | some r => r.sec
    | none => 0
  let pa := if act = 0 then p0 else p1
  let dev := (newest (l.filter (fun r => r.typ = 4))).map (·.payload)
  let gens := [1, 2, 3].foldl (fun t c => tput (fun _ => none) t c (standingGen l c)) []
  let j := { s.jn with
    active := act, used := pa.stop, spareUsed := 0
    seq := match top with
      | some r => r.seq
      | none => 0
    devLast := dev, gens := gens, torn := p0.torn + p1.torn, scanUs := us
    bad := pa.dirty || pa.recs.any (fun r => s.jn.weak.contains r.addr) }
  let entries := [1, 2, 3].flatMap fun c => match j.gen c with
    | some ps => ps.flatMap (fun p => parseEntries p.length p)
    | none => []
  let s1 := (entries.foldl State.restoreEntry { s with jn := j }).restoreLock dev
  { s1 with lock := { s1.lock with pwStored := entries.any (fun e => e.1 = key 0x2c10 9) } }

/-- A spare that is not fully erased is erased after tick 0 (R377, R380). -/
def State.eraseSpare (s : State) : State :=
  if sectorErased s.jn.flash (1 - s.jn.active) ∨ s.jn.erase.isSome ∨ s.jn.compact ≠ .idle then s
  else { s with jn := { s.jn with erase := some (1 - s.jn.active) } }

/-- What reset keeps of the journal: the flash, with as much of the record under program as it already holds, and what is
known of weak records (R377, R488). -/
def JournalSt.afterReset (j : JournalSt) (programmed : Nat) : JournalSt :=
  { flash := match j.prog with
      | some p => burn j.flash p.addr (p.image.take programmed)
      | none => j.flash
    weak := j.weak }

/-- RECORD_PROGRAM. -/
def execRecordProgram (weak : Bool) (s : State) : Host.Outcome State Fault Refusal := s.run (·.recordProgram weak)
/-- ERASE_COMPLETE. -/
def execEraseComplete (s : State) : Host.Outcome State Fault Refusal := s.run State.eraseComplete

end Sys2Proof.Machine
end

