-- ==== Sys2Proof/Machine/Check.lean ====
section
/-! DEFINITION. The commit check (chapter 04), its budgets (chapter 03) and the requests of 2002h. -/
namespace Sys2Proof.Machine
open Sys2Proof

/-- Two ascending lists of keys in one. -/
def mergeKeys : Nat → List Nat → List Nat → List Nat
  | 0, l, m => l ++ m
  | _, [], m => m
  | _, l, [] => l
  | f + 1, a :: l, b :: m =>
    if a < b then a :: mergeKeys f l (b :: m)
    else if b < a then b :: mergeKeys f (a :: l) m
    else a :: mergeKeys f l m

/-- The entries whose values differ between two copies, ascending (R106). -/
def changes (old new : Tbl Nat) : List Nat :=
  (mergeKeys (old.length + new.length) (old.map (·.1)) (new.map (·.1))).filter
    fun k => tget dflt old k ≠ tget dflt new k

/-- Whether a change lies in an object, at a sub-index that satisfies `p`. -/
def changedIn (ch : List Nat) (idx : Nat) (p : Nat → Bool := fun _ => true) : Bool :=
  ch.any fun k => k / 256 = idx && p (k % 256)

/-- What a failed rule reports: shortfall, subject, second subject (R105). -/
abbrev Failure := Nat × Nat × Nat

/-- The first failing subject. -/
def firstFail {α : Type} (l : List α) (f : α → Option Failure) : Option Failure := l.findSome? f

/-- A failure at a condition. -/
def failIf (c : Bool) (short subj : Nat) (subj2 : Nat := 0) : Option Failure :=
  if c then some (short, subj, subj2) else none

/-- The failure of lowest subject. -/
def lowestFail (l : List Failure) : Option Failure :=
  l.foldl (fun b f => match b with
    | none => some f
    | some g => if f.2.1 < g.2.1 then some f else some g) none

/-- The subject of an entry of slot n. -/
def slotKey (n sub : Nat) : Nat := key (0x2180 + n) sub

/-- What the check reads besides the frozen copy (R103): the active copy, the sampled GLMASTER level, the field lock, the
calibration, and the bank swaps pending. -/
structure CheckIn where
  active  : Tbl Nat
  frozen  : Tbl Nat
  glmaster : Bool
  isSealed  : Bool
  cal     : Option (Bool × Nat)
  swaps   : List Nat
  deriving DecidableEq, Repr

/-- 0301h. -/
def rule0301 (f : Tbl Nat) : Option Failure :=
  failIf (decide (tickN f ≤ 12 + guardG f)) (12 + guardG f + 1 - tickN f) (key 0x2000 3)

/-- Interval I = 8·M·N of the reference (R22). -/
def interval (f : Tbl Nat) : Nat := 8 * cfg f 0x2000 6 * tickN f

/-- 0304h. -/
def rule0304 (f : Tbl Nat) : Option Failure :=
  failIf (decide (interval f ≤ cfg f 0x2000 4)) (cfg f 0x2000 4 + 1 - interval f) (key 0x2000 4)

/-- 0310h. -/
def rule0310 (f : Tbl Nat) : Option Failure :=
  lowestFail ([0, 1, 2, 3].filterMap fun l =>
    if laneMux f l then none
    else match slotsOn f l with
      | a :: b :: rest => some (rest.length + 1, slotKey b 0, slotKey a 0)
      | _ => none)

/-- 0311h. -/
def rule0311 (f : Tbl Nat) : Option Failure :=
  firstFail (slotsOf f) fun n =>
    let d := occupancy (slotPreset f n) + 12 + guardG f
    failIf (laneMux f (slotLane f n) && decide (tickN f < d)) (d - tickN f) (slotKey n 8)

/-- 0312h. -/
def rule0312 (f : Tbl Nat) : Option Failure :=
  firstFail (slotsOf f) fun n =>
    let d := delivD (tickN f) (outPeriod (slotPreset f n))
    let k := slotCfg f n 12
    failIf (!laneMux f (slotLane f n) && decide (slotCfg f n 11 = 0) && decide (k % d ≠ 0)) (d - k % d) (slotKey n 12)

/-- 0313h. -/
def rule0313 (f : Tbl Nat) : Option Failure :=
  firstFail (slotsOf f) fun n =>
    failIf (laneMux f (slotLane f n) && decide (profCfg f (slotProf f n) 8 ≠ 0)) 0 (slotKey n 8) (key (0x2300 + slotProf f n) 0)

/-- The sources latched at t0 (R70). -/
def t0Source (c : Nat) : Bool :=
  c = 0 || c = 4 || (decide (0x20 ≤ c) && decide (c ≤ 0x37)) || (decide (0x40 ≤ c) && decide (c ≤ 0x4f))

/-- 0314h. -/
def rule0314 (f : Tbl Nat) : Option Failure :=
  firstFail (slotsOf f) fun n =>
    failIf (laneMux f (slotLane f n) && decide (slotCfg f n 14 = 0) && !t0Source (slotCfg f n 11)) 0 (slotKey n 11)

/-- The object of a trigger source, and whether it is enabled and routed to slot triggers. -/
def sourceObject (f : Tbl Nat) (c : Nat) : Option (Nat × Bool) :=
  if 0x10 ≤ c ∧ c ≤ 0x1f then
    some (0x2800 + (c - 0x10), cfg f (0x2800 + (c - 0x10)) 1 = 1 && (cfg f 0x2810 8).testBit (c - 0x10))
  else if 0x20 ≤ c ∧ c ≤ 0x37 then
    some (0x2700 + (c - 0x20), cfg f (0x2700 + (c - 0x20)) 1 = 1 && (cfg f (0x2700 + (c - 0x20)) 12).testBit 0)
  else if 0x40 ≤ c ∧ c ≤ 0x4f then
    some (0x2730 + (c - 0x40), cfg f (0x2730 + (c - 0x40)) 1 = 1 && (cfg f (0x2730 + (c - 0x40)) 9).testBit 0)
  else none

/-- 0315h. -/
def rule0315 (f : Tbl Nat) : Option Failure :=
  firstFail (slotsOf f) fun n =>
    match sourceObject f (slotCfg f n 11) with
    | some (idx, ok) => failIf (!ok) 0 (slotKey n 11) (key idx 0)
    | none => none

/-- 0316h. -/
def rule0316 (f : Tbl Nat) : Option Failure :=
  firstFail (slotsOf f) fun n =>
    failIf (cfg f (0x2500 + slotCfg f n 10) 1 = 0) 0 (slotKey n 10) (key (0x2500 + slotCfg f n 10) 0)

/-- Base and end of ring r in a copy (R252). -/
def ringBase (f : Tbl Nat) (r : Nat) : Nat := cfg f (0x2500 + r) 2
/-- The first place after ring r. -/
def ringEnd (f : Tbl Nat) (r : Nat) : Nat := ringBase f r + cfg f (0x2500 + r) 1

/-- 0317h (R252): overlap first, then the end of the space. -/
def rule0317 (f : Tbl Nat) : Option Failure :=
  firstFail (ringsOf f) fun r =>
    match ((ringsOf f).filter (· < r)).find? (fun q => decide (ringBase f r < ringEnd f q) && decide (ringBase f q < ringEnd f r)) with
    | some q => some (0, key (0x2500 + r) 2, key (0x2500 + q) 2)
    | none => failIf (decide (8192 < ringEnd f r)) (ringEnd f r - 8192) (key (0x2500 + r) 2)

/-- A role held by a pin: the role, the entry that gives it, and its source for EXF and EXS. -/
structure Held where
  role  : Role
  owner : Nat
  src   : Nat
  deriving DecidableEq, Repr

/-- A holding where entry `sub` of object `idx` names pin x. -/
def holdIf (f : Tbl Nat) (x idx sub : Nat) (r : Role) (src : Nat := 0) : List Held :=
  if cfg f idx sub = x then [⟨r, key idx sub, src⟩] else []

/-- What gives pin x its roles, in ascending order of the entries (R141). -/
def holdings (f : Tbl Nat) (x : Nat) : List Held :=
  (if cfg f (0x2100 + x) 1 = 0 then [] else [⟨.bias, key (0x2100 + x) 1, 0⟩]) ++
  (sourcesOn f).flatMap (fun e =>
    holdIf f x (0x2140 + e) 5 .exf e ++ holdIf f x (0x2140 + e) 6 .exf e ++
    holdIf f x (0x2140 + e) 7 .exs e ++ holdIf f x (0x2140 + e) 8 .exs e) ++
  (slotsOf f).flatMap (fun n => holdIf f x (0x2180 + n) 3 .inp ++ holdIf f x (0x2180 + n) 4 .inp) ++
  (if cfg f 0x2720 1 = 0 then [] else
    (electrodesOn f).flatMap (fun i => holdIf f x (0x2700 + i) 2 .touch ++ holdIf f x (0x2700 + i) 4 .touch)) ++
  (plugsOn f).flatMap (fun g => holdIf f x (0x2740 + g) 2 .plug) ++
  (listedOn f 0x2800 16).flatMap (fun m => holdIf f x (0x2800 + m) 2 .mon)

/-- The pairs of different roles that R107 refuses on one pin. -/
def rolesClash : Role → Role → Bool
  | .inp, .touch => true | .touch, .inp => true
  | .exf, .bias => true | .bias, .exf => true
  | .exf, .touch => true | .touch, .exf => true
  | .exf, .plug => true | .plug, .exf => true
  | .exs, .bias => true | .bias, .exs => true
  | .exs, .touch => true | .touch, .exs => true
  | .exs, .plug => true | .plug, .exs => true
  | .bias, .touch => true | .touch, .bias => true
  | .bias, .plug => true | .plug, .bias => true
  | .touch, .plug => true | .plug, .touch => true
  | _, _ => false

/-- Whether a role is held by one excitation source only (R107). -/
def Role.ofSource (r : Role) : Bool := r = .exf || r = .exs

/-- Whether two holdings of one pin conflict (R107, R167). -/
def clash (a b : Held) : Bool :=
  if a.role.ofSource && b.role.ofSource then a.src ≠ b.src else rolesClash a.role b.role

/-- The first holding that conflicts with one before it. -/
def firstClash : List Held → List Held → Option Held
  | _, [] => none
  | seen, h :: t => if seen.any (clash · h) then some h else firstClash (seen ++ [h]) t

/-- 0320h. Which holder the table's "owner of the second role" is, and how it is named, the manual leaves open: here the first, in
ascending order of the entries, that conflicts with one before it, named by the entry that gives the role (DESIGN CHOICE, log entry
39). -/
def rule0320 (f : Tbl Nat) : Option Failure :=
  firstFail (List.range 40) fun x => (firstClash [] (holdings f x)).map fun h => (0, key (0x2100 + x) 0, h.owner)

/-- 0321h. -/
def rule0321 (f : Tbl Nat) : Option Failure :=
  firstFail (slotsOf f) fun n =>
    failIf (decide (slotCfg f n 7 ≠ 0xff) && decide (cfg f (0x2140 + slotCfg f n 7) 1 = 0)) 0 (slotKey n 7)

/-- 0322h (R151). -/
def rule0322 (f : Tbl Nat) : Option Failure :=
  firstFail (slotsOf f) fun n =>
    let e := slotCfg f n 7
    failIf (decide (slotCfg f n 6 = 3) &&
      (decide (e = 0xff) || decide (cfg f (0x2140 + e) 7 = 0xff) || decide (cfg f (0x2140 + e) 8 = 0xff))) 0 (slotKey n 6)

/-- 0323h. -/
def rule0323 (f : Tbl Nat) : Option Failure :=
  firstFail (slotsOf f) fun n =>
    let r := slotCfg f n 6
    failIf ((r = 1 || r = 2) && decide (cfg f 0x2210 r = 0)) 0 (slotKey n 6)

/-- The next multiple of p above k. -/
def nextMultiple (p k : Nat) : Nat := (k / p + 1) * p

/-- The next odd multiple of h above k. -/
def nextOddMultiple (h k : Nat) : Nat := h * (k / h + 1 + (k / h) % 2)

/-- The increase of k to a value, where the range of 2180h+n.0C reaches it. -/
def increase (k next : Nat) : Nat := if next ≤ 65535 then next - k else 0

/-- 0324h (R108). -/
def rule0324 (f : Tbl Nat) : Option Failure :=
  firstFail (slotsOf f) fun n =>
    let e := slotCfg f n 7
    let k := slotCfg f n 12
    let h := cfg f (0x2140 + e) 10
    let mux := laneMux f (slotLane f n)
    let byTick := decide (slotCfg f n 11 = 0)
    if e = 0xff ∨ cfg f (0x2140 + e) 1 ≠ 2 then none
    else if cfg f (0x2140 + e) 9 = 1 then failIf (!(mux && byTick)) 0 (slotKey n 12) (key (0x2140 + e) 0)
    else if mux then
      failIf (!(byTick && decide (k % h = 0) && decide (k / h % 2 = 1)))
        (if byTick then increase k (nextOddMultiple h k) else 0) (slotKey n 12) (key (0x2140 + e) 0)
    else failIf (decide (k % (2 * h) ≠ 0)) (increase k (nextMultiple (2 * h) k)) (slotKey n 12) (key (0x2140 + e) 0)

/-- 0325h (R162). -/
def rule0325 (f : Tbl Nat) : Option Failure :=
  firstFail (slotsOf f) fun n =>
    let e := slotCfg f n 7
    let lead := cfg f (0x2140 + e) 11
    if slotCfg f n 18 < 2 ∨ e = 0xff ∨ lead = 0xff then none
    else
      let wrong := decide (slotCfg f lead 1 = 1) &&
        (decide (slotCfg f lead 7 ≠ e) || decide (slotCfg f lead 6 ≠ slotCfg f n 6) || decide (slotCfg f lead 18 ≠ 0))
      failIf (decide (lead = n) || wrong) 0 (slotKey n 18) (key (0x2140 + e) 11)

/-- 0330h. -/
def rule0330 (f : Tbl Nat) : Option Failure :=
  firstFail (slotsOf f) fun n =>
    let bad := match curveOf (slotCfg f n 9) with
      | .pwl t => decide (pwlUsed f t < 2)
      | .undefined => true
      | _ => false
    failIf bad 0 (slotKey n 9)

/-- 0331h. -/
def rule0331 (swaps ch : List Nat) : Option Failure :=
  firstFail (List.range 16) fun p => failIf (swaps.contains p && changedIn ch (0x2300 + p)) 0 (key (0x2300 + p) 0)

/-- 0338h. -/
def rule0338 (f : Tbl Nat) : Option Failure :=
  firstFail [0, 1, 2, 3] fun n =>
    failIf (decide (cfg f (0x2900 + n) 1 = 3) && decide (cfg f (0x2910 + n) 1 = 0)) 0 (key (0x2900 + n) 0) (key (0x2910 + n) 0)

/-- Omin of a dedicated slot (R109). -/
def overlapMin (f : Tbl Nat) (n : Nat) : Nat :=
  max 3 ((occupancy (slotPreset f n) + tickN f - 1) / tickN f + 2 * delivD (tickN f) (outPeriod (slotPreset f n)))

/-- 0340h. -/
def rule0340 (f : Tbl Nat) : Option Failure :=
  if cfg f 0x2220 1 = 2 then none
  else firstFail [0, 1, 2, 3] fun l =>
    match dedSlot f l with
    | some n => failIf (decide (cfg f 0x2220 3 < overlapMin f n)) (overlapMin f n - cfg f 0x2220 3) (key (0x2200 + l) 0)
    | none => none

/-- Whether a running calibration uses the entry of key k (R110). `cal` says whether it is a one-shot self-calibration,
with its lane, or a system calibration, with its slot. -/
def calUses (a : Tbl Nat) (cal : Bool × Nat) (k : Nat) : Bool :=
  let idx := k / 256
  let sub := k % 256
  if cal.1 then idx = 0x2200 + cal.2 || idx = 0x2210
  else
    (idx = 0x2180 + cal.2 && decide (1 ≤ sub) && decide (sub ≤ 18)) ||
      idx = 0x2200 + slotLane a cal.2 || idx = 0x2300 + slotProf a cal.2 ||
      (slotCfg a cal.2 7 ≠ 0xff && idx = 0x2140 + slotCfg a cal.2 7) || idx = 0x2210 || k = key 0x2000 1

/-- 0350h. -/
def rule0350 (c : CheckIn) (ch : List Nat) : Option Failure :=
  match c.cal with
  | none => none
  | some cal => firstFail ch fun k => failIf (calUses c.active cal k) 0 k (key 0x2a00 0)

/-- Whether an entry is sealed (R388). -/
def sealedKey (k : Nat) : Bool :=
  match entryOf (k / 256) (k % 256) with
  | some e => e.sealed
  | none => false

/-- 0351h. -/
def rule0351 (c : CheckIn) (ch : List Nat) : Option Failure :=
  if c.isSealed then firstFail ch fun k => failIf (sealedKey k) 0 k else none

/-- Guard reservation of a lane from edge s on (R71): its end and its first failure. -/
def guardLane (f : Tbl Nat) : List Nat → Nat → Nat × Option (Nat × Nat)
  | [], s => (s, none)
  | j :: t, s =>
    let o := occupancy (slotPreset f j)
    let r := guardLane f t (s + o)
    let open_ := tickN f - guardG f
    if open_ ≤ s ∨ tickN f < s + o then (r.1, some (j, max (s + o - tickN f) (s + 1 - open_))) else r

/-- The enabled Guard slots of a lane. -/
def guardSlots (f : Tbl Nat) (l : Nat) : List Nat := (slotsOn f l).filter (fun n => slotCfg f n 14 = 0)

/-- 0360h. -/
def rule0360 (f : Tbl Nat) : Option Failure :=
  lowestFail ([0, 1, 2, 3].filterMap fun l =>
    if laneMux f l then
      (guardLane f (guardSlots f l) 12).2.map fun p => (p.2, slotKey p.1 0, key (0x2200 + l) 0)
    else none)

/-- Stream cost of a profile (R79). -/
def streamCost (f : Tbl Nat) (p : Nat) : Nat :=
  (match profCfg f p 3 with | 0 => 0 | 1 => 12 | 2 => 20 | 3 => 28 | 4 => 36 | _ => 48) +
    40 * (profSections f p).length + 8 * profCfg f p 8

/-- Result cost of a slot (R79); curve FFh costs what no curve costs. -/
def resultCost (f : Tbl Nat) (n : Nat) : Nat :=
  24 + match curveOf (slotCfg f n 9) with
    | .pwl _ => 28 | .bridge => 16 | .rtd _ => 72 | .thermocouple _ => 96 | .ntc _ => 120 | _ => 0

/-- Conversion bound of a multiplexed lane with enabled slots (R80). -/
def convBound (f : Tbl Nat) (ns : List Nat) : Nat :=
  match ns with
  | [] => 0
  | n :: t => (tickN f - 12) / t.foldl (fun m j => min m (occupancy (slotPreset f j))) (occupancy (slotPreset f n))

/-- Output samples of a preset in a tick, rounded up, times the stream cost (R80). -/
def dedStream (f : Tbl Nat) (n : Nat) : Nat :=
  let p := outPeriod (slotPreset f n)
  (tickN f + p - 1) / p * streamCost f (slotProf f n)

/-- Reserved filter-engine demand (R80). -/
def engineDemand (f : Tbl Nat) : Nat :=
  let lane := fun l =>
    if laneMux f l then
      convBound f (slotsOn f l) *
        ((slotsOn f l).map (fun n => streamCost f (slotProf f n) + resultCost f n)).foldl max 0
    else match dedSlot f l with
      | some n => dedStream f n + resultCost f n
      | none => 0
  let quad := ([0, 1, 2, 3].filterMap (dedSlot f)).map (dedStream f)
  ([0, 1, 2, 3].map lane).sum + (if cfg f 0x2220 1 = 2 then 0 else 16 + quad.foldl max 0)

/-- 0361h. -/
def rule0361 (f : Tbl Nat) : Option Failure :=
  failIf (decide (16 * tickN f - 192 < engineDemand f)) (engineDemand f - (16 * tickN f - 192)) 0

/-- 8·N divided by a port's cycles per word, rounded up (R81). -/
def portShare (f : Tbl Nat) (d : Nat) : Nat := (8 * tickN f + d - 1) / d

/-- Records an activation reserves (R81). `ch` are the changes of the commit. -/
def recordDemand (f : Tbl Nat) (ch : List Nat) : Nat :=
  let lane := fun l =>
    if laneMux f l then convBound f (slotsOn f l) else if (dedSlot f l).isSome then 1 else 0
  let targets := targetRings f
  let others := (ringsOf f).filter fun r => !targets.contains r && changedIn ch (0x2500 + r) (fun b => b = 1 || b = 2)
  let events := (if cfg f 0x2720 5 = 0xffff then 0 else 1) + (if cfg f 0x2810 10 = 0xffff then 0 else 1)
  ([0, 1, 2, 3].map lane).sum + 4 * (slotsOf f).length + 7 * targets.length + others.length + 32 * events

/-- Reserved result-SRAM demand (R81). -/
def sramDemand (f : Tbl Nat) (ch : List Nat) : Nat :=
  4 * recordDemand f ch + portShare f 63 + portShare f 315 + portShare f 1966 +
    (if cfg f 0x2d00 1 = 0 then 0 else 2 * portShare f 10)

/-- 0362h. -/
def rule0362 (f : Tbl Nat) (ch : List Nat) : Option Failure :=
  failIf (decide (8 * tickN f < sramDemand f ch)) (sramDemand f ch - 8 * tickN f) 0

/-- The commit rules in the order of the table (R105). -/
def commitRules (c : CheckIn) (ch : List Nat) : List (Nat × Option Failure) :=
  let f := c.frozen
  let src := cfg f 0x2000 2
  let role := roleOf f c.glmaster
  [(0x301, rule0301 f),
   (0x302, failIf (decide (src = 0) && decide (cfg f 0x2000 4 ≠ 0)) 0 (key 0x2000 4)),
   (0x303, failIf (decide (src = 3) && decide (cfg f 0x2000 6 ≠ 1)) 0 (key 0x2000 6)),
   (0x304, rule0304 f),
   (0x305, failIf (decide (src = 3) && decide (role = 1)) 0 (key 0x2000 2)),
   (0x306, failIf (decide (src ≠ 3) && decide (role = 2)) 0 (key 0x2000 2)),
   (0x307, failIf (decide (src = 3) && decide (role = 0)) 0 (key 0x2000 2)),
   (0x310, rule0310 f), (0x311, rule0311 f), (0x312, rule0312 f), (0x313, rule0313 f),
   (0x314, rule0314 f), (0x315, rule0315 f), (0x316, rule0316 f), (0x317, rule0317 f),
   (0x320, rule0320 f), (0x321, rule0321 f), (0x322, rule0322 f), (0x323, rule0323 f),
   (0x324, rule0324 f), (0x325, rule0325 f), (0x330, rule0330 f), (0x331, rule0331 c.swaps ch),
   (0x338, rule0338 f), (0x340, rule0340 f), (0x350, rule0350 c ch), (0x351, rule0351 c ch),
   (0x360, rule0360 f), (0x361, rule0361 f), (0x362, rule0362 f ch)]

/-- The first rule that fails, with code, shortfall and subjects (R105, R111). -/
def commitCheck (c : CheckIn) : Option (Nat × Nat × Nat × Nat) :=
  (commitRules c (changes c.active c.frozen)).findSome? fun r => r.2.map fun x => (r.1, x)

/-- The schedule report 2003h.02–.0E of a configuration and the changes that bring it (R87). -/
def schedule (f : Tbl Nat) (ch : List Nat) : List Nat :=
  let ends := [0, 1, 2, 3].map fun l => if laneMux f l then (guardLane f (guardSlots f l) 12).1 else 0
  let bounds := [0, 1, 2, 3].map fun l =>
    if laneMux f l then convBound f (slotsOn f l) else if (dedSlot f l).isSome then 1 else 0
  [tickN f - 12] ++ ends ++ bounds ++ [16 * tickN f - 192, engineDemand f, 8 * tickN f, sramDemand f ch]

/-- Whether a slot is affected by the changes between two copies (R112). -/
def slotAffected (old new : Tbl Nat) (ch : List Nat) (n : Nat) : Bool :=
  let both := fun (p : Tbl Nat → Bool) => p old || p new
  changedIn ch (0x2180 + n) (fun b => (decide (1 ≤ b) && decide (b ≤ 15)) || b = 18) ||
  both (fun c => changedIn ch (0x2300 + slotProf c n)) ||
  both (fun c => changedIn ch (0x2200 + slotLane c n)) ||
  both (fun c => slotCfg c n 7 ≠ 0xff && changedIn ch (0x2140 + slotCfg c n 7) (fun b => b ≠ 12)) ||
  (changedIn ch 0x2210 && both (fun c => slotCfg c n 6 = 1 || slotCfg c n 6 = 2))

/-- The calibration that runs, as the check reads it (R110). -/
def State.calRunning (s : State) : Option (Bool × Nat) :=
  match s.cal.run with
  | none => none
  | some .self => some (true, s.cal.lane)
  | some _ => some (false, s.cal.slot)

/-- What the check reads at the start of a request (R103). -/
def State.checkIn (s : State) : CheckIn :=
  { active := s.active, frozen := s.shadow, glmaster := s.galt.glmaster, isSealed := s.lock.state = .isSealed
    cal := s.calRunning, swaps := s.sense.swaps.map (·.1) }

/-- Whether a commit or check-only request is in progress (R101): CHECKING or PENDING. -/
def State.committing (s : State) : Bool := s.com.result = 1 || s.com.result = 2

/-- A commit or check-only request completes (R96, R98, R111): the shadow copy is frozen and the check starts. -/
def State.commitStart (s : State) : State :=
  { s with com := { s.com with result := 1, frozen := some s.shadow, fail := commitCheck s.checkIn } }

/-- A discard copies the active copy into the shadow copy (R95, R96). -/
def State.discard (s : State) : State :=
  { s with shadow := s.active, com := { s.com with result := 6, dirty := false } }

/-- An accepted write of 2002h.01 (R96, R97). -/
def State.commitRequest (s : State) (v : Nat) (p : Port) : State :=
  let s1 := { s with com := { s.com with request := BitVec.ofNat 8 v, port := p } }
  if v = 2 then s1.discard else s1.commitStart

/-- What a refusal verdict writes to 2002h (R102). -/
def CommitSt.refuse (c : CommitSt) (x : Nat × Nat × Nat × Nat) : CommitSt :=
  { c with result := 4, code := BitVec.ofNat 16 x.1, shortfall := min x.2.1 0xffffffff, subject := BitVec.ofNat 32 x.2.2.1
           subject2 := BitVec.ofNat 32 x.2.2.2, frozen := none, fail := none }

/-- What a pass verdict writes to 2002h (R100, R102); `at_` is its instant. -/
def CommitSt.pass (c : CommitSt) (at_ : Int) : CommitSt :=
  let r : BitVec 8 := if c.request = 3 then 5 else 2
  { c with result := r, code := 0, shortfall := 0, subject := 0, subject2 := 0, verdictAt := at_
           frozen := if c.request = 3 then none else c.frozen }

/-- COMMIT_CHECK_VERDICT (R98, R100, R102). The check stands still in STANDBY (R498). -/
def State.commitVerdict (s : State) (cyc : Nat) : State :=
  if s.com.result = 1 && s.pow.state ≠ .standby then
    let s1 := s.at cyc
    match s.com.fail with
    | some x => ({ s1 with com := s.com.refuse x }).refusal x.1 s.com.port x.2.2.1 0
    | none => { s1 with com := s.com.pass cyc }
  else s

/-- The check of the restored values before tick 0 (R121): against an active copy of Defaults, without 0351h. -/
def State.startCheck (s : State) : State :=
  let c : CheckIn := { active := [], frozen := s.shadow, glmaster := s.galt.glmaster, isSealed := false, cal := none, swaps := [] }
  match commitCheck c with
  | none => { s with com := { s.com with startOk := true, startCfg := s.shadow } }
  | some x =>
    (({ s with com := { s.com.refuse x with startOk := false, startCfg := [] } }).refusal x.1 .s x.2.2.1 0).event 0x2002 3 x.1

/-- COMMIT_CHECK_VERDICT. -/
def execCommitCheckVerdict (cyc : Nat) (s : State) : Host.Outcome State Fault Refusal := s.run (·.commitVerdict cyc)

end Sys2Proof.Machine
end

