-- ==== Sys2Proof/Machine/LockLoop.lean ====
section
/-! DEFINITION. The lock loop of the tick, its states and its markers (chapter 01, R461). -/
namespace Sys2Proof.Machine
open Sys2Proof

/-- Cycles of a time in nanoseconds at 49.152 MHz. -/
def nsCycles (ns : Nat) : Rat := mkRat (ns * 49152) 1000000

/-- Number of a reference source in 2000h.02 (R20). -/
def refNum : RefSource → Nat
  | .tickin => 1 | .sync => 2 | .galtlink => 3

/-- Capture window half-width w (R24, R461). -/
def lockWindow (src i : Nat) : Rat :=
  if src = 1 then max (mkRat i 100) (nsCycles 2000)
  else if src = 2 then mkRat i 4
  else nsCycles 200

/-- Lock threshold (R24, R461). -/
def lockThreshold (src : Nat) : Rat :=
  if src = 1 then nsCycles 100 else if src = 2 then nsCycles 2000 else mkRat (500 * 49152) 1000000000

/-- Gains kp, ki (R24, R461): tracking in LOCKED, acquisition otherwise. -/
def lockGains (src : Nat) (tracking : Bool) : Rat × Rat :=
  if tracking then
    (if src = 1 then (mkRat 1 16, mkRat 1 256) else if src = 2 then (mkRat 1 128, mkRat 1 8192) else (mkRat 1 16, mkRat 1 1024))
  else if src = 2 then (mkRat 1 16, mkRat 1 256) else (mkRat 1 4, mkRat 1 32)

/-- A rational number held between −m and m. -/
def clampRat (m x : Rat) : Rat := if x < -m then -m else if m < x then m else x

/-- x modulo m for m > 0. -/
def ratMod (x m : Rat) : Rat := x - m * ((x / m).floor : Int)

/-- Whether records of a state carry HOLD (R29, R31). -/
def LockState.hold : LockState → Bool
  | .acquiring => true | .holdover => true | .adrift => true | _ => false

/-- A target inside the capture window of the anchor boundary (R23). -/
def inWindow (b w x : Rat) : Bool := decide (b - w ≤ x) && decide (x ≤ b + w)

/-- Whether a received TICK is a reference event: on a closed ring (R461), and on a broken one at a LOCKED node that still receives
TICK, which a node that has detected the break does not until the ring closes again (R473, R474). -/
def State.tickCounts (s : State) : Bool :=
  s.galt.state = 2 || (s.galt.state = 3 && !s.galt.broke && s.tick.lock = .locked)

/-- Instant of a reference event in system clock cycles. That of a GaltLink TICK is its receipt less the advance h + offset
(R461). -/
def State.refInstant (s : State) (src : RefSource) (inst : Int) : Rat :=
  if src = .galtlink then psCycles (inst - s.galt.advance.toNat) else (inst : Rat)

/-- REFERENCE_EVENT (R20, R21, R23): the event's target is its instant plus P. While the loop is anchored, a target outside
the window is an outlier. A SYNC frame is heard only outside STOPPED (R26). Any event ends lock fault 2 (R30). -/
def State.refEvent (s : State) (src : RefSource) (inst : Int) : State :=
  let a := s.active
  let heard := match src with
    | .tickin => true
    | .sync => s.can.started && s.can.nmt ≠ .stopped && !s.netHalted
    | .galtlink => s.tickCounts
  if s.tick.on && decide (cfg a 0x2000 2 = (refNum src)) && heard then
    let x : Rat := s.refInstant src inst + cfg a 0x2000 4
    let t : TickSt := { s.tick with
      arrived := s.tick.arrived + 1, blockSeen := s.tick.blockSeen ++ [x], fault := if s.tick.fault = 2 then 0 else s.tick.fault }
    if t.anchored && !inWindow t.anchor (lockWindow (refNum src) (interval a)) x then
      { s with tick := { t with outliers := satInc t.outliers } }
    else { s with tick := { t with events := t.events ++ [x] } }
  else s

/-- No block is in progress (R25). -/
def TickSt.noBlock (t : TickSt) : TickSt := { t with blockFirst := none, blockCount := 0, blockSpan := 0, blockSeen := [] }

/-- A usable event of error e enters the block measurement (R25). `back` are the reference intervals that a stretch puts
before the anchoring event. -/
def TickSt.blockEvent (t : TickSt) (x : Rat) (back : Nat) : TickSt :=
  match t.blockFirst with
  | none => { t with blockFirst := some x, blockCount := 1, blockSpan := back, blockSeen := t.blockSeen.filter (fun y => decide (x ≤ y)) }
  | some _ => { t with blockCount := t.blockCount + 1 }

/-- The distances of events in succession. -/
def gaps : List Rat → List Rat
  | x :: y :: l => (y - x) :: gaps (y :: l)
  | _ => []

/-- The reference intervals between the TICKs of a list, whatever this node's N is (R531): node 0's interval is the shortest
distance of two TICKs received in succession, and a longer distance is as many of it as it comes nearest to, so a TICK that did
not arrive still counts. The manual does not say how a member finds them (DEDUCED, log entry 34). -/
def ringSpan (xs : List Rat) : Nat :=
  let g := (gaps xs).filter (fun d => decide (0 < d))
  match g with
  | [] => 1
  | d :: l => let m := l.foldl min d; (g.map (fun x => (roundEven (x / m)).toNat)).sum

/-- The mean interval of a block that its eighth event completes (R25). -/
def TickSt.blockMean (t : TickSt) (src : Nat) (x : Rat) : Option Rat :=
  match t.blockFirst with
  | some x0 =>
    if t.blockCount = 8 then
      some ((x - x0) / ((if src = 3 then ringSpan (t.blockSeen.filter (fun y => decide (y ≤ x))) else t.blockSpan : Nat) : Rat))
    else none
  | none => none

/-- A completed block is judged (R25, R30): 2001h.0A, and lock fault 1 where its mean is off by more than 1000 ppm. The manual
does not say when lock fault 1 ends: it is cleared by the next block whose mean is in range, by lock fault 2 taking its place,
at a restart of acquisition and in FREE (DESIGN CHOICE, log entry 34). -/
def State.judgeBlock (s : State) (x : Rat) : State :=
  match s.tick.blockMean (s.acfg 0x2000 2) x with
  | none => s
  | some m =>
    let i : Rat := interval s.active
    let t : TickSt := { s.tick.noBlock with
      measured := (clampInt 0 0xffffffff (roundEven m)).toNat }
    if i < 1000 * ratAbs (m - i) then
      let locked := decide (t.lock = .locked)
      ({ s with tick := { t with
          fault := 1
          good := if locked then t.good else 0
          lockNext := if locked && t.lockNext.isNone then some .holdover else t.lockNext
          holdCause := if locked && t.lockNext.isNone then 2 else t.holdCause } }).event 0x2001 11 1
    else { s with tick := { t with fault := if t.fault = 1 then 0 else t.fault } }

/-- The integrator and the correction after error e (R23); frozen in HOLDOVER and ADRIFT (R32). -/
def TickSt.steer (t : TickSt) (src i : Nat) (e : Rat) : TickSt :=
  if t.lock = .acquiring ∨ t.lock = .locked then
    let g := lockGains src (decide (t.lock = .locked))
    let integ := clampRat (mkRat i 1000) (t.integ + g.2 * e)
    let f := clampRat (mkRat 1 1000) ((g.1 * e + integ) / i)
    { t with integ := integ, f := f, fLast := if t.lock = .locked then (f :: t.fLast).take 8 else t.fLast }
  else t

/-- The state the loop moves to at the next boundary after a usable event (R30). -/
def TickSt.afterEvent (t : TickSt) : TickSt :=
  match t.lockNext with
  | some _ => t
  | none =>
    if t.lock = .acquiring ∧ 8 ≤ t.good then { t with lockNext := some .locked }
    else if t.lock = .holdover ∨ t.lock = .adrift then { t with lockNext := some .acquiring }
    else t

/-- A usable event with target x and error e (R23, R25, R30): status, block, correction, transition. -/
def State.usable (s : State) (x e : Rat) (back : Nat) : State :=
  let a := s.active
  let src := cfg a 0x2000 2
  let t := s.tick
  let t1 := { (t.blockEvent x back) with
    phaseErr := clampInt (-0x80000000) 0x7fffffff (roundEven (e * 1000000 / 49152))
    good := if ratAbs e ≤ lockThreshold src then t.good + 1 else 0 }
  let s1 := ({ s with tick := t1 }).judgeBlock x
  { s1 with tick := (s1.tick.steer src (interval a) e).afterEvent }

/-- An anchor boundary without a usable event (R23, R30). Lock fault 2 is reported where no event at all has arrived since the
last evaluation, over a standing lock fault 1. The manual does not say whether a miss breaks the eight consecutive usable events
of R30: it does here, the count starts again (DESIGN CHOICE, log entry 35). -/
def TickSt.miss (t : TickSt) : TickSt :=
  let run := if t.anchored then t.unusable + 1 else t.unusable
  let lost := decide (t.lock = .locked) && decide (3 ≤ run) && t.lockNext.isNone
  { t with
    missing := satInc t.missing, unusable := run, good := 0
    fault := if t.lock = .acquiring ∧ t.arrived = 0 then 2 else t.fault
    lockNext := if lost then some .holdover else t.lockNext
    holdCause := if lost then 1 else t.holdCause }

/-- The loop anchors on the first event seen (R23), stretching the next tick over an error beyond the smaller of 5 % of a
tick and w; never a second time before the anchor boundary that follows one (R36). The manual does not say whether the anchoring
event is itself the first usable event after the anchoring, with which R25 begins a block: it is (DESIGN CHOICE, log entry 34).
Where the error is a whole number of ticks no tick is stretched, and R34 has a REALIGN marker end a stretched tick where the sketch
of R23 writes one at every error beyond the limit: none is written then (DESIGN CHOICE, log entry 35). -/
def State.anchorOn (s : State) (x : Rat) (more : Nat) : State :=
  let a := s.active
  let n8 : Rat := (8 * tickN a : Nat)
  let t := s.tick
  let e := t.anchor - x
  let w := lockWindow (cfg a 0x2000 2) (interval a)
  let wide := decide (min (n8 / 20) w < ratAbs e) && decide (t.stretchNext = 0) && !(decide (t.stretch ≠ 0) && decide (t.anchor ≤ 0))
  let st := ratMod (-e) n8
  let t1 := { t with
    anchored := true, outliers := satAdd t.outliers more
    stretchNext := if wide then st else t.stretchNext
    blockFirst := none }
  ({ s with tick := t1 }).usable x (if wide then 0 else e)
    (if wide then (roundEven ((e + st) / (interval a : Nat))).toNat else 0)

/-- The anchor boundary after one that has been evaluated: an interval on, and past the running tick by its stretch too
(R21, R33). -/
def TickSt.nextAnchor (t : TickSt) (i : Nat) : Rat :=
  if t.anchor ≤ 0 ∧ 0 < t.anchor + i then t.anchor + i + t.stretch else t.anchor + i

/-- LOCK_LOOP_EVALUATION (R23): the capture window of the anchor boundary closes, and the next one is M boundaries on. The events
"seen since the last anchor boundary", where the loop is not anchored, are those since the last evaluation, which differs where
P > w (DESIGN CHOICE, log entry 34). -/
def State.lockEval (s : State) : State :=
  let a := s.active
  if s.tick.on && decide (cfg a 0x2000 2 ≠ 0) then
    let t := s.tick
    let t0 := { t with
      events := []
      blockSpan := if t.blockFirst.isSome then t.blockSpan + 1 else t.blockSpan }
    let s0 : State := { s with tick := t0 }
    let s1 : State :=
      match t.events with
      | [] => { s0 with tick := t0.miss }
      | x :: more =>
        if t.anchored then
          ({ s0 with tick := { t0 with unusable := 0, outliers := satAdd t0.outliers more.length } }).usable x (t.anchor - x) 0
        else s0.anchorOn x more.length
    { s1 with tick := { s1.tick with
        anchor := s1.tick.nextAnchor (interval a), arrived := 0
        blockSeen := if s1.tick.blockFirst.isSome then s1.tick.blockSeen else [] } }
  else s

/-- HOLDOVER_LIMIT (R30): the tick that ends makes the ticks spent in HOLDOVER reach 2000h.05; ADRIFT begins at the
boundary. -/
def State.holdoverLimit (s : State) : State :=
  let l := s.acfg 0x2000 5
  if s.tick.on && decide (s.tick.lock = .holdover) && decide (l ≠ 0) && decide (l ≤ s.tick.holdover + 1) && s.tick.lockNext.isNone then
    { s with tick := { s.tick with lockNext := some .adrift } }
  else s

/-- Mean of the corrections kept, or the present one (R32). -/
def TickSt.frozenF (t : TickSt) : Rat := if t.fLast.isEmpty then t.f else t.fLast.sum / t.fLast.length

/-- Acquisition starts or restarts (R23, R35, R135, R499): nothing is anchored; i is set to f × I. -/
def TickSt.restart (t : TickSt) (a : Tbl Nat) : TickSt :=
  { t.noBlock with
    lock := .acquiring, lockNext := none, anchored := false, events := [], arrived := 0, good := 0, unusable := 0, fault := 0
    holdover := 0, holdCause := 4
    stretchNext := 0, integ := t.f * (interval a : Nat) }

/-- Source PLL (R29, R35): FREE, f = 0. -/
def TickSt.toFree (t : TickSt) : TickSt :=
  { t.noBlock with
    lock := .free, lockNext := none, anchored := false, events := [], good := 0, unusable := 0, fault := 0, holdover := 0, stretchNext := 0, f := 0, integ := 0 }

/-- The transition decided before a boundary takes effect there (R30, R32). An event received before the boundary at which HOLDOVER
begins, for an anchor boundary that is evaluated after it, is dropped, and that evaluation counts a miss: R30 has the loop anchor
on the first event after HOLDOVER began, R23 on the first since the last anchor boundary (DESIGN CHOICE, log entry 35). -/
def TickSt.transition (t : TickSt) (a : Tbl Nat) : TickSt :=
  match t.lockNext with
  | none => t
  | some .holdover =>
    { t.noBlock with
      lock := .holdover, lockNext := none, f := t.frozenF, anchored := false, events := [], good := 0, unusable := 0, holdover := 0 }
  | some .acquiring => { t with lock := .acquiring, lockNext := none, holdover := 0, integ := t.f * (interval a : Nat) }
  | some .locked => { t with lock := .locked, lockNext := none, unusable := 0, fault := if t.fault = 2 then 0 else t.fault, fLast := [] }
  | some l => { t with lock := l, lockNext := none }

/-- Boundary b, or the anchor boundary after it where the capture window of b closes before t0: that window closes at b + w − P. -/
def openAnchor (a : Tbl Nat) (b : Rat) : Rat :=
  if b + lockWindow (cfg a 0x2000 2) (interval a) - cfg a 0x2000 4 < 0 then b + interval a else b

/-- The first anchor boundary whose capture window closes at or after the boundary that opens tick n, where anchors open the
multiples of M (R21, R23). -/
def firstAnchor (a : Tbl Nat) (n : TickNo) : Rat :=
  let m := cfg a 0x2000 6
  openAnchor a (((m - n.toNat % m) % m * (8 * tickN a) : Nat) : Rat)

/-- Whether a commit changes what R35 names. -/
def tickChanged (old new : Tbl Nat) : Bool := [1, 2, 4, 6].any fun i => cfg old 0x2000 i ≠ cfg new 0x2000 i

/-- The lock loop at an activation (R21, R35, R38). The counter is already that of the tick opened. -/
def TickSt.activation (t : TickSt) (old new : Tbl Nat) : TickSt :=
  if cfg new 0x2000 2 = 0 then (if t.lock = .free then t else t.toFree)
  else if tickChanged old new || t.lock = .free then { t.restart new with anchor := firstAnchor new t.counter }
  else t

/-- The lock loop when a stopped tick resumes (R135, R499): it anchors on the first anchor boundary from this one on whose capture
window is still open. -/
def TickSt.resume (t : TickSt) (a : Tbl Nat) : TickSt :=
  if cfg a 0x2000 2 = 0 then t.toFree
  else { t.restart a with anchor := openAnchor a (if t.anchor < 0 then t.anchor + interval a else t.anchor) }

/-- Time moves to the next boundary: instants are counted from the new t0; the stretch decided enters the tick opened, and
anchor boundaries after this one move with it (R23, R33). -/
def TickSt.shift (t : TickSt) (len : Rat) (i : Nat) : TickSt :=
  let b := t.anchor - len
  { t with
    events := t.events.map (· - len)
    blockFirst := t.blockFirst.map (· - len)
    blockSeen := t.blockSeen.map (· - len)
    anchor := if b + i ≤ 0 then b + i else b }

/-- The stretch decided is that of the tick opened (R33, R41). -/
def TickSt.openStretch (t : TickSt) : TickSt :=
  { t with
    stretch := t.stretchNext, stretchNext := 0
    anchor := if 0 < t.anchor then t.anchor + t.stretchNext else t.anchor
    stretched := if t.stretchNext = 0 then t.stretched else satInc t.stretched }

/-- The markers of a boundary in code order (R34, R37): HOLD-ENTER, HOLD-EXIT, REALIGN, ADRIFT, TICK-EPOCH. `was` is
whether the tick that ended carried HOLD, `realign` the stretch that ended and the counter step, `drift` that ADRIFT begins. -/
def State.tickMarkers (s : State) (was : Bool) (realign : List Int) (drift wrapped : Bool) : State :=
  let t := s.tick
  let s1 := if t.lock.hold && !was then s.marker 0x20 (BitVec.ofNat 32 t.holdCause) else s
  let s2 := if !t.lock.hold && was then s1.marker 0x21 (BitVec.ofNat 32 t.holdTicks) else s1
  let s3 := realign.foldl (fun acc x => acc.marker 0x22 (BitVec.ofInt 32 x)) s2
  let s4 := if drift then s3.marker 0x23 (BitVec.ofNat 32 t.holdover) else s3
  if wrapped then s4.marker 0x24 (t.epoch.setWidth 32) else s4

/-- HOLD ticks of the run of HOLD the tick opened belongs to, counted from its end (R34). -/
def TickSt.countHold (t : TickSt) (was : Bool) : TickSt :=
  { t with holdTicks := if t.lock.hold then (if was then satInc t.holdTicks else 1) else t.holdTicks }

/-- 2001h.05: f in 0.1 ppm. -/
def TickSt.fCode (t : TickSt) : Int := clampInt (-10000) 10000 (roundEven (t.f * 10000000))

/-- REFERENCE_EVENT. -/
def execReferenceEvent (src : RefSource) (inst : Int) (s : State) : Host.Outcome State Fault Refusal :=
  s.run (·.refEvent src inst)
/-- LOCK_LOOP_EVALUATION. -/
def execLockLoopEvaluation (s : State) : Host.Outcome State Fault Refusal := s.run State.lockEval
/-- HOLDOVER_LIMIT. -/
def execHoldoverLimit (s : State) : Host.Outcome State Fault Refusal := s.run State.holdoverLimit

end Sys2Proof.Machine
end

