-- ==== Sys2Proof/Machine/Power.lean ====
section
/-! DEFINITION. Stops, supply, heat, clock faults and power states (chapters 05 and 20). -/
namespace Sys2Proof.Machine
open Sys2Proof

/-- Outputs, sources and lanes stop, a running calibration ends, and every trigger in flight is resolved with the reason
and the tick of the stop (R485 steps 1–4, R493). -/
def State.stopAll (s : State) (why : Reason) : State :=
  let s1 := (s.forceAllMid.openSources.lanesStop).calLanesStopped
  (s1.slots.map (·.1)).foldl (fun acc n => acc.resolveSlot n why (fun _ => s.tick.counter) none) s1

/-- The stop cause after another stop begins: a ledger stop stays one, since only reset clears it (R487). -/
def stopCauseAfter (old new : BitVec 8) : BitVec 8 := if old = 2 then 2 else new

/-- Entry into INTEGRITY-STOP with a cause (R485): steps 1 to 4, then 2E00h.06; the log entry and EMCY are the caller's. -/
def State.integrityStop (s : State) (cause : BitVec 8) : State :=
  let s1 := s.stopAll .integrityStop
  { s1 with sup := { s1.sup with stopCause := stopCauseAfter s.sup.stopCause cause, sweeping := false, clearDue := false } }

/-- Every whey record that waits is written now: under a clock fault no epilogue comes (R485). -/
def State.writeWheyNow (s : State) : State := (sortWhey s.whey).foldl State.writeWhey { s with whey := [] }

/-- SUP and SUPPLY of a tick reach the records already formed for it (R250, R482). -/
def stampRec (t : TickNo) (sup : Bool) (code : BitVec 8) (r : Rec) : Rec :=
  if r.tick = t && !r.stamped && r.kind ≠ 5 then { r with sup := sup, supply := code, stamped := true } else r

/-- The same for the records a closed ring has counted. -/
def stampCounted (t : TickNo) (sup : Bool) (code : BitVec 8) (c : Counted) : Counted :=
  if c.tick = t && !c.stamped then { c with sup := sup, supply := code, stamped := true } else c

/-- The stamp on every record of a ring. -/
def Ring.stamp (t : TickNo) (sup : Bool) (code : BitVec 8) (g : Ring) : Ring :=
  { g with
    unread := g.unread.map (stampRec t sup code)
    outstanding := g.outstanding.map (stampRec t sup code)
    counted := g.counted.map (stampCounted t sup code) }

/-- The stamp on the shared facts of a tick. -/
def TickSt.stampTick (t : TickSt) (sup : Bool) (code : BitVec 8) : TickSt :=
  { t with hist := t.hist.map fun i => if i.tick = t.counter then { i with sup := sup, supply := code, stamped := true } else i }

/-- The stamp code of AVDD in µV (R482). -/
def stampCode (avddUv : Nat) : Nat := (clampInt 0 255 (roundEven (mkRat ((avddUv : Int) - 2000000) 15000))).toNat

/-- SUPPLY_STAMP (R482, R483): once in every tick. The command brings the level of VIO too, which the logic outputs follow (R529). -/
def State.supplyStamp (s0 : State) (avddUv vioMv : Nat) : State :=
  let s : State := { s0 with sup := { s0.sup with vioMv := vioMv } }
  let t := s.tick.counter
  if s.tick.on && !(s.info t).stamped then
    let code := stampCode avddUv
    let b := BitVec.ofNat 8 code
    let sup := decide (2000 + 15 * code < s.acfg 0x2e00 1)
    let low := match s.sup.lowest with
      | some x => if b < x then b else x
      | none => b
    let s1 := { s with
      tick := s.tick.stampTick sup b
      rings := tmapVals ringDflt (fun _ => Ring.stamp t sup b) s.rings
      sup := { s.sup with stamp := b, lowest := some low, supNow := sup, supTicks := if sup then satInc s.sup.supTicks else s.sup.supTicks } }
    let s2 := if sup then s1.jnMargin else s1
    if sup && !s.sup.supNow then (s2.event 0x2e00 2 code).emcy 0x3200 code else s2
  else s

/-- 2E00h.05 counts a mismatch (R485–R487). -/
def State.countMismatch (s : State) : State := { s with sup := { s.sup with mismatches := satInc s.sup.mismatches } }

/-- A mismatch found by the rind check: 01h signatures or configuration, 02h ledger (R484–R486). The steps of R485 in their order. -/
def State.rindMismatch (s : State) (cause : BitVec 8) : State :=
  if s.sup.stopCause ≠ 0 then s.countMismatch
  else (((s.integrityStop cause).countMismatch).event 0x2e00 6 cause.toNat).emcy 0x5000 cause.toNat

/-- RIND_CHECK (R484): the three comparisons of a tick and their verdict. -/
def State.rindCheck (s : State) (signatureDiffers configDiffers : Bool) : State :=
  if s.tick.on && !s.clk.causes.contains 3 then
    let s1 := { s with sup := { s.sup with segment := (s.sup.segment + 1) % 96 } }
    if signatureDiffers || configDiffers then s1.rindMismatch 1
    else if !s1.ledgerHolds then s1.rindMismatch 2
    else s1
  else s

/-- A stop clear is requested (R487): the sweep of all segments starts. -/
def State.stopClear (s : State) : State := { s with sup := { s.sup with sweeping := true } }

/-- SWEEP_COMPLETE (R487): a mismatch changes 2E00h.05, which its event names (R404). No sweep runs in STANDBY (R498). -/
def State.sweepComplete (s0 : State) (mismatch : Bool) (cyc : Nat) : State :=
  let s := s0.at cyc
  if s.sup.sweeping && s.sup.stopCause ≠ 0 && !s.clockFault && s.pow.state ≠ .standby then
    if mismatch then
      let s1 := ({ s with sup := { s.sup with sweeping := false } }).countMismatch
      s1.event 0x2e00 5 s1.sup.mismatches
    else { s with sup := { s.sup with sweeping := false, clearDue := true } }
  else s

/-- Sequencer and filter-engine state are reinitialised (R487): rank histories, section states, pairing, event counts. -/
def State.reinitialise (s : State) : State :=
  { s with
    slots := tmapVals (fun _ => {}) (fun _ r => { r with filt := {}, prev := none, events := 0 }) s.slots
    lanes := tmapVals (fun _ => {}) (fun _ r => { r with filt := {} }) s.lanes }

/-- The stop clears due at a boundary (R487, R494). Journal work that a shutdown held goes on once it is cleared (R382, R443). -/
def State.clearStops (s : State) : State :=
  let s1 := if s.sup.clearDue then
      ({ s with sup := { s.sup with clearDue := false, stopCause := 0 } }).reinitialise
    else s
  if s1.sup.shutClear then ({ s1 with sup := { s1.sup with shutClear := false, shutdown := false } }).jnMove else s1

/-- 2E01h.02. -/
def SupplySt.thermal (u : SupplySt) : Nat := (if u.warning then 1 else 0) + (if u.shutdown then 2 else 0)

/-- 2004h.07 (R124, R500). -/
def State.stopState (s : State) : Nat :=
  if s.sup.shutdown && s.pow.state ≠ .standby then 2 else if s.sup.stopCause ≠ 0 then 1 else 0

/-- DIE_TEMPERATURE_READING (R492). -/
def State.dieReading (s : State) (centi : Int) : State :=
  if s.converterOn then
    let v := clampInt (-32768) 32767 centi
    let top := match s.sup.dieMax with
      | some x => max x v
      | none => v
    let u := { s.sup with die := v, dieMax := some top }
    if !u.warning && decide (15000 ≤ v) then
      let w := { u with warning := true }
      (({ s with sup := w }).event 0x2e01 2 w.thermal).emcy 0x4200 1
    else { s with sup := { u with warning := u.warning && decide (14500 ≤ v) } }
  else s

/-- What thermal shutdown does where the device is not in STANDBY (R493). -/
def State.thermalStop (s : State) : State :=
  let s1 := (s.stopAll .thermalStop).jnShutdown
  let s2 := { s1 with sup := { s1.sup with shutdowns := satInc s1.sup.shutdowns } }
  (s2.event 0x2e01 2 s2.sup.thermal).emcy 0x4200 2

/-- THERMAL_SHUTDOWN (R493): it latches; in STANDBY the stop takes effect on return. -/
def State.thermalShutdown (s : State) : State :=
  if s.sup.shutdown || decide (s.boot = .inReset) then s
  else
    let s0 := if s.pow.state = .standby then s else s.gensNow
    let s1 := { s0 with sup := { s0.sup with shutdown := true, shutClear := false } }
    if s.pow.state = .standby then { s1 with sup := { s1.sup with shutDue := true } } else s1.thermalStop

/-- A shutdown clear is requested (R494). -/
def State.shutdownClear (s : State) : State := { s with sup := { s.sup with shutClear := true } }

/-- Code of a clock fault (R131). -/
def causeCode : ClockCause → Nat
  | .xoLoss => 1 | .pllUnlock => 2 | .selfCheckLoss _ => 3

/-- The frequency of the self-check RC that 2011h.06 holds after a fault (R136): the one measured. -/
def khzAfter (old : BitVec 16) : ClockCause → BitVec 16
  | .selfCheckLoss khz => khz
  | _ => old

/-- Whether a measured self-check frequency lies inside 6.4–9.6 MHz (R131, R136). -/
def selfCheckGood (khz : BitVec 16) : Bool := decide (6400 ≤ khz.toNat) && decide (khz.toNat ≤ 9600)

/-- Whether the device can detect a fault (R131): the clock watched has run since reset, the XO once it has been started (R490), the
PLL once it has locked, the self-check RC from the release on; a self-check loss is a frequency outside its limits. -/
def State.detects (s : State) : ClockCause → Bool
  | .xoLoss => s.boot ≠ .inReset && s.boot ≠ .released
  | .pllUnlock => s.clk.seen
  | .selfCheckLoss khz => s.boot ≠ .inReset && !selfCheckGood khz

/-- A fault enters the causes and the counts (R131, R132, R137). -/
def ClockSt.note (c : ClockSt) (t : TickNo) (cause : Nat) : ClockSt :=
  { c with causes := c.causes ++ [cause], faults := satInc c.faults, tick := t }

/-- Whether the core would be left without a good clock by a fault (R136, R138): a self-check loss while the core runs on the RC,
before the first PLL lock too (DEDUCED, log entry 67), or another fault beside a self-check loss. -/
def noGoodClock (c : ClockSt) (cause : Nat) : Bool :=
  if cause = 3 then c.core = .selfCheck else c.causes.contains 3

/-- The core stops for good (R138). -/
def State.coreStop (s : State) : State :=
  { s with clk := { s.clk with coreStopped := true }, tick := { s.tick with on := false } }

/-- The response to a first clock fault 01h–03h (R132): the tick stops, the core changes its clock, INTEGRITY-STOP. The manual does
not say at which level TICKOUT stands while the tick does: at its last one, until the next boundary (DESIGN CHOICE, log entry 84).
The event names 2011h.03, which R132 increments (R404). -/
def State.clockStop (s : State) (cause : Nat) : State :=
  let lost := decide (cause ≠ 3)
  let s1 := { s with
    tick := { s.tick.dropLatches with on := false }
    clk := { s.clk with
      core := if lost then .selfCheck else .system
      pll := if lost then 3 else s.clk.pll
      scTry := false } }
  let s2 := s1.integrityStop 3
  (((s2.emcy 0x5000 s2.sup.stopCause.toNat).writeWheyNow).event 0x2011 3 s2.clk.faults).jnMargin

/-- CLOCK_FAULT (R131, R132, R137, R138): the waveform domain is gated with the tick, so generators stand from here on. A fault is
detected before tick 0 too. -/
def State.clockFaultIn (s : State) (cause : ClockCause) (cyc : Nat) : State :=
  let c := causeCode cause
  if s.detects cause && s.pow.state ≠ .standby && !s.clk.causes.contains c then
    if noGoodClock s.clk c then s.coreStop
    else
      let s0 := if s.tick.on then s.at cyc else s
      let s1 := { s0 with clk := { s0.clk.note s0.tick.counter c with scKhz := khzAfter s.clk.scKhz cause } }
      if s.clockFault then s1 else s1.gensNow.clockStop c
  else s

/-- Whether a measured always-on frequency lies inside 24–42 kHz (R131, R133). -/
def alwaysOnGood (hz : BitVec 16) : Bool := decide (24000 ≤ hz.toNat) && decide (hz.toNat ≤ 42000)

/-- ALWAYS_ON_LOSS (R131, R133): the frequency measured over a 10 ms window lies outside 24–42 kHz. -/
def State.alwaysOnLoss (s : State) (hz : BitVec 16) : State :=
  if s.clk.causes.contains 4 || decide (s.boot = .inReset) || alwaysOnGood hz then s
  else { s with clk := { s.clk.note s.tick.counter 4 with aoHz := hz } }

/-- ALWAYS_ON_RECOVERY (R133): the frequency has been back inside 24–42 kHz for one full 10 ms window. -/
def State.alwaysOnRecovery (s : State) (hz : BitVec 16) : State :=
  if s.clk.causes.contains 4 && alwaysOnGood hz then { s with clk := { s.clk with causes := s.clk.causes.filter (· ≠ 4), aoHz := hz } } else s

/-- XO_RESTART (R135, R490): in a fault 01h or 02h, and before the first lock, the PLL is locking again. The manual gives 2011h.05
no value while such a fault lasts: 03h from the fault, 01h from the first restart on (DESIGN CHOICE, log entry 67). -/
def State.xoRestart (s : State) : State :=
  if s.netHalted || ((s.boot = .fuses || s.boot = .checked) && s.clk.pll ≠ 2) then { s with clk := { s.clk with pll := 1 } } else s

/-- The monitor sampler runs again after a clock fault (R314). -/
def State.samplerBack (s : State) : State :=
  if s.clockFault then s else ((monitorsOn s.active).foldl State.monResume s).calWhey

/-- PLL_LOCK (R125, R135, R490): the core returns to the system output and the cause clears. Where causes 01h and 02h are both
present, one lock ends both, since the PLL locks on a running XO only, and the second is not reported after the first: R137 leaves
this open (DESIGN CHOICE, log entry 67). -/
def State.pllLock (s : State) (external : Bool) : State :=
  if s.clk.pll = 1 && s.pow.state ≠ .standby then
    let was := s.clockFault
    let s1 := { s with clk := { s.clk with
      pll := 2, core := .system, seen := true
      external := if s.boot = .running then s.clk.external else external
      causes := s.clk.causes.filter (fun c => c ≠ 1 && c ≠ 2) } }
    if was then s1.samplerBack else s1
  else s

/-- SELF_CHECK_RESTART (R136). -/
def State.selfCheckRestart (s : State) : State :=
  if s.clk.causes.contains 3 then { s with clk := { s.clk with scTry := true } } else s

/-- SELF_CHECK_QUALIFIED (R136): the measured frequency has stayed within 6.4–9.6 MHz for 1 ms since a restart. -/
def State.selfCheckQualified (s : State) (khz : BitVec 16) : State :=
  if s.clk.causes.contains 3 && s.clk.scTry && selfCheckGood khz then
    ({ s with clk := { s.clk with causes := s.clk.causes.filter (· ≠ 3), scKhz := khz, scTry := false } }).samplerBack
  else s

/-- CORE_STOP (R138): the self-check RC fails while the core runs on it. -/
def State.coreStopEvent (s : State) : State :=
  if s.boot ≠ .inReset ∧ s.pow.state ≠ .standby ∧ s.clk.core = .selfCheck then s.coreStop else s

/-- 2011h.02: the code of the earliest cause present. R137 reports a second cause by "setting its bit" after the first is cleared,
where R131 writes a cause code: it is read as the second cause's code in place of the first (DESIGN CHOICE, log entry 67). -/
def ClockSt.cause (c : ClockSt) : Nat := c.causes.headD 0

/-- Whether an overlap connects lane p (R182). -/
def State.overlaps (s : State) (p : Nat) : Bool :=
  match s.quad.overlap with
  | some o => p = 4 || o.lane = p
  | none => false

/-- Whether lane p calibrates: a rotation window, a one-shot self-calibration, a fault clear (R178, R192, R350). -/
def State.laneCalibrates (s : State) (p : Nat) : Bool :=
  s.windowOpen p || (s.cal.run = some CalKind.self && s.cal.started && s.cal.lane = p) || (s.lane p).clearing.isSome

/-- Whether lane p's modulator domain runs (R129, R179): it converts for slots, in an overlap too, or calibrates. -/
def State.modulatorOn (s : State) (p : Nat) : Bool :=
  s.lanesRun && (s.laneCalibrates p || (!(s.lane p).faulted &&
    (s.overlaps p || (if p < 4 then s.quad.serving ≠ some p && !(slotsOn s.active p).isEmpty else s.quad.serving.isSome))))

/-- 2011h.01: the domains running (R127, R132, R138, R490). In a clock fault the source that has failed reads as not running: the XO
in 01h, the system output in 01h and 02h, the self-check RC in 03h (DESIGN CHOICE, log entry 67). -/
def State.domains (s : State) : Nat :=
  let bits := fun (l : List Nat) => (l.map (fun k => 2 ^ k)).sum
  if s.clk.coreStopped then bits [23]
  else if s.pow.state = .standby then bits (if s.acfg 0x2720 1 = 2 then [16, 23] else [23])
  else
    let fault := s.clockFault
    let halted := s.netHalted
    let started := decide (s.boot = .running)
    let mods := ([0, 1, 2, 3, 4].filter s.modulatorOn).map (4 + ·)
    let lanes := s.tick.on && !s.pow.lanesOff
    bits ((if s.clk.causes.contains 1 || s.clk.pll = 0 then [] else [0]) ++
      (if halted || s.clk.pll ≠ 2 then [] else [1]) ++ [2, 11, 17, 22, 23] ++ (if s.tick.on then [3] else []) ++ mods ++
      (if lanes then [9, 10] else []) ++ (if started && !fault then [12, 13, 15, 16] else []) ++
      (if started then [14] else []) ++ (if halted then [] else [18, 19, 21]) ++ [20] ++
      (if s.clk.causes.contains 3 then [] else [24]))

/-- A power state is requested at a cycle of the running tick (R495). -/
def State.powerRequest (s : State) (p : Power) (v cyc : Nat) : State :=
  { s with pow := { s.pow with request := some p, reqAt := cyc, lastReq := BitVec.ofNat 8 v } }

/-- Whether the request's 10 µs have passed at the boundary just reached (R496, R497). -/
def PowerSt.due (p : PowerSt) : Bool := p.request.isSome && decide (p.reqAt * 1000 ≤ -491520)

/-- The power request at a boundary (R496, R497): a drain begins, or RUN resumes. -/
def State.powerBoundary (s : State) : State :=
  if s.pow.due then
    match s.pow.request with
    | some .run => { s with pow := { s.pow with state := .run, request := none, noTrig := false, lanesOff := false } }
    | _ => { s with pow := { s.pow with noTrig := true } }
  else s

/-- Whether a trigger of any slot is latched and not yet resolved. -/
def State.anyTrigger (s : State) : Bool := s.slots.any fun e => e.2.run.isSome || e.2.pend.isSome

/-- The lanes are left (R496): they stop, Quadrille holds, a calibration ends, sources open. -/
def State.leaveLanes (s : State) : State :=
  let s1 := (s.lanesStop.openSources).calLanesStopped
  { s1 with pow := { s1.pow with lanesOff := true } }

/-- DOZE_ENTRY (R496, R498): at a boundary at which no trigger is in flight the device leaves its lanes, and enters DOZE
where DOZE is requested. -/
def State.dozeEntry (s : State) : State :=
  if s.tick.on && s.tick.part = TickPart.prologue && s.pow.noTrig && s.pow.due && !s.anyTrigger then
    let s1 := if s.pow.lanesOff then s else s.leaveLanes
    if s.pow.request = some .doze then { s1 with pow := { s1.pow with state := .doze, request := none } } else s1
  else s

/-- Whether journal work lets the device enter STANDBY (R382, R498). -/
def JournalSt.quiet (j : JournalSt) : Bool := j.queue.isEmpty && j.prog.isNone && j.dev.isEmpty

/-- STANDBY_ENTRY (R498): every domain but always-on stops. R133 refuses a request during fault 04h and does not speak of one
accepted before it and not yet made: it is still made (DESIGN CHOICE, log entry 67). -/
def State.standbyEntry (s : State) : State :=
  if s.tick.on && s.tick.part = TickPart.prologue && s.pow.due && s.pow.request = some .standby && s.pow.lanesOff && s.jn.quiet then
    let s1 := { s with
      tick := { s.tick.dropLatches with on := false }
      pow := { s.pow with
        resume := if s.pow.state = .doze then .doze else .run, state := .standby, request := none, wakeSrc := 0, wakePin := false }
      touch := { s.touch with scan := none }
      clk := { s.clk with pll := 0 }
      plugs := tmapVals (fun _ => {}) (fun _ r => { r with moved := false }) s.plugs
      elems := tmapVals (fun _ => {}) (fun _ r => { r with wakeHits := 0 }) s.elems }
    (List.range 16).foldl State.monStandby ([0, 1, 2, 3].foldl State.outStandby s1)
  else s

/-- Whether a wake source has what it needs (R296, R313, R499): two wake scans with a hit, a change of a plug group with its wake bit,
a routed comparator output asserted on two consecutive always-on cycles. -/
def State.wakeReady (s : State) (k cycles : Nat) : Bool :=
  match k with
  | 0 => s.elems.any fun e => decide (2 ≤ e.2.wakeHits)
  | 1 => (plugsOn s.active).any fun g => s.acfg (0x2740 + g) 9 / 8 % 2 = 1 && (s.plug g).moved
  | 2 => decide (2 ≤ cycles) && (monitorsOn s.active).any fun m => s.routed 7 m && (s.monitor m).comp
  | _ => true

/-- WAKE_REQUEST (R499): WAKE rises and the XO is restarted. -/
def State.wakeRequest (s : State) (k cycles : Nat) : State :=
  if s.pow.state = .standby ∧ s.acfg 0x2e02 2 / 2 ^ k % 2 = 1 ∧ s.wakeReady k cycles = true then
    { s with
      pow := { s.pow with wakeSrc := s.pow.wakeSrc ||| BitVec.ofNat 8 (2 ^ k), wakePin := true }
      clk := { s.clk with pll := 1 } }
  else s

/-- SUPPLY_STAMP. -/
def execSupplyStamp (supply : SupplyLevels) (s : State) : Host.Outcome State Fault Refusal :=
  s.run (·.supplyStamp supply.avddUv supply.vioMv)
/-- RIND_CHECK. -/
def execRindCheck (sig conf : Bool) (s : State) : Host.Outcome State Fault Refusal := s.run (·.rindCheck sig conf)
/-- SWEEP_COMPLETE. -/
def execSweepComplete (result : SweepEnd) (s : State) : Host.Outcome State Fault Refusal :=
  s.run (·.sweepComplete result.mismatch result.cyc)
/-- DIE_TEMPERATURE_READING. -/
def execDieTemperatureReading (centi : Int) (s : State) : Host.Outcome State Fault Refusal := s.run (·.dieReading centi)
/-- THERMAL_SHUTDOWN. -/
def execThermalShutdown (s : State) : Host.Outcome State Fault Refusal := s.run State.thermalShutdown
/-- ALWAYS_ON_LOSS. -/
def execAlwaysOnLoss (hz : BitVec 16) (s : State) : Host.Outcome State Fault Refusal := s.run (·.alwaysOnLoss hz)
/-- ALWAYS_ON_RECOVERY. -/
def execAlwaysOnRecovery (hz : BitVec 16) (s : State) : Host.Outcome State Fault Refusal := s.run (·.alwaysOnRecovery hz)
/-- XO_RESTART. -/
def execXoRestart (s : State) : Host.Outcome State Fault Refusal := s.run State.xoRestart
/-- PLL_LOCK. -/
def execPllLock (external : Bool) (s : State) : Host.Outcome State Fault Refusal := s.run (·.pllLock external)
/-- SELF_CHECK_RESTART. -/
def execSelfCheckRestart (s : State) : Host.Outcome State Fault Refusal := s.run State.selfCheckRestart
/-- SELF_CHECK_QUALIFIED. -/
def execSelfCheckQualified (khz : BitVec 16) (s : State) : Host.Outcome State Fault Refusal := s.run (·.selfCheckQualified khz)
/-- CORE_STOP. -/
def execCoreStop (s : State) : Host.Outcome State Fault Refusal := s.run State.coreStopEvent
/-- DOZE_ENTRY. -/
def execDozeEntry (s : State) : Host.Outcome State Fault Refusal := s.run State.dozeEntry
/-- STANDBY_ENTRY. -/
def execStandbyEntry (s : State) : Host.Outcome State Fault Refusal := s.run State.standbyEntry
/-- WAKE_REQUEST. -/
def execWakeRequest (wake : Wake) (s : State) : Host.Outcome State Fault Refusal :=
  s.run (·.wakeRequest wake.source.val wake.cycles)

end Sys2Proof.Machine
end

