-- ==== Sys2Proof/Machine/FieldLock.lean ====
section
/-! DEFINITION. The field lock: states, attempts, verdict, back-off, expiry (R437–R449). -/
namespace Sys2Proof.Machine
open Sys2Proof

/-- 2C10h.01 and 2004h.06 (R124). -/
def FieldLock.code : FieldLock → Nat
  | .unsealed => 0 | .isSealed => 1 | .unlockedL1 => 2 | .unlockedL2 => 3

/-- Whether an unlock holds (R443). -/
def FieldLock.unlocked (f : FieldLock) : Bool := f = .unlockedL1 || f = .unlockedL2

/-- A lock timer of some seconds that starts now (R440, R442, R443). -/
def State.lockTimer (s : State) (secs : Nat) : Nat := secs * 6144000 + s.tick.cyc / 8

/-- The seconds a lock timer has left, rounded up (R442). -/
def State.lockSecs (s : State) (timer : Nat) : Nat := (timer - s.tick.cyc / 8 + 6143999) / 6144000

/-- Whether a lock timer can run out now: the core clock times it, to within the running tick or in a stop of the tick, and stands in
STANDBY (R442). -/
def State.lockDue (s : State) (timer : Nat) : Bool := s.pow.state ≠ .standby && (!s.tick.on || decide (8 * timer < s.tickCycles))

/-- A device-state record is to be written (R371, R441): the lock state, 00h and the failed count. -/
def State.devRecord (s : State) (state : FieldLock) (count : Nat) (own : Bool) : State :=
  let r : JRec := { typ := 4, cls := 0, payload := leBytes 1 state.code ++ [0] ++ leBytes 2 count, own := own }
  let s1 : State := { s with jn := { s.jn with dev := s.jn.dev ++ [r] } }
  s1.jnMove

/-- The lock state changes, with its record (R443). -/
def State.lockChange (s : State) (f : FieldLock) (count : Nat) (unlock : Nat) : State :=
  let s1 : State := { s with lock := { s.lock with state := f, fails := count, unlock := unlock } }
  s1.devRecord f count false

/-- Command 01h (R438): the device is sealed and the fuse blown. -/
def State.sealDevice (s : State) : State :=
  ({ s with lock := { s.lock with fuse := true } }).lockChange .isSealed s.lock.fails 0

/-- Command 02h (R438). -/
def State.relockDevice (s : State) : State := s.lockChange .isSealed s.lock.fails 0

/-- The refusal of a lock command, 0 for none (R438). -/
def State.lockRefusal (s : State) (v : Nat) : Nat :=
  if v = 1 then (if s.lock.state = .unsealed then 0 else 0x204)
  else if s.lock.state.unlocked then 0 else 0x204

/-- The refusal of an attempt, 0 for none (R439, R440, R441, R442): the state first, then what the attempt lacks, then
back-off, then whether it can be recorded. -/
def State.attemptRefusal (s : State) (response : Bool) : Nat :=
  let state := if response then decide (s.lock.state = .isSealed ∨ s.lock.state = .unlockedL1)
    else decide (s.lock.state = .isSealed)
  let has := if response then s.lock.chal.isSome else s.lock.pwStored
  if !state then 0x204
  else if !has then (if response then 0x208 else 0x206)
  else if s.lock.backOff ≠ 0 then 0x203
  else if s.lock.attempt.isSome || s.netHalted || s.sup.shutdown then 0x205
  else 0

/-- A write of 2C10h.05 spends the challenge, judged or not (R440). -/
def State.spendChallenge (s : State) : State := { s with lock := { s.lock with chal := none, chalLeft := 0 } }

/-- An attempt is recorded with the count increased by one, ahead of any queued store (R441). -/
def State.attempt (s : State) (response : Bool) (value : BitVec 128) : State :=
  let a : Attempt := { response := response, value := value, chal := s.lock.chal.getD 0, verified := false }
  ({ s with lock := { s.lock with attempt := some a, verifyFailed := false } }).devRecord s.lock.state
    (min (s.lock.fails + 1) 65535) true

/-- The expected response: the leftmost 128 bits of HMAC-SHA-256(K, C ‖ SN) (R440). -/
def expectedResponse (c : BitVec 128) : List Byte :=
  (hmac256 (beBytes 32 Config.deviceKey.toNat) (leBytes 16 c.toNat ++ leBytes 4 serialNo)).take 16

/-- Whether an attempt is accepted (R439, R440). -/
def State.accepts (s : State) (a : Attempt) : Bool :=
  if a.response then decide (leBytes 16 a.value.toNat = expectedResponse a.chal)
  else decide (a.value.toNat = s.lcfg 0x2c10 9)

/-- The subject and port of an attempt (R441). -/
def Attempt.subject (a : Attempt) : Nat := key 0x2c10 (if a.response then 5 else 3)

/-- The port of an attempt. -/
def Attempt.port (a : Attempt) : Port := if a.response then .s else .h

/-- Back-off after the f-th failure, in seconds (R442). -/
def backOffSecs (f : Nat) : Nat := if f = 0 then 0 else if 9 ≤ f then 256 else 2 ^ (f - 1)

/-- An attempt is judged once its record has been verified (R441, R442, R448). -/
def State.judgeAttempt (s : State) (a : Attempt) : State :=
  if s.accepts a then
    s.lockChange (if a.response then .unlockedL2 else .unlockedL1) 0 (s.lockTimer 600)
  else
    ({ s with lock := { s.lock with backOff := s.lockTimer (backOffSecs s.lock.fails) } }).refusal 0x202 a.port a.subject 0

/-- UNLOCK_VERDICT (R441). A record that failed verification refuses the attempt with 0205h. In STANDBY
the core stands (R498). -/
def State.unlockVerdict (s : State) : State :=
  match s.lock.attempt with
  | none => s
  | some a =>
    if !a.verified || s.pow.state = .standby then s
    else
      let s1 := { s with lock := { s.lock with attempt := none, verifyFailed := false } }
      if s.lock.verifyFailed then s1.refusal 0x205 a.port a.subject 0 else s1.judgeAttempt a

/-- BACK_OFF_END (R442): time reaches the instant at which the back-off has run. -/
def State.backOffEnd (s : State) : State :=
  if s.lockDue s.lock.backOff then
    let s1 := s.at (8 * s.lock.backOff)
    { s1 with lock := { s1.lock with backOff := 0 } }
  else s

/-- UNLOCK_EXPIRY (R443): time reaches the instant at which the unlock has run. -/
def State.unlockExpiry (s : State) : State :=
  if s.lock.state.unlocked && s.lockDue s.lock.unlock then (s.at (8 * s.lock.unlock)).relockDevice else s

/-- CHALLENGE_EXPIRY (R440): time reaches the instant at which the challenge has run. -/
def State.challengeExpiry (s : State) : State :=
  if s.lockDue s.lock.chalLeft then (s.at (8 * s.lock.chalLeft)).spendChallenge else s

/-- A new challenge is drawn from the entropy source (R440). -/
def State.newChallenge (s : State) : State :=
  { s with draws := s.draws + 1
           lock := { s.lock with chal := some (Config.entropy s.draws), chalLeft := s.lockTimer 60 } }

/-- An access has been served on a port (R443): the expiry of the unlock made there is timed anew. -/
def State.lockServed (s : State) (p : Port) : State :=
  if (s.lock.state = .unlockedL1 ∧ p = .h) ∨ (s.lock.state = .unlockedL2 ∧ p = .s) then
    { s with lock := { s.lock with unlock := s.lockTimer 600 } }
  else s

/-- A tick of n modulator cycles has passed on the lock's timers. -/
def LockSt.tickOver (n : Nat) (l : LockSt) : LockSt :=
  { l with backOff := l.backOff - n, unlock := l.unlock - n, chalLeft := l.chalLeft - n }

/-- UNLOCK_VERDICT. -/
def execUnlockVerdict (s : State) : Host.Outcome State Fault Refusal := s.run State.unlockVerdict
/-- BACK_OFF_END. -/
def execBackOffEnd (s : State) : Host.Outcome State Fault Refusal := s.run State.backOffEnd
/-- UNLOCK_EXPIRY. -/
def execUnlockExpiry (s : State) : Host.Outcome State Fault Refusal := s.run State.unlockExpiry
/-- CHALLENGE_EXPIRY. -/
def execChallengeExpiry (s : State) : Host.Outcome State Fault Refusal := s.run State.challengeExpiry

end Sys2Proof.Machine
end

