-- ==== Sys2Proof/Machine/Flags.lean ====
section
/-! DEFINITION. What the status entries read, and the interrupt pins (the r r r r rows of the entry blocks, R260, R289, R307, R337). -/
namespace Sys2Proof.Machine
open Sys2Proof

/-- 0 or 1. -/
def bit (b : Bool) : Nat := if b then 1 else 0

/-- A signed value as its two's complement in w bits, held at the ends of the range. -/
def asSigned (w : Nat) (i : Int) : Nat := unsigned w (clampInt (-(2 ^ (w - 1))) (2 ^ (w - 1) - 1) i)

/-- Code of a lock state (R29). -/
def LockState.code : LockState → Nat
  | .free => 0 | .acquiring => 1 | .locked => 2 | .holdover => 3 | .adrift => 4

/-- Code of a power state (R495). -/
def Power.code : Power → Nat
  | .run => 0 | .doze => 1 | .standby => 2

/-- Code of an element state (R280). -/
def ElemState.code : ElemState → Nat
  | .idle => 0 | .pressed => 1 | .stuck => 2 | .startHeld => 3

/-- Code of a plug state (R291). -/
def PlugState.num : PlugState → Nat
  | .unplugged => 0 | .plugged => 1 | .shorted => 2 | .faulted => 3

/-- Code of an NMT state (R431). -/
def Nmt.code : Nmt → Nat
  | .stopped => 4 | .operational => 5 | .preOperational => 0x7f

/-- 2001h (chapter 01). -/
def State.readTick (s : State) : Nat → Nat
  | 1 => s.tick.lock.code | 2 => s.tick.counter.toNat | 3 => s.tick.epoch.toNat | 4 => asSigned 32 s.tick.phaseErr
  | 5 => asSigned 16 s.tick.fCode | 6 => s.tick.outliers | 7 => s.tick.missing | 8 => s.tick.holdover
  | 9 => s.tick.stretched | 10 => s.tick.measured | _ => s.tick.fault.toNat

/-- 2002h (R100, R102, R123). -/
def State.readCommit (s : State) : Nat → Nat
  | 1 => s.com.request.toNat | 2 => s.com.result.toNat | 3 => s.com.code.toNat | 4 => s.com.shortfall
  | 5 => bit s.com.dirty | 6 => s.com.subject.toNat | 7 => s.com.subject2.toNat | 8 => s.com.tick.toNat
  | _ => portNum s.com.port

/-- 2003h (R87). -/
def State.readReport (s : State) (sub : Nat) : Nat :=
  if sub = 1 then s.com.commits
  else if sub < 0x0f then s.com.report.getD (sub - 2) 0
  else match sub with
    | 0x12 => s.com.delayed | 0x13 => s.com.maxDly | 0x14 => s.com.expired | _ => s.com.refusedN

/-- The bits of pending swaps (R216). -/
def State.swapBits (s : State) : Nat := (s.sense.swaps.map (fun w => 2 ^ w.1)).sum

/-- 2004h (R124). -/
def State.readDevice (s : State) : Nat → Nat
  | 1 => s.pow.state.code | 2 => s.cal.stateCode | 3 => s.quadCode | 4 => s.swapBits
  | 5 => roleOf s.active s.galt.glmaster | 6 => s.lock.state.code | _ => s.stopState

/-- 2011h (chapter 05). -/
def State.readClock (s : State) : Nat → Nat
  | 1 => s.domains | 2 => s.clk.cause | 3 => s.clk.faults | 4 => s.clk.tick.toNat | 5 => s.clk.pll.toNat
  | 6 => s.clk.scKhz.toNat | _ => s.clk.aoHz.toNat

/-- 2100h + x (R142, R144). -/
def State.readPin (s : State) (x : Nat) : Nat → Nat
  | 3 => roleBits s.active x | 4 => (s.pin x).fault.toNat | 5 => (s.pin x).entries | _ => (s.pin x).tick.toNat

/-- 2140h + e (R152, R159, R162). -/
def State.readSource (s : State) (e : Nat) : Nat → Nat
  | 13 => (s.source e).status | 14 => (s.source e).leadOhm.toNat | _ => (s.source e).unpaired

/-- 2200h + l (R199): the state, the cause, the counts, and the point of gain code 0, INT, in nV and 0.01 ppm. -/
def State.readLane (s : State) (l : Nat) : Nat → Nat
  | 2 => s.laneState l | 3 => (s.lane l).cause.toNat | 5 => (s.lane l).windows
  | 6 => asSigned 32 (roundEven ((s.point l 0).1 * mkRat 2500000000 (2 ^ 23)))
  | 7 => asSigned 32 (roundEven ((s.point l 0).2 * 100000000))
  | 8 => (s.lane l).trips | _ => (s.lane l).abandoned

/-- 2210h.06 and .07 (R173, R176). -/
def State.readRef (s : State) : Nat → Nat
  | 6 => bit s.sense.extaLow + 2 * bit s.sense.extbLow + 4 * bit (s.sense.ratioLow.any (·)) + 8 * bit s.sense.vrefoOut
  | _ => s.sense.vrefoUv.toNat

/-- 2220h (R199). -/
def State.readQuad (s : State) : Nat → Nat
  | 5 => s.quad.cycle | 6 => s.quad.phase | 7 => s.quad.serving.getD 0xff | 8 => s.quad.done | 9 => s.quad.abandoned
  | _ => s.skipBits

/-- 2300h + p (R203, R209). -/
def State.readProfile (s : State) (p : Nat) : Nat → Nat
  | 10 => tget (fun _ => 0) s.sense.saturations p | 11 => s.deliveryDelay p | _ => s.rankSectionDelay p

/-- 2380h (R215, R216). -/
def State.readBank (s : State) : Nat → Nat
  | 2 => s.sense.bank.toNat | 3 => s.swapBits | _ => s.sense.swapCount

/-- 2440h.02–.04 (R231, R235). -/
def State.readCurves (s : State) : Nat → Nat
  | 2 => s.sense.tcj.toNat | 3 => bit s.sense.tcjDie | _ => s.sense.undefined

/-- 2500h + r (R253, R261). -/
def State.readRing (s : State) (r : Nat) : Nat → Nat
  | 4 => (s.ring r).free | 5 => (s.ring r).outstanding.length | 6 => (s.ring r).unread.length | 9 => (s.ring r).refused
  | _ => (s.ring r).nonTrig

/-- 2600h (R265, R275). -/
def State.readLedger (s : State) : Nat → Nat
  | 1 => s.ledger.snapAccepted | 2 => s.ledger.snapData | 3 => s.ledger.snapWhey | 4 => s.ledger.snapFlight
  | 5 => s.ledger.snapOnly | 6 => s.ledger.snapTick.toNat | 7 => s.ledger.overReturn | 8 => s.ledger.released
  | 9 => s.ringBits s.atWatermark | 10 => s.ringBits (fun r => (s.ring r).closed)
  | 17 => s.auditOf.1 | 18 => s.auditOf.2.1.toNat | _ => s.auditOf.2.2

/-- 2700h + i (R280, R297). -/
def State.readElectrode (s : State) (i : Nat) : Nat → Nat
  | 17 => (s.elem i).state.code | 18 => (roundEven (s.elem i).m).toNat | 19 => (roundEven (s.elem i).b).toNat
  | 20 => asSigned 32 (roundEven (s.elem i).d)
  | _ => bit (decide ((s.elem i).state ≠ .idle)) +
      2 * bit ((electrodesOn s.active).contains i && s.electrodeFault i) + 4 * bit (s.elem i).overRng

/-- 2720h (R278, R289). -/
def State.readTouch (s : State) : Nat → Nat
  | 7 => s.touch.lastUs | 8 => s.touch.scans | 9 => s.touch.pending.toNat | _ => s.touch.lost

/-- 2730h + c (R280). -/
def State.readPress (s : State) (c : Nat) : Nat → Nat
  | 12 => (s.elem (32 + c)).state.code | 13 => encode32 (s.elem (32 + c)).b | 14 => encode32 (s.elem (32 + c)).d
  | _ => bit (decide ((s.elem (32 + c)).state ≠ .idle))

/-- 2740h + g (R291, R292). -/
def State.readPlug (s : State) (g : Nat) : Nat → Nat
  | 10 => (s.plug g).state.num
  | 11 => if (s.plug g).state ≠ .plugged then 1 else if (s.plug g).hold.isSome then 2 else 0
  | 12 => (s.plug g).mv.toNat | _ => (s.plug g).changes

/-- 2800h + m (R301, R310, R311). -/
def State.readMonitor (s : State) (m : Nat) : Nat → Nat
  | 9 => s.monState m | 10 => (s.monitor m).cause.toNat | 12 => (s.monitor m).rbLow | 13 => (s.monitor m).rbHigh
  | 14 => (s.monitor m).asserts | _ => (s.monitor m).faults

/-- 2811h.09–.20 (R309). -/
def State.readCapture (s : State) (sub : Nat) : Nat :=
  if sub ≤ 0x10 then (s.capture (sub - 9)).tick.toNat * 2 ^ 32 + (s.capture (sub - 9)).offset.toNat
  else if sub ≤ 0x18 then (s.capture (sub - 0x11)).count
  else (s.capture (sub - 0x19)).lost

/-- 2900h + n (R345). -/
def State.readOutput (s : State) (n : Nat) : Nat → Nat
  | 6 => (s.output n).held.toNat | 10 => (s.output n).status | 11 => (s.output n).cause.toNat
  | 13 => asSigned 32 (s.output n).vRead | 14 => asSigned 32 (s.output n).iRead | 15 => (s.output n).faults
  | _ => (s.output n).inForce.toNat

/-- 2910h + g.08–.0B (R328, R332). -/
def State.readGen (s : State) (g : Nat) : Nat → Nat
  | 8 => bit (s.gen g).armed | 9 => (s.gen g).resets | 10 => (s.gen g).sat | _ => (s.gen g).phiB.toNat

/-- 2A00h (R352, R356). -/
def State.readCal (s : State) : Nat → Nat
  | 1 => s.cal.request.toNat | 7 => s.cal.stateCode
  | 8 => if s.cal.run.isSome then 7 else s.cal.result.toNat
  | 9 => s.cal.cause.toNat | 10 => s.cal.xs.length | 11 => s.cal.pp.toNat | 12 => s.cal.mean.toNat | _ => s.cal.tick.toNat

/-- The 1086 bytes that 2A01h.08 covers (R367). -/
def factoryBytes : List Byte :=
  ((List.range 5).flatMap fun l => leBytes 216 (factoryLane l)) ++ leBytes 4 factoryVref ++
    leBytes 2 Config.factoryTemp.toNat

/-- 2B00h (chapter 15). -/
def State.readNvm (s : State) : Nat → Nat
  | 1 => s.jn.stateCode | 2 => s.jn.result.toNat | 3 => s.jn.lastCls.toNat | 4 => s.jn.tick.toNat | 5 => s.jn.active
  | 6 => s.jn.used | 7 => s.jn.standing | 8 => s.jn.erases0 | 9 => s.jn.erases1 | 10 => s.jn.rewrites
  | 11 => s.jn.torn | 12 => s.jn.scanUs.toNat | 13 => s.jn.seq | _ => s.jn.queue.length

/-- 2C01h (R428, R431). -/
def State.readCan (s : State) : Nat → Nat
  | 4 => s.can.nmt.code | 5 => s.can.busState.toNat | 6 => s.can.txErr.toNat + 256 * s.can.rxErr.toNat
  | 7 => s.can.busOffs | 8 => s.can.txFrames | _ => s.can.rxFrames

/-- 2C10h (R437, R442, R443). -/
def State.readLock (s : State) : Nat → Nat
  | 1 => s.lock.state.code | 6 => s.lock.fails | 7 => s.lockSecs s.lock.backOff | _ => s.lockSecs s.lock.unlock

/-- 2D00h (R457, R463, R472). -/
def State.readGalt (s : State) : Nat → Nat
  | 2 => s.galt.addr.toNat | 3 => s.galt.state.toNat | 4 => s.galt.count.toNat | 5 => s.galt.hop.toNat
  | 6 => s.galt.advance.toNat | 7 => s.galt.breaks | _ => s.galt.codeErrs

/-- A node's entry (R457). -/
def State.node (s : State) (a : Nat) : NodeRt := tget (fun _ => {}) s.galt.nodes a

/-- 2D40h + a (R463). -/
def State.readNode (s : State) (a : Nat) : Nat → Nat
  | 1 => bit (s.node a).present | 2 => (s.node a).product.toNat | 3 => (s.node a).revision.toNat
  | 4 => (s.node a).serial.toNat | _ => (s.node a).delay.toNat

/-- 2E00h (R482–R487). -/
def State.readSupply (s : State) : Nat → Nat
  | 2 => s.sup.stamp.toNat | 3 => (s.sup.lowest.getD 0).toNat | 4 => s.sup.supTicks | 5 => s.sup.mismatches
  | 6 => s.sup.stopCause.toNat | _ => if s.boot = .running then (Config.imageCrc s.active).toNat else 0

/-- 2E01h (R492, R493). -/
def State.readThermal (s : State) : Nat → Nat
  | 1 => asSigned 16 s.sup.die | 2 => s.sup.thermal | 4 => asSigned 16 (s.sup.dieMax.getD 0) | _ => s.sup.shutdowns

/-- 2E02h (R495, R499). -/
def State.readPower (s : State) : Nat → Nat
  | 1 => s.pow.lastReq.toNat | _ => s.pow.lastWake.toNat

/-- An event-log entry as a number (R404). -/
def EventEntry.num (e : EventEntry) : Nat := e.subject.toNat + 2 ^ 32 * e.tick.toNat + 2 ^ 64 * e.detail.toNat

/-- A refusal-log entry as a number (chapter 16). -/
def RefusalEntry.num (e : RefusalEntry) : Nat :=
  e.code.toNat + 2 ^ 16 * portNum e.port + 2 ^ 32 * e.subject.toNat + 2 ^ 64 * e.tick.toNat

/-- The entry in place j of a log of size k, from the newest-first list and the place of the next entry (R404). -/
def logPlace {α : Type} (l : List α) (next k j : Nat) : Option α := l[(next + 2 * k - 1 - j) % k]?

/-- 2F00h. -/
def State.readEvents (s : State) (sub : Nat) : Nat :=
  if sub = 1 then s.diag.eventN
  else match logPlace s.diag.events s.diag.eventAt 32 (sub - 2) with
    | some e => e.num
    | none => 0

/-- 2F01h. -/
def State.readCounters (s : State) (sub : Nat) : Nat :=
  if sub ≤ 4 then s.diag.completed.getD (sub - 1) 0
  else if sub ≤ 0x0a then s.diag.families.getD (sub - 5) 0
  else s.diag.noConsumer

/-- 2F02h. -/
def State.readRefusals (s : State) (sub : Nat) : Nat :=
  match sub, s.diag.refusals.head? with
  | 6, _ => s.diag.refusalN
  | 7, _ => 0
  | 1, some e => e.code.toNat
  | 2, some e => portNum e.port
  | 3, some e => e.subject.toNat
  | 4, some e => e.tick.toNat
  | 5, _ => s.diag.lastAbort.toNat
  | _, _ =>
    if sub < 8 then 0
    else match logPlace s.diag.refusals s.diag.refusalAt 16 (sub - 8) with
      | some e => e.num
      | none => 0

/-- What a status entry below 2500h reads. -/
def State.statusLow (s : State) (idx sub : Nat) : Nat :=
  if idx = 0x1001 then s.errReg.toNat
  else if idx = 0x1003 then (if sub = 0 then s.can.errs.length else (s.can.errs.getD (sub - 1) 0).toNat)
  else if idx = 0x1200 then (if sub = 1 then 0x600 else 0x580) + s.nodeId
  else if idx = 0x2001 then s.readTick sub
  else if idx = 0x2002 then s.readCommit sub
  else if idx = 0x2003 then s.readReport sub
  else if idx = 0x2004 then s.readDevice sub
  else if idx = 0x2010 then bit s.clk.external
  else if idx = 0x2011 then s.readClock sub
  else if idx < 0x2140 then s.readPin (idx - 0x2100) sub
  else if idx < 0x2180 then s.readSource (idx - 0x2140) sub
  else if idx < 0x2200 then (s.slot (idx - 0x2180)).calStatus.toNat
  else if idx < 0x2210 then s.readLane (idx - 0x2200) sub
  else if idx = 0x2210 then s.readRef sub
  else if idx = 0x2220 then s.readQuad sub
  else if idx < 0x2380 then s.readProfile (idx - 0x2300) sub
  else if idx = 0x2380 then s.readBank sub
  else if idx < 0x2440 then pwlUsed s.shadow (idx - 0x2400)
  else s.readCurves sub

/-- What a status entry from 2500h reads. -/
def State.statusHigh (s : State) (idx sub : Nat) : Nat :=
  if idx < 0x2600 then s.readRing (idx - 0x2500) sub
  else if idx = 0x2600 then s.readLedger sub
  else if idx < 0x2720 then s.readElectrode (idx - 0x2700) sub
  else if idx = 0x2720 then s.readTouch sub
  else if idx < 0x2740 then s.readPress (idx - 0x2730) sub
  else if idx < 0x2800 then s.readPlug (idx - 0x2740) sub
  else if idx < 0x2810 then s.readMonitor (idx - 0x2800) sub
  else if idx = 0x2810 then (if sub = 11 then s.mon.pending.toNat else s.mon.lost)
  else if idx = 0x2811 then s.readCapture sub
  else if idx < 0x2910 then s.readOutput (idx - 0x2900) sub
  else if idx < 0x2920 then s.readGen (idx - 0x2910) sub
  else if idx = 0x2920 then s.outPend.toNat
  else if idx = 0x2a00 then s.readCal sub
  else if idx = 0x2b00 then s.readNvm sub
  else if idx = 0x2c00 then (if sub = 1 then s.spi.frames else if sub = 2 then s.spi.crcErrs else s.spi.formErrs)
  else if idx = 0x2c01 then s.readCan sub
  else if idx = 0x2c02 then (if sub = 2 then s.svc.frames else s.svc.crcErrs)
  else if idx = 0x2c03 then
    (if sub = 1 then s.galt.relayServed else if sub = 2 then s.galt.relayRefused else s.galt.relayOrigin.toNat)
  else if idx = 0x2c10 then s.readLock sub
  else if idx = 0x2d00 then s.readGalt sub
  else if idx < 0x2e00 then s.readNode (idx - 0x2d40) sub
  else if idx = 0x2e00 then s.readSupply sub
  else if idx = 0x2e01 then s.readThermal sub
  else if idx = 0x2e02 then s.readPower sub
  else if idx = 0x2f00 then s.readEvents sub
  else if idx = 0x2f01 then s.readCounters sub
  else s.readRefusals sub

/-- Whether a live entry is held by the machine itself and not as a stored value: its keys are command values, pending bits,
the static codes, the arm of a generator, 1003h.00. -/
def ownLive (idx sub : Nat) : Bool :=
  idx = 0x1003 || idx = 0x2002 || (idx = 0x2720 && sub = 9) || (idx = 0x2810 && sub = 11) ||
    (decide (0x2900 ≤ idx) && decide (idx < 0x2904) && sub = 6) ||
    (decide (0x2910 ≤ idx) && decide (idx < 0x2914) && sub = 8) || (idx = 0x2920 && sub = 5) || (idx = 0x2a00 && sub = 1) ||
    (idx = 0x2e02 && sub = 1)

/-- The value an entry reads (R94, R388, R394): a constant, the shadow copy, a live value or a status. -/
def State.valueOf (s : State) (idx sub : Nat) (e : Entry) : Nat :=
  if e.h = .c then (if idx = 0x2a01 ∧ sub = 8 then (crc32 factoryBytes).toNat else e.dflt)
  else match e.apply with
    | .commit => cfg (if s.com.result = 1 then s.com.frozen.getD s.shadow else s.shadow) idx sub
    | .live => if idx = 0x1010 ∨ idx = 0x1011 then 1
        else if ownLive idx sub then (if idx < 0x2500 then s.statusLow idx sub else s.statusHigh idx sub)
        else s.liveVal idx sub
    | .none => if idx < 0x2500 then s.statusLow idx sub else s.statusHigh idx sub

/-- Monitors' pending bits selected by a mask of 2810h (R307). -/
def State.monIrq (s : State) (sub : Nat) : Bool :=
  let mask := s.acfg 0x2810 sub
  s.mon.pending &&& BitVec.ofNat 32 (mask + 65536 * mask) ≠ 0

/-- INTA (R260, R307): a ring at its watermark, or a pending bit of a monitor of 2810h.05. -/
def State.intA (s : State) : Bool :=
  s.boot = .running && ((s.rings.map (·.1)).any s.atWatermark || s.monIrq 5)

/-- INTB (R289, R307, R337). -/
def State.intB (s : State) : Bool :=
  s.boot = .running &&
    (s.touch.pending ≠ 0 || s.monIrq 6 || s.outPend &&& BitVec.ofNat 4 (s.acfg 0x2920 4) ≠ 0)

end Sys2Proof.Machine
end

