-- ==== Sys2Proof/Machine/Operands.lean ====
section
/-! DEFINITION. The operand of a write: byte count, reserved bits, range, as the entry's type and Range column give them (R389, R391, R392). -/
namespace Sys2Proof.Machine
open Sys2Proof

/-- Check 5 (R391): the byte count equals that of the type; a string may have 1 to 32 bytes. -/
def Entry.countOk (e : Entry) (data : List Byte) : Bool :=
  match e.ty with
  | .vis _ => decide (1 ≤ data.length) && decide (data.length ≤ 32)
  | .domain => false
  | t => decide (data.length = t.bytes)

/-- Check 6 (R2): no reserved bit is set. -/
def Entry.reservedOk (e : Entry) (v : Nat) : Bool :=
  match e.rng with
  | .bits mask => v &&& mask = v
  | _ => true

/-- Whether a number lies in one of some ranges. -/
def inRanges (l : List (Nat × Nat)) (v : Nat) : Bool := l.any (fun r => decide (r.1 ≤ v) && decide (v ≤ r.2))

/-- Check 7: the value lies within the entry's Range; a BOOLEAN is 00h or 01h, a REAL32 with a Range is finite (R389). -/
def Entry.rangeOk (e : Entry) (v : Nat) : Bool :=
  (decide (e.ty ≠ .bool) || decide (v ≤ 1)) &&
  match e.rng with
  | .full => true
  | .bits _ => true
  | .ivs l => inRanges l v
  | .int w lo hi => decide (lo ≤ signed w v) && decide (signed w v ≤ hi)
  | .finite => finite32 v
  | .real lo hi => finite32 v && decide (lo ≤ decode32 v) && decide (decode32 v ≤ hi)

/-- The code of a value outside the Range (R392): 0405h for a store or restore signature, else 0403h. -/
def rangeCode (idx : Nat) : Nat := if idx = 0x1010 ∨ idx = 0x1011 then 0x405 else 0x403

/-- Checks 5 to 7 of R392 on the data of a write; 0 where they pass. -/
def Entry.dataRefusal (e : Entry) (idx : Nat) (data : List Byte) : Nat :=
  if !e.countOk data then 0x406
  else if !e.reservedOk (leNum data) then 0x401
  else if !e.rangeOk (leNum data) then rangeCode idx
  else 0

/-- The bytes of a value of an entry's type, least significant first (R1, R389). -/
def Entry.encode (e : Entry) (v : Nat) : List Byte := leBytes e.ty.bytes v

/-- The coefficients a1 and a2 of a bank section, in 2^-22 (R212). -/
def sectionPoles (sec : Nat) : Int × Int :=
  (signed 24 (sec / 2 ^ 72), signed 24 (sec / 2 ^ 96))

/-- Whether the poles of a section lie inside the unit circle (R212): |a2| < 1 and |a1| < 1 + a2. -/
def stableSection (sec : Nat) : Bool :=
  let p := sectionPoles sec
  decide (p.2.natAbs < 2 ^ 22) && decide ((p.1.natAbs : Int) < 2 ^ 22 + p.2)

end Sys2Proof.Machine
end

