-- ==== Sys2Proof/Machine/Access.lean ====
section
/-! DEFINITION. Object accesses (chapters 16 to 18): the checks in their order, the refusal, the effect of a write, a read. -/
namespace Sys2Proof.Machine
open Sys2Proof

/-- The port an origin-port byte names; none for a value that names no port (R456). -/
def originPort (b : Nat) : Option Port :=
  match b with
  | 0 => some .h | 1 => some .n | 2 => some .g | 3 => some .s | _ => none

/-- Whether the origin port's letter grants what is asked (R435); it matters on port G only. -/
def Entry.originGrants (e : Entry) (via : Via) (write : Bool) : Bool :=
  decide (via.port ≠ .g) || match originPort via.origin with
    | some p => if write then (e.letter p).writes else (e.letter p).reads
    | none => false

/-- Check 3 of a write, with the relay rules of R435 and R436; 0 where it passes. -/
def State.letterRefusal (s : State) (e : Entry) (via : Via) : Nat :=
  if via.port = .g ∧ via.origin = 2 then 0x105
  else if !(e.letter via.port).writes then (if e.letter via.port = .c then 0x103 else 0x101)
  else if !e.originGrants via true then 0x101
  else if via.port = .g ∧ s.acfg 0x2c03 4 = 0 then 0x104
  else 0

/-- Check 3 of a read (R393, R435, R436). -/
def Entry.readLetter (e : Entry) (via : Via) : Nat :=
  if via.port = .g ∧ via.origin = 2 then 0x105
  else if !(e.letter via.port).reads || !e.originGrants via false then 0x102 else 0

/-- Check 4 (R437): sealed entries, the new password, and the lock-guarded command judged from its first data byte. -/
def State.lockCheck (s : State) (e : Entry) (idx sub : Nat) (data : List Byte) : Nat :=
  let guarded := idx = 0x2a00 && sub = 1 && match data with
    | b :: _ => decide (1 ≤ b.toNat) && decide (b.toNat ≤ 3)
    | [] => false
  if s.lock.state = .isSealed ∧ (e.sealed || guarded) = true then 0x201
  else if s.lock.state = .unlockedL1 ∧ idx = 0x2c10 ∧ sub = 9 then 0x207
  else 0

/-- Checks 1 to 7 of a write (R392), with the entry and the code of the first that fails. -/
def State.formRefusal (s : State) (via : Via) (idx sub : Nat) (data : List Byte) : Nat × Option Entry :=
  match objectAt idx with
  | none => (0x407, none)
  | some f => match f sub with
    | none => (0x402, none)
    | some e =>
      let c3 := s.letterRefusal e via
      let c4 := s.lockCheck e idx sub data
      (if c3 ≠ 0 then c3 else if c4 ≠ 0 then c4 else e.dataRefusal idx data, some e)

/-- A mapping entry names a result record: 2500h+r.0A. -/
def isRecordMap (m : Nat) : Bool :=
  decide (0x2500 ≤ m / 65536) && decide (m / 65536 < 0x2600) && decide (m / 256 % 256 = 10)

/-- Whether a mapping entry can be mapped (R400, R419): it exists, its length is that of its type, N's letter grants the
direction, and an RPDO maps no records. -/
def mappable (tx : Bool) (m : Nat) : Bool :=
  match entryOf (m / 65536) (m / 256 % 256) with
  | none => false
  | some e => decide (m % 256 = 8 * e.ty.bytes) &&
      (if tx then e.n.reads else e.n.writes && decide (e.ty ≠ .domain))

/-- The refusal of count n of a mapping with entries ms (R400). -/
def mappingRefusal (tx : Bool) (ms : List Nat) : Nat :=
  let recs := ms.filter isRecordMap
  if !ms.all (mappable tx) then 0x408
  else if tx && !recs.isEmpty && (decide (recs.length ≠ ms.length) || recs.any (fun m => decide (some m ≠ recs.head?))) then 0x408
  else if 512 < (ms.map (· % 256)).sum then 0x409
  else 0

/-- The index of the COB-ID of a mapping index. -/
def cobIndex (idx : Nat) : Nat := idx - 0x200

/-- Whether an index is a PDO mapping. -/
def isMapping (idx : Nat) : Bool :=
  (decide (0x1600 ≤ idx) && decide (idx < 0x1604)) || (decide (0x1a00 ≤ idx) && decide (idx < 0x1a08))

/-- The first n mapping entries of a PDO. -/
def State.mapped (s : State) (idx n : Nat) : List Nat := (List.range n).map fun i => s.lcfg idx (i + 1)

/-- Check 8 (R392): consistency with other entries; 0 where it passes. -/
def State.consistency (s : State) (idx sub v : Nat) : Nat :=
  let real := fun sub' => decode32 (if sub = sub' then v else cfg s.shadow idx sub')
  let num := fun sub' => if sub = sub' then v else cfg s.shadow idx sub'
  if 0x2700 ≤ idx ∧ idx < 0x2718 ∧ (sub = 6 ∨ sub = 7) then (if num 6 < num 7 then 0x404 else 0)
  else if 0x2730 ≤ idx ∧ idx < 0x2740 ∧ (sub = 3 ∨ sub = 4) then (if real 3 < real 4 then 0x404 else 0)
  else if 0x2740 ≤ idx ∧ idx < 0x2748 ∧ (sub = 4 ∨ sub = 5) then (if num 5 ≤ num 4 then 0x404 else 0)
  else if idx = 0x2440 ∧ 0x10 ≤ sub ∧ 3 ≤ (sub - 0x10) % 5 then
    let lo := sub - (sub - 0x10) % 5 + 3
    if real (lo + 1) ≤ real lo then 0x404 else 0
  else if idx = 0x2381 ∨ idx = 0x2382 then (if stableSection v then 0 else 0x404)
  else if 0x2910 ≤ idx ∧ idx < 0x2914 ∧ sub = 8 ∧ v = 1 then
    let ahead := (BitVec.ofNat 32 (s.lcfg idx 6) - s.tick.counter).toNat
    if 1 ≤ ahead ∧ ahead ≤ 2 ^ 31 then 0 else 0x404
  else if idx = 0x2a00 ∧ sub = 1 ∧ v = 2 then
    if 100 * ratAbs (expectedCodes s.active (s.lcfg 0x2a00 2) (s.lcfg 0x2a00 4)) < ((2 ^ 23 : Nat) : Rat) then 0x404 else 0
  else if idx = 0x2e00 ∧ sub = 7 then (if s.sup.stopCause = 0 ∨ s.sup.stopCause = 2 then 0x404 else 0)
  else if idx = 0x2e01 ∧ sub = 3 then (if !s.sup.shutdown || decide (15500 ≤ s.sup.die) then 0x404 else 0)
  else if idx = 0x2e02 ∧ sub = 1 ∧ v = 2 then (if s.acfg 0x2e02 2 = 0 ∨ s.clockFault = true then 0x404 else 0)
  else if isMapping idx ∧ sub = 0 then mappingRefusal (decide (0x1a00 ≤ idx)) (s.mapped idx v)
  else 0

/-- Whether bank b (false A, true B) is active, or about to be, under the rule of R215. -/
def State.bankBusy (s : State) (b : Bool) : Bool :=
  (slotsOf s.active).any (fun n =>
    let p := slotProf s.active n
    s.bankOf p = b && (profSections s.active p).any (fun c => decide (0x40 ≤ c))) ||
    s.sense.swaps.any (fun w => s.bankOf w.1 ≠ b)

/-- The changes of a commit in progress; none where no commit is in progress (R101). -/
def State.commitChanges (s : State) : List Nat :=
  if s.committing then changes s.active (s.com.frozen.getD s.shadow) else []

/-- The refusal of a calibration request (R119, R349, R351); 0 for none. -/
def State.calRefusal (s : State) (v : Nat) : Nat :=
  let a := s.active
  if v = 4 then (if s.cal.run.isSome then 0 else 0x509)
  else if s.cal.run.isSome then 0x50a
  else
    let n := s.lcfg 0x2a00 2
    let l := s.lcfg 0x2a00 3
    let bad := if v = 3 then decide (cfg a 0x2220 1 ≠ 2) || (decide (l < 4) && !(slotsOn a l).isEmpty) || (s.lane l).faulted
      else decide (slotCfg a n 1 = 0) || decide (profCfg a (slotProf a n) 8 = 1)
    if bad then 0x509
    else if s.commitChanges.any (calUses a (if v = 3 then (true, l) else (false, n))) then 0x503
    else 0

/-- What concerns the requested operation itself at check 9 (R392). -/
def State.ownRefusal (s : State) (idx sub v : Nat) : Nat :=
  if idx = 0x2380 then
    if s.sense.swaps.any (fun w => w.1 = v) then 0x508
    else if changedIn s.commitChanges (0x2300 + v) then 0x503 else 0
  else if idx = 0x2381 ∨ idx = 0x2382 then (if s.bankBusy (decide (idx = 0x2382)) then 0x507 else 0)
  else if idx = 0x2a00 ∧ sub = 1 then s.calRefusal v
  else if idx = 0x1010 ∨ idx = 0x1011 then s.storeRefusal (decide (idx = 0x1010)) (storeClasses sub)
  else if idx = 0x2e00 ∧ sub = 7 then
    if s.sup.stopCause = 3 ∧ (!s.clk.causes.isEmpty || decide (s.clk.pll ≠ 2)) = true then 0x504 else 0
  else if idx = 0x2e02 ∧ sub = 1 ∧ v = 2 then (if s.clk.causes.contains 4 then 0x506 else 0)
  else if isMapping idx then
    if s.liveVal (cobIndex idx) 1 < 2 ^ 31 ∨ ((sub ≠ 0 ∨ v ≠ 0) ∧ s.lcfg idx 0 ≠ 0) then 0x50e else 0
  else if idx = 0x2c10 ∧ sub = 2 then s.lockRefusal v
  else if idx = 0x2c10 ∧ sub = 3 then s.attemptRefusal false
  else if idx = 0x2c10 ∧ sub = 5 then s.attemptRefusal true
  else 0

/-- Whether start-up holds back every access but those of R7 and 2004h (R396). -/
def State.startingUp (s : State) : Bool := s.boot ≠ .checked && s.boot ≠ .running

/-- Check 9 (R101, R121, R392, R396). -/
def State.stateRefusal (s : State) (idx sub v : Nat) (e : Entry) : Nat :=
  if s.startingUp then 0x50f
  else
    let own := s.ownRefusal idx sub v
    if own ≠ 0 then own
    else if e.apply = .commit ∧ s.committing = true then 0x501
    else if idx = 0x2002 ∧ (s.committing = true ∨ (s.boot = .checked ∧ v ≠ 2)) then 0x502
    else 0

/-- Whether a port is the consumer of ring r that reads and returns credits by object accesses (R256, R434, R468). -/
def State.consumes (s : State) (r : Nat) (p : Port) : Bool :=
  (p = .h || p = .s) && s.acfg (0x2500 + r) 3 = portNum p

/-- Check 10 on a credit return (R256, R258). -/
def State.ringRefusal (s : State) (idx sub v : Nat) (p : Port) : Nat :=
  if 0x2500 ≤ idx ∧ idx < 0x2600 ∧ sub = 7 then
    if !s.consumes (idx - 0x2500) p then 0x602
    else if (s.ring (idx - 0x2500)).outstanding.length < v then 0x601 else 0
  else 0

/-- The code of the first check of R392 that a write fails; 0 where every check passes. -/
def State.writeRefusal (s : State) (via : Via) (idx sub : Nat) (data : List Byte) : Nat :=
  match s.formRefusal via idx sub data with
  | (c, some e) =>
    let v := leNum data
    if c ≠ 0 then c
    else if s.consistency idx sub v ≠ 0 then s.consistency idx sub v
    else if s.stateRefusal idx sub v e ≠ 0 then s.stateRefusal idx sub v e
    else s.ringRefusal idx sub v via.port
  | (c, none) => c

/-- The USDO abort code of a refusal code (R397, R436, R444). -/
def abortCode (code : Nat) : Nat :=
  match code with
  | 0x101 => 0x06010002 | 0x102 => 0x06010001 | 0x103 => 0x06010002 | 0x104 => 0x06010002 | 0x105 => 0x08000020
  | 0x401 => 0x06090030 | 0x402 => 0x06090011 | 0x403 => 0x06090030 | 0x404 => 0x06040043 | 0x405 => 0x08000020
  | 0x406 => 0x06070010 | 0x407 => 0x06020000 | 0x408 => 0x06040041 | 0x409 => 0x06040042
  | 0x601 => 0x08000020 | 0x602 => 0x08000020
  | c => if c / 256 = 2 then 0x08000021 else 0x08000022

/-- What a relayed access leaves in 2C03h (R435): its origin, and whether it was served. -/
def State.noteRelay (s : State) (via : Via) (served : Bool) : State :=
  if via.port ≠ .g then s
  else
    { s with galt := { s.galt with
        relayOrigin := if via.origin = 0 ∨ via.origin = 1 ∨ via.origin = 3 then BitVec.ofNat 16 (via.node % 64 + 256 * via.origin)
          else s.galt.relayOrigin
        relayServed := if served then satInc s.galt.relayServed else s.galt.relayServed
        relayRefused := if served then s.galt.relayRefused else satInc s.galt.relayRefused } }

/-- A refused access (R258, R398): the refusal log, the relay counts, 2600h.07. `abort` says that a USDO abort is sent. -/
def State.refuse (s : State) (via : Via) (idx sub code : Nat) (abort : Bool) : State :=
  let s1 := (s.noteRelay via false).refusal code via.port (key idx sub) (if abort then abortCode code else 0)
  if code = 0x601 then { s1 with ledger := { s1.ledger with overReturn := satInc s1.ledger.overReturn } } else s1

/-- A completed access (R443): counted, and an unlock made on its port is timed anew. -/
def State.complete (s : State) (via : Via) : State :=
  let s1 := (s.noteRelay via true).lockServed via.port
  { s1 with diag := { s1.diag with completed := s1.diag.completed.modify (portNum via.port) satInc } }

/-- Sends a GaltLink frame where the node has a role and its transmit domain runs. -/
def State.galtSend (s : State) (typ dst : Nat) (payload : List Byte) : State :=
  if roleOf s.active s.galt.glmaster ≠ 0 ∧ s.netHalted = false then
    s.send (galtFrameOf (BitVec.ofNat 8 typ) (BitVec.ofNat 8 dst) s.galt.addr payload)
  else s

/-- The address of the node of a serial number. -/
def State.addressOf (s : State) (serial : BitVec 32) : Option Nat :=
  (s.galt.nodes.find? (fun e => e.2.present && e.2.serial = serial)).map (·.1)

/-- Node 0 sends an origin its cumulative credit count (R470). -/
def State.sendCredit (s : State) (o : OriginRt) : State :=
  match s.addressOf o.serial with
  | some a => s.galtSend 9 a (leBytes 1 o.ring ++ leBytes 2 o.credits.toNat)
  | none => s

/-- Credits of an origin's records in a list. -/
def originCredits (o : OriginRt) (ring : Nat) (recs : List Rec) : Nat :=
  if o.ring = ring then (recs.filter (fun r => r.kind = 5 && r.originSerial = o.serial)).length else 0

/-- Node 0 passes returned places on to the origins of their records (R470). -/
def State.passCredits (s : State) (ring : Nat) (recs : List Rec) : State :=
  let os := s.galt.origins.map fun o => { o with credits := o.credits + BitVec.ofNat 16 (originCredits o ring recs) }
  let s1 := { s with galt := { s.galt with origins := os } }
  (os.filter (fun o => originCredits o ring recs ≠ 0)).foldl State.sendCredit s1

/-- The n oldest outstanding places of ring r become free (R258). -/
def State.returnCredits (s : State) (r n : Nat) : State :=
  (s.setRing r ((s.ring r).credit n)).passCredits r ((s.ring r).outstanding.take n)

/-- A calibration request is accepted (R349–R352): what it reads of 2A00h, and what ends it at once. -/
def State.calStart (s : State) (kind : CalKind) : State :=
  let n := s.lcfg 0x2a00 2
  let c : CalSt := { s.cal with
    run := some kind, slot := n, lane := s.lcfg 0x2a00 3, expected := BitVec.ofNat 32 (s.lcfg 0x2a00 4)
    window := s.lcfg 0x2a00 5, left := s.lcfg 0x2a00 6, started := false, point := 0, xs := [], cause := 0 }
  let s1 := { s with cal := c }
  if !s.lanesRun then s1.verdict .aborted 3
  else if kind ≠ .self ∧ ((s.slot n).absent || s.inputFault n) = true then s1.verdict .isOpen 0
  else s1

/-- An accepted write of 2A00h.01. -/
def State.calRequest (s : State) (v : Nat) : State :=
  let s1 := { s with cal := { s.cal with request := BitVec.ofNat 8 v } }
  match v with
  | 1 => s1.calStart .zero
  | 2 => s1.calStart .span
  | 3 => s1.calStart .self
  | _ => s1.verdict .aborted 1

/-- A bank swap is requested (R216). -/
def State.swapRequest (s : State) (p cyc : Nat) : State :=
  { s with sense := { s.sense with swaps := s.sense.swaps ++ [(p, (cyc : Int))] } }

/-- A totaliser clear is requested (R222). -/
def State.totClear (s : State) (p : Nat) : State :=
  { s with sense := { s.sense with totClear := if s.sense.totClear.contains p then s.sense.totClear else s.sense.totClear ++ [p] } }

/-- A write of F or A of generator g (R331): held for the update events. -/
def State.genWrite (s : State) (g sub v cyc : Nat) : State :=
  if sub = 3 then s.updGen g (fun r => { r with fFresh := r.fFresh ++ [((cyc : Int), v)] })
  else if sub = 4 then s.updGen g (fun r => { r with aFresh := r.aFresh ++ [((cyc : Int), v)] })
  else s

/-- The arm entry of generator g (R332). -/
def State.genArmWrite (s : State) (g v : Nat) : State :=
  if v = 1 then s.genArm g else s.updGen g (fun r => { r with armed := false })

/-- A live value is stored. -/
def State.setLive (s : State) (idx sub v : Nat) : State := { s with live := tput dflt s.live (key idx sub) v }

/-- The effect of an accepted write to a live entry below 2600h (R394 and the chapters of the entries). -/
def State.liveLow (s : State) (via : Via) (idx sub v : Nat) : State :=
  if idx = 0x1003 then { s with can := { s.can with errs := [] } }
  else if idx = 0x1010 then s.enqueue true sub
  else if idx = 0x1011 then s.enqueue false sub
  else if idx = 0x2002 then s.commitRequest v via.port
  else if 0x2200 ≤ idx ∧ idx < 0x2205 then s.faultClear (idx - 0x2200)
  else if 0x2300 ≤ idx ∧ idx < 0x2310 then s.totClear (idx - 0x2300)
  else if idx = 0x2380 then s.swapRequest v via.cyc
  else if 0x2500 ≤ idx ∧ sub = 7 then s.returnCredits (idx - 0x2500) v
  else s.setLive idx sub v

/-- The effect of an accepted write to a live entry from 2600h. -/
def State.liveHigh (s : State) (via : Via) (idx sub v : Nat) : State :=
  if idx = 0x2720 then { s with touch := { s.touch with pending := s.touch.pending &&& ~~~BitVec.ofNat 64 v } }
  else if 0x2800 ≤ idx ∧ idx < 0x2810 ∧ sub = 11 then s.monClear (idx - 0x2800)
  else if 0x2800 ≤ idx ∧ idx < 0x2810 then (s.setLive idx sub v).dacsMoved (idx - 0x2800) (s.codes (idx - 0x2800)) via.cyc
  else if idx = 0x2810 then s.monPendClear (BitVec.ofNat 32 v)
  else if idx = 0x2811 then s.capRearm (BitVec.ofNat 8 v)
  else if 0x2900 ≤ idx ∧ idx < 0x2904 ∧ sub = 6 then s.writeCode (idx - 0x2900) (BitVec.ofNat 16 v) via.cyc
  else if 0x2900 ≤ idx ∧ idx < 0x2904 then s.outClear (idx - 0x2900) via.cyc
  else if 0x2910 ≤ idx ∧ idx < 0x2914 ∧ sub = 8 then s.genArmWrite (idx - 0x2910) v
  else if 0x2910 ≤ idx ∧ idx < 0x2914 then (s.setLive idx sub v).genWrite (idx - 0x2910) sub v via.cyc
  else if idx = 0x2920 then { s with outPend := s.outPend &&& ~~~BitVec.ofNat 4 v }
  else if idx = 0x2a00 ∧ sub = 1 then s.calRequest v
  else if idx = 0x2c10 ∧ sub = 2 then (if v = 1 then s.sealDevice else s.relockDevice)
  else if idx = 0x2c10 ∧ sub = 3 then s.attempt false (BitVec.ofNat 128 v)
  else if idx = 0x2c10 ∧ sub = 5 then (s.attempt true (BitVec.ofNat 128 v)).spendChallenge
  else if idx = 0x2e00 then s.stopClear
  else if idx = 0x2e01 then s.shutdownClear
  else if idx = 0x2e02 then s.powerRequest (if v = 0 then .run else if v = 1 then .doze else .standby) v via.cyc
  else s.setLive idx sub v

/-- The effect of an accepted write (R94, R95, R394). -/
def State.writeEffect (s : State) (via : Via) (idx sub : Nat) (e : Entry) (v : Nat) : State :=
  if e.apply = .commit then { s with shadow := tput dflt s.shadow (key idx sub) v, com := { s.com with dirty := true } }
  else if idx < 0x2600 then s.liveLow via idx sub v
  else s.liveHigh via idx sub v

/-- Whether a refused write of 2C10h.05 was judged and so spends the challenge (R440). -/
def spends (idx sub code : Nat) : Bool :=
  idx = 0x2c10 && sub = 5 && (code = 0x204 || code = 0x208 || code = 0x203 || code = 0x205)

/-- A write (R392, R398): refused, or done and completed. Answers the status and the state. -/
def State.write (s : State) (via : Via) (idx sub : Nat) (data : List Byte) (abort : Bool) : Nat × State :=
  let c := s.writeRefusal via idx sub data
  if c ≠ 0 then
    let s1 := s.refuse via idx sub c abort
    (c, if spends idx sub c then s1.spendChallenge else s1)
  else match entryOf idx sub with
    | some e => (0, (s.writeEffect via idx sub e (leNum data)).complete via)
    | none => (0, s)

/-- The identity objects of R7 and 2004h, served during start-up (R396). -/
def earlyObject (idx : Nat) : Bool :=
  idx = 0x1000 || idx = 0x1008 || idx = 0x1009 || idx = 0x100a || idx = 0x1018 || idx = 0x2004

/-- The code of the first check of R393 that a read fails. `records` says that it is a request for records (op 03h). -/
def State.readRefusal (s : State) (via : Via) (idx sub : Nat) (records : Bool) : Nat :=
  match objectAt idx with
  | none => 0x407
  | some f => match f sub with
    | none => 0x402
    | some e =>
      let c3 := e.readLetter via
      if c3 ≠ 0 then c3
      else if records ∧ e.ty ≠ .domain then 0x406
      else if s.startingUp && !earlyObject idx then 0x50f
      else if e.ty = .domain ∧ s.consumes (idx - 0x2500) via.port = false then 0x602
      else 0

/-- A read (R257, R393, R440): refused, or its data. A ring read takes up to `count` records; a read of 2C10h.04 draws a
challenge. -/
def State.read (s : State) (via : Via) (idx sub count : Nat) (records abort : Bool) : Nat × List Byte × State :=
  let c := s.readRefusal via idx sub records
  if c ≠ 0 then (c, [], s.refuse via idx sub c abort)
  else match entryOf idx sub with
    | none => (0, [], s)
    | some e =>
      if e.ty = .domain then
        let r := idx - 0x2500
        (0, ((s.ring r).unread.take count).flatMap Rec.bytes, (s.setRing r ((s.ring r).take count)).complete via)
      else if idx = 0x2c10 ∧ sub = 4 then
        (0, leBytes 16 (Config.entropy s.draws).toNat, s.newChallenge.complete via)
      else (0, e.encode (s.valueOf idx sub e), s.complete via)

/-- Whether accesses are served on a port now (R132, R134, R428, R431, R452, R490, R498). -/
def State.portServes (s : State) (p : Port) : Bool :=
  s.pow.state ≠ .standby && match p with
    | .h => s.boot ≠ .inReset && s.boot ≠ .released
    | .s => s.boot ≠ .inReset && s.boot ≠ .released && !s.netHalted
    | .n => s.boot = .running && s.can.started && s.can.nmt ≠ .stopped && !s.netHalted && s.can.busState ≠ 2
    | .g => s.boot = .running && roleOf s.active s.galt.glmaster ≠ 0 && !s.netHalted

/-- A write that arrives on its port at its instant. -/
def State.portWrite (s : State) (via : Via) (idx sub : Nat) (data : List Byte) : State :=
  if s.portServes via.port then ((s.at via.cyc).write via idx sub data (decide (via.port = .n))).2 else s

/-- A read that arrives on its port at its instant; what it returns goes out by the port's own frame. -/
def State.portRead (s : State) (via : Via) (idx sub count : Nat) (records : Bool) : State :=
  if s.portServes via.port then ((s.at via.cyc).read via idx sub count records (decide (via.port = .n))).2.2 else s

/-- COMMIT (R96): a write of 01h to 2002h.01. -/
def execCommit (via : Via) (s : State) : Host.Outcome State Fault Refusal := s.run (·.portWrite via 0x2002 1 [1])
/-- DISCARD (R96): a write of 02h to 2002h.01. -/
def execDiscard (via : Via) (s : State) : Host.Outcome State Fault Refusal := s.run (·.portWrite via 0x2002 1 [2])
/-- CHECK_ONLY (R96): a write of 03h to 2002h.01. -/
def execCheckOnly (via : Via) (s : State) : Host.Outcome State Fault Refusal := s.run (·.portWrite via 0x2002 1 [3])
/-- LANE_FAULT_CLEAR (R192): a write of 01h to 2200h+l.04. -/
def execLaneFaultClear (via : Via) (lane : Fin 5) (s : State) : Host.Outcome State Fault Refusal :=
  s.run (·.portWrite via (0x2200 + lane.val) 4 [1])
/-- SWAP_REQUEST (R216): a write of p to 2380h.01. -/
def execSwapRequest (via : Via) (p : Byte) (s : State) : Host.Outcome State Fault Refusal := s.run (·.portWrite via 0x2380 1 [p])
/-- TOTALISER_CLEAR (R222): a write of 01h to 2300h+p.09. -/
def execTotaliserClear (via : Via) (p : Fin 16) (s : State) : Host.Outcome State Fault Refusal :=
  s.run (·.portWrite via (0x2300 + p.val) 9 [1])
/-- READ_RECORDS (R257): a read of 2500h+r.0A for a number of records. -/
def execReadRecords (via : Via) (ring : BitVec 8) (count : Fin 17) (s : State) : Host.Outcome State Fault Refusal :=
  s.run (·.portRead via (0x2500 + ring.toNat) 10 count.val true)
/-- CREDIT_RETURN (R258): a write of n to 2500h+r.07. -/
def execCreditReturn (via : Via) (ring : BitVec 8) (n : BitVec 16) (s : State) : Host.Outcome State Fault Refusal :=
  s.run (·.portWrite via (0x2500 + ring.toNat) 7 (leBytes 2 n.toNat))
/-- INTERRUPT_PENDING_CLEAR (R289): a write to 2720h.09. -/
def execInterruptPendingClear (via : Via) (mask : BitVec 64) (s : State) : Host.Outcome State Fault Refusal :=
  s.run (·.portWrite via 0x2720 9 (leBytes 8 mask.toNat))
/-- CAPTURE_REARM (R309): a write to 2811h.21. -/
def execCaptureRearm (via : Via) (mask : Byte) (s : State) : Host.Outcome State Fault Refusal :=
  s.run (·.portWrite via 0x2811 0x21 [mask])
/-- MONITOR_FAULT_CLEAR (R311): a write of 01h to 2800h+m.0B. -/
def execMonitorFaultClear (via : Via) (m : Fin 16) (s : State) : Host.Outcome State Fault Refusal :=
  s.run (·.portWrite via (0x2800 + m.val) 11 [1])
/-- MONITOR_PENDING_CLEAR (R307): a write to 2810h.0B. -/
def execMonitorPendingClear (via : Via) (mask : BitVec 32) (s : State) : Host.Outcome State Fault Refusal :=
  s.run (·.portWrite via 0x2810 11 (leBytes 4 mask.toNat))
/-- STATIC_CODE (R324): a write to 2900h+n.06. -/
def execStaticCode (via : Via) (n : Fin 4) (code : BitVec 16) (s : State) : Host.Outcome State Fault Refusal :=
  s.run (·.portWrite via (0x2900 + n.val) 6 (leBytes 2 code.toNat))
/-- RESET_ARM (R332): a write of 01h to 2910h+g.08. -/
def execResetArm (via : Via) (g : Fin 4) (s : State) : Host.Outcome State Fault Refusal :=
  s.run (·.portWrite via (0x2910 + g.val) 8 [1])
/-- RESET_DISARM (R332): a write of 00h to 2910h+g.08. -/
def execResetDisarm (via : Via) (g : Fin 4) (s : State) : Host.Outcome State Fault Refusal :=
  s.run (·.portWrite via (0x2910 + g.val) 8 [0])
/-- OUTPUT_FAULT_CLEAR (R336): a write of 01h to 2900h+n.0C. -/
def execOutputFaultClear (via : Via) (n : Fin 4) (s : State) : Host.Outcome State Fault Refusal :=
  s.run (·.portWrite via (0x2900 + n.val) 12 [1])
/-- FAULT_PENDING_CLEAR (R337): a write to 2920h.05. -/
def execFaultPendingClear (via : Via) (mask : Byte) (s : State) : Host.Outcome State Fault Refusal :=
  s.run (·.portWrite via 0x2920 5 [mask])
/-- ZERO_CALIBRATION (R351): a write of 01h to 2A00h.01. -/
def execZeroCalibration (via : Via) (s : State) : Host.Outcome State Fault Refusal := s.run (·.portWrite via 0x2a00 1 [1])
/-- SPAN_CALIBRATION (R351): a write of 02h to 2A00h.01. -/
def execSpanCalibration (via : Via) (s : State) : Host.Outcome State Fault Refusal := s.run (·.portWrite via 0x2a00 1 [2])
/-- ONE_SHOT_SELF_CALIBRATION (R349): a write of 03h to 2A00h.01. -/
def execOneShotSelfCalibration (via : Via) (s : State) : Host.Outcome State Fault Refusal := s.run (·.portWrite via 0x2a00 1 [3])
/-- CALIBRATION_ABORT (R351): a write of 04h to 2A00h.01. -/
def execCalibrationAbort (via : Via) (s : State) : Host.Outcome State Fault Refusal := s.run (·.portWrite via 0x2a00 1 [4])
/-- STORE (R373): "save" to 1010h. -/
def execStore (via : Via) (sub : Fin 5) (s : State) : Host.Outcome State Fault Refusal :=
  s.run (·.portWrite via 0x1010 sub.val (leBytes 4 0x65766173))
/-- RESTORE (R373): "load" to 1011h. -/
def execRestore (via : Via) (sub : Fin 5) (s : State) : Host.Outcome State Fault Refusal :=
  s.run (·.portWrite via 0x1011 sub.val (leBytes 4 0x64616f6c))
/-- OBJECT_WRITE (R392). -/
def execObjectWrite (via : Via) (idx : BitVec 16) (sub : BitVec 8) (data : List Byte) (s : State) :
    Host.Outcome State Fault Refusal := s.run (·.portWrite via idx.toNat sub.toNat data)
/-- PDO_MAPPING_COUNT (R400): a write of 1600h+k.00 or 1A00h+k.00. There are four RPDOs. -/
def execPdoMappingCount (via : Via) (tx : Bool) (k : Fin 8) (n : Byte) (s : State) : Host.Outcome State Fault Refusal :=
  s.run (·.portWrite via ((if tx then 0x1a00 else 0x1600) + k.val) 0 [n])
/-- SEAL (R438): a write of 01h to 2C10h.02. -/
def execSeal (via : Via) (s : State) : Host.Outcome State Fault Refusal := s.run (·.portWrite via 0x2c10 2 [1])
/-- RELOCK (R438): a write of 02h to 2C10h.02. -/
def execRelock (via : Via) (s : State) : Host.Outcome State Fault Refusal := s.run (·.portWrite via 0x2c10 2 [2])
/-- PASSWORD_ATTEMPT (R439): a write of 2C10h.03. -/
def execPasswordAttempt (via : Via) (value : BitVec 32) (s : State) : Host.Outcome State Fault Refusal :=
  s.run (·.portWrite via 0x2c10 3 (leBytes 4 value.toNat))
/-- CHALLENGE (R440): a read of 2C10h.04. -/
def execChallenge (via : Via) (s : State) : Host.Outcome State Fault Refusal := s.run (·.portRead via 0x2c10 4 1 false)
/-- RESPONSE_ATTEMPT (R440): a write of 2C10h.05. -/
def execResponseAttempt (via : Via) (response : List Byte) (s : State) : Host.Outcome State Fault Refusal :=
  s.run (·.portWrite via 0x2c10 5 response)
/-- STOP_CLEAR (R487): a write of 01h to 2E00h.07. -/
def execStopClear (via : Via) (s : State) : Host.Outcome State Fault Refusal := s.run (·.portWrite via 0x2e00 7 [1])
/-- SHUTDOWN_CLEAR (R494): a write of 01h to 2E01h.03. -/
def execShutdownClear (via : Via) (s : State) : Host.Outcome State Fault Refusal := s.run (·.portWrite via 0x2e01 3 [1])
/-- RUN_REQUEST (R497): a write of 00h to 2E02h.01. -/
def execRunRequest (via : Via) (s : State) : Host.Outcome State Fault Refusal := s.run (·.portWrite via 0x2e02 1 [0])
/-- DOZE_REQUEST (R496): a write of 01h to 2E02h.01. -/
def execDozeRequest (via : Via) (s : State) : Host.Outcome State Fault Refusal := s.run (·.portWrite via 0x2e02 1 [1])
/-- STANDBY_REQUEST (R498): a write of 02h to 2E02h.01. -/
def execStandbyRequest (via : Via) (s : State) : Host.Outcome State Fault Refusal := s.run (·.portWrite via 0x2e02 1 [2])

end Sys2Proof.Machine
end

