-- ==== Sys2Proof/Machine/Startup.lean ====
section
/-! DEFINITION. Reset and start-up up to the check of the restored values (R377, R488, R490). -/
namespace Sys2Proof.Machine
open Sys2Proof

/-- The device reset (R488): every volatile entry at its Default; the journal, of whose record under program the flash
already holds `programmed` bytes, the seal fuse and the level of VIO stay. The model's own fields, the draws and the queue, stay
too. -/
def State.deviceReset (s : State) (programmed : Nat) : State :=
  { jn := s.jn.afterReset programmed, lock := { fuse := s.lock.fuse }, sup := { vioMv := s.sup.vioMv }, draws := s.draws, pending := s.pending }

/-- RESET_RELEASE (R490). -/
def State.resetRelease (s : State) : State := if s.boot = .inReset then { s with boot := .released } else s

/-- FUSES_LOADED (R452, R490): identity is served, GLMASTER is sampled, the XO is started. -/
def State.fusesLoaded (s : State) (glmaster : Bool) : State :=
  if s.boot = .released then
    { s with boot := .fuses, galt := { s.galt with glmaster := glmaster }, clk := { s.clk with pll := 1 } }
  else s

/-- JOURNAL_SCAN (R121, R377): the scan, and the check of what it restored. -/
def State.journalScan (s : State) (us : BitVec 16) : State :=
  if s.boot = .fuses then { (s.scan us).startCheck with boot := .checked } else s

/-- A reset starts from any state, a stopped core included (R138, R488). -/
def State.resetNow (s : State) (programmed : Nat) : Host.Outcome State Fault Refusal := .next (s.begin.deviceReset programmed)

/-- POWER_ON_RESET. -/
def execPowerOnReset (programmed : Nat) (s : State) : Host.Outcome State Fault Refusal := s.resetNow programmed
/-- NRST. -/
def execNrst (programmed : Nat) (s : State) : Host.Outcome State Fault Refusal := s.resetNow programmed
/-- RESET_RELEASE. -/
def execResetRelease (s : State) : Host.Outcome State Fault Refusal := s.run State.resetRelease
/-- FUSES_LOADED. -/
def execFusesLoaded (glmaster : Bool) (s : State) : Host.Outcome State Fault Refusal := s.run (·.fusesLoaded glmaster)
/-- JOURNAL_SCAN. -/
def execJournalScan (us : BitVec 16) (s : State) : Host.Outcome State Fault Refusal := s.run (·.journalScan us)

end Sys2Proof.Machine
end

