-- ==== Sys2Proof/Machine/Can.lean ====
section
/-! DEFINITION. The CAN FD port (R399–R402, R428–R434): NMT, USDO, PDOs, SYNC, error confinement; and the proxy's share of it (R466). -/
namespace Sys2Proof.Machine
open Sys2Proof

/-- Whether the port takes frames now: it has started, and nothing holds it (R132, R428, R490, R498). -/
def State.canTakes (s : State) : Bool := s.boot = .running && s.canOn

/-- One more frame received (2C01h.09). -/
def State.canRx (s : State) : State := { s with can := { s.can with rxFrames := satInc s.can.rxFrames } }

/-- The NMT state changes. Leaving OPERATIONAL drops the RPDO frames held for a SYNC. -/
def State.setNmt (s : State) (n : Nmt) : State :=
  { s with can := { s.can with nmt := n, held := if n = .operational then s.can.held else [] } }

/-- The first run of the port, and what follows a reset communication or a change of 2C01h.01–.03 (R431): the boot-up
message, then PRE-OPERATIONAL. -/
def State.canBoot (s : State) : State :=
  let s1 := { s with can := { s.can with started := true, sessions := [] } }
  (s1.sendCan (0x700 + s.nodeId) [0]).setNmt .preOperational

/-- Whether a key is a live entry of the communication class. -/
def liveComm (k : Nat) : Bool :=
  match entryOf (k / 256) (k % 256) with
  | some e => decide (e.apply = .live) && decide (e.store = .comm)
  | none => false

/-- Every live communication-class entry takes its stored value or its Default (R431). -/
def State.commStored (s : State) : State :=
  let stored : List (Nat × Nat) := match s.jn.gen 1 with
    | some ps => (ps.flatMap (fun p : List Byte => parseEntries p.length p)).filter (fun e => liveComm e.1)
    | none => []
  { s with live := stored.foldl (fun t e => tput dflt t e.1 e.2) (s.live.filter (fun e => !liveComm e.1)) }

/-- Reset communication (R431). -/
def State.resetComm (s : State) : State :=
  ({ s with can := { s.can with txErr := 0, rxErr := 0, busState := 0 } }).commStored.canBoot

/-- The address of the member whose USDO server the master serves under a node-ID (R466). -/
def State.proxied (s : State) (node : Nat) : Option Nat :=
  if roleOf s.active s.galt.glmaster = 1 then
    match s.galt.nodes.filter (fun e => decide (e.1 ≠ 0) && e.2.present && decide (Config.memberNodeId e.2.serial = node)) with
    | [e] => if e.2.offBus ∧ node ≠ s.nodeId then some e.1 else none
    | _ => none
  else none

/-- NMT commands addressed to 0 or to a proxied node are relayed (R466). -/
def State.relayNmt (s : State) (node : Nat) (command : Byte) : State :=
  if node = 0 then (if roleOf s.active s.galt.glmaster = 1 then s.galtSend 0x0c 0xff [command] else s)
  else match s.proxied node with
    | some a => s.galtSend 0x0c a [command]
    | none => s

/-- An NMT command taken by this node: after the relay, its own effect where it is addressed (R431, R449). -/
def State.nmtCommand (s : State) (node command : Byte) (f : State → State) : State :=
  if s.canTakes then
    let s1 := s.relayNmt node.toNat command
    if node.toNat = 0 ∨ node.toNat = s.nodeId then f s1.canRx else s1
  else s

/-- Reset node (R431, R488). How much of a journal record under program the flash holds by then is open. -/
def State.nmtReset (s : State) : State :=
  let n := match s.jn.prog with
    | some p => (Config.freeWord s.draws).toNat % (p.image.length + 1)
    | none => 0
  { s.deviceReset n with draws := s.draws + 1, out := s.out }

/-- HEARTBEAT (R431). -/
def State.heartbeat (s : State) : State :=
  if s.canTakes && s.lcfg 0x1017 0 ≠ 0 then s.sendCan (0x700 + s.nodeId) [BitVec.ofNat 8 s.can.nmt.code] else s

/-- Sends an answer on the USDO server's COB-ID of a node. -/
def State.sendUsdo (s : State) (e : Emit) : State :=
  if s.canOn then { s with out := s.out ++ [e], can := { s.can with txFrames := satInc s.can.txFrames } } else s

/-- A node's segmented session ends. -/
def State.closeUsdo (s : State) (node : Nat) : State :=
  { s with can := { s.can with sessions := s.can.sessions.filter (· ≠ node) } }

/-- A node's segmented session opens. -/
def State.openUsdo (s : State) (node : Nat) : State :=
  { s with can := { s.can with sessions := node :: s.can.sessions.filter (· ≠ node) } }

/-- A protocol abort (R430): nothing is written or logged. -/
def State.abortUsdo (s : State) (node : Nat) (code : Nat) : State :=
  (s.closeUsdo node).sendUsdo (.usdoAbort (BitVec.ofNat 7 node) (BitVec.ofNat 32 code) s.canBrs)

/-- A completed access is answered; a value above 56 bytes leaves in segments, with a session open until the last
(R430). -/
def State.answerUsdo (s : State) (node : Nat) (data : List Byte) : State :=
  (if 56 < data.length then s.openUsdo node else s).sendUsdo (.usdoDone (BitVec.ofNat 7 node) data s.canBrs)

/-- A request that arrives during an open session aborts it first (R430). -/
def State.newUsdo (s : State) (node : Nat) : State := if s.can.sessions.contains node then s.abortUsdo node 0x05040001 else s

/-- The access is done here as one from port N (R398, R399). -/
def State.usdoHere (s : State) (node : Nat) (write : Bool) (idx sub : Nat) (data : List Byte) (cyc : Nat) : State :=
  let via : Via := { port := .n, cyc := cyc }
  if write then
    let w := s.write via idx sub data true
    if w.1 = 0 then w.2.answerUsdo node [] else w.2.abortUsdo node (abortCode w.1)
  else
    let r := s.read via idx sub 1 false true
    if r.1 = 0 then r.2.2.answerUsdo node r.2.1 else r.2.2.abortUsdo node (abortCode r.1)

/-- The access is relayed to the member at an address (R466, R467). -/
def State.usdoRelay (s : State) (node a : Nat) (write : Bool) (idx sub : Nat) (data : List Byte) : State :=
  if s.galt.state ≠ 2 then (s.event 0x2d00 0 0).abortUsdo node 0x08000020
  else
    let id := s.galt.nextId
    let q : Session := { id := id, node := BitVec.ofNat 7 node, write := write }
    ({ s with galt := { s.galt with sessions := s.galt.sessions ++ [q], nextId := id + 1 } }).galtSend 5 a
      ([id, 1, if write then 2 else 1] ++ leBytes 2 idx ++ [BitVec.ofNat 8 sub] ++ data)

/-- An access of the USDO server of a node: this one, or a member served by proxy. -/
def State.usdoAccess (s : State) (node : Nat) (write : Bool) (idx sub : Nat) (data : List Byte) (cyc : Nat) : State :=
  match s.proxied node with
  | some a => s.usdoRelay node a write idx sub data
  | none => s.usdoHere node write idx sub data cyc

/-- What a request asks of the server it reaches (R399, R430). -/
def State.usdoServe (s : State) (node : Nat) (req : UsdoReq) (cyc : Nat) : State :=
  match req with
  | .read idx sub => (s.newUsdo node).usdoAccess node false idx.toNat sub.toNat [] cyc
  | .write idx sub data => (s.newUsdo node).usdoAccess node true idx.toNat sub.toNat data cyc
  | .openSegmented => (s.newUsdo node).openUsdo node
  | .segmentedWrite idx sub data =>
    if s.can.sessions.contains node then (s.closeUsdo node).usdoAccess node true idx.toNat sub.toNat data cyc
    else s.abortUsdo node 0x05040001
  | .endSegmented => s.closeUsdo node
  | .badToggle => s.abortUsdo node 0x05030000
  | .badCommand => s.abortUsdo node 0x05040001

/-- Whether a USDO frame of a node-ID reaches a server here. -/
def State.usdoTakes (s : State) (node : Nat) : Bool :=
  s.portServes .n && (decide (node = s.nodeId) || (s.proxied node).isSome)

/-- USDO_REQUEST. -/
def State.usdoRequest (s : State) (node : Nat) (req : UsdoReq) (cyc : Nat) : State :=
  if s.usdoTakes node then (s.at cyc).canRx.usdoServe node req cyc else s

/-- USDO_ABORT (R399): the client ends its transfer; nothing is written or logged. -/
def State.usdoAborted (s : State) (node : Nat) : State := if s.usdoTakes node then s.canRx.closeUsdo node else s

/-- USDO_SEGMENT_TIMEOUT (R430). -/
def State.usdoTimeout (s : State) (node : Nat) : State :=
  if s.usdoTakes node && s.can.sessions.contains node then s.abortUsdo node 0x05040000 else s

/-- Whether a PDO's COB-ID is valid (R403). -/
def State.pdoValid (s : State) (idx : Nat) : Bool := decide (s.liveVal idx 1 < 2 ^ 31)

/-- The mapping of a PDO that is in force. -/
def State.pdoMap (s : State) (idx : Nat) : List Nat := s.mapped idx (s.lcfg idx 0)

/-- The ring and count of a TPDO that maps records; none for another. -/
def State.tpdoRing (s : State) (k : Nat) : Option (Nat × Nat) :=
  match s.pdoMap (0x1a00 + k) with
  | m :: t => if isRecordMap m then some (m / 65536 - 0x2500, t.length + 1) else none
  | [] => none

/-- The data lengths of ISO 11898-1 above 8. -/
def fdLength (n : Nat) : Nat := if n ≤ 8 then n else ([12, 16, 20, 24, 32, 48, 64].find? (n ≤ ·)).getD 64

/-- Bytes brought to a length with 00h. -/
def padTo (n : Nat) (b : List Byte) : List Byte := b ++ List.replicate (n - b.length) 0

/-- A mapped entry's value at its full mapped length (R401). -/
def State.mappedBytes (s : State) (m : Nat) : List Byte :=
  match entryOf (m / 65536) (m / 256 % 256) with
  | some e => (padTo (m % 256 / 8) (e.encode (s.valueOf (m / 65536) (m / 256 % 256) e))).take (m % 256 / 8)
  | none => List.replicate (m % 256 / 8) 0

/-- A frame of a TPDO is queued, with the ring and number of its records. -/
def State.tpdoQueue (s : State) (k ring j : Nat) (data : List Byte) : State :=
  s.updTpdo k (fun r => { r with queued := r.queued ++ [(ring, j, data)] })

/-- A TPDO is formed (R401): its records pass to outstanding, or its entries are read. -/
def State.tpdoForm (s : State) (k : Nat) : State :=
  match s.tpdoRing k with
  | some (r, n) =>
    if s.acfg (0x2500 + r) 3 ≠ 1 then { s with diag := { s.diag with noConsumer := satInc s.diag.noConsumer } }
    else
      let j := min n (s.ring r).unread.length
      if j = 0 then s
      else (s.setRing r ((s.ring r).take j)).tpdoQueue k r j (((s.ring r).unread.take j).flatMap Rec.bytes)
  | none =>
    let b := (s.pdoMap (0x1a00 + k)).flatMap s.mappedBytes
    s.tpdoQueue k 0 0 (padTo (fdLength b.length) b)

/-- Whether TPDO k is exchanged: OPERATIONAL, a valid COB-ID, something mapped (R433). -/
def State.tpdoOn (s : State) (k : Nat) : Bool :=
  s.can.started && s.can.nmt = .operational && s.pdoValid (0x1800 + k) && s.lcfg (0x1a00 + k) 0 ≠ 0

/-- A transmission event of TPDO k (R433): within its inhibit time it waits. -/
def State.tpdoEvent (s : State) (k : Nat) : State :=
  if s.tpdoOn k then
    if (s.tpdoRt k).inhibit then s.updTpdo k (fun r => { r with deferred := true }) else s.tpdoForm k
  else s

/-- Whether a TPDO is event-driven: type FEh or FFh. -/
def State.tpdoByEvent (s : State) (k : Nat) : Bool := decide (0xfe ≤ s.lcfg (0x1800 + k) 2)

/-- Events of the record TPDOs whose ring's unread count has reached their k since `old` (R433). -/
def State.ringEvents (s old : State) : State :=
  (List.range 8).foldl (fun acc k =>
    match s.tpdoRing k with
    | some (r, n) =>
      if s.tpdoByEvent k && decide ((old.ring r).unread.length < n) && decide (n ≤ (s.ring r).unread.length) then acc.tpdoEvent k
      else acc
    | none => acc) s

/-- A SYNC counts for a TPDO of type 01h–F0h; every n-th is its event (R433). -/
def State.tpdoSync (s : State) (k : Nat) : State :=
  let n := s.lcfg (0x1800 + k) 2
  if s.tpdoOn k && decide (n ≤ 0xf0) then
    if n ≤ (s.tpdoRt k).syncs + 1 then (s.updTpdo k (fun r => { r with syncs := 0 })).tpdoEvent k
    else s.updTpdo k (fun r => { r with syncs := r.syncs + 1 })
  else s

/-- TPDO_EVENT_TIMER (R433). -/
def State.tpdoTimer (s : State) (k : Nat) : State :=
  let some' := match s.tpdoRing k with
    | some (r, _) => decide ((s.ring r).unread.length ≠ 0)
    | none => true
  if s.canTakes && s.tpdoByEvent k && s.lcfg (0x1800 + k) 5 ≠ 0 && some' then s.tpdoEvent k else s

/-- INHIBIT_TIME_END (R433); the core, which times it, stands in STANDBY (R498). -/
def State.inhibitEnd (s : State) (k : Nat) : State :=
  let r := s.tpdoRt k
  if r.inhibit && s.pow.state ≠ .standby then
    let s1 := s.updTpdo k (fun r => { r with inhibit := false, deferred := false })
    if r.deferred then s1.tpdoEvent k else s1
  else s

/-- The credit of a transmitted frame's records returns (R259, R267). -/
def State.tpdoCredit (s : State) (ring j : Nat) : State :=
  if s.acfg (0x2500 + ring) 3 = 1 ∧ j ≤ (s.ring ring).outstanding.length then s.returnCredits ring j else s

/-- TPDO_TRANSMITTED (R259, R433): the oldest queued frame has gone out without error. A ring that still holds k records
is an event again. -/
def State.tpdoSent (s : State) (k : Nat) : State :=
  match (s.tpdoRt k).queued with
  | [] => s
  | (ring, j, data) :: rest =>
    if s.canTakes && s.can.nmt = .operational then
      let s1 := (s.updTpdo k (fun r => { r with queued := rest, inhibit := decide (s.lcfg (0x1800 + k) 3 ≠ 0) })).sendCan
        (s.liveVal (0x1800 + k) 1 % 2048) data
      let s2 := if j = 0 then s1 else s1.tpdoCredit ring j
      match s2.tpdoRing k with
      | some (r, n) => if s2.tpdoByEvent k && decide (n ≤ (s2.ring r).unread.length) then s2.tpdoEvent k else s2
      | none => s2
    else s

/-- The writes an RPDO's data stand for (R402): index, sub-index, bytes. -/
def rpdoParts : List Nat → List Byte → List (Nat × Nat × List Byte)
  | [], _ => []
  | m :: t, b => (m / 65536, m / 256 % 256, b.take (m % 256 / 8)) :: rpdoParts t (b.drop (m % 256 / 8))

/-- An RPDO shorter than its mapping (R402, R432). -/
def State.rpdoShort (s : State) (k : Nat) : State :=
  let s1 := s.refusal 0x409 .n (key (0x1600 + k) 0) 0
  ({ s1 with can := { s1.can with shortRpdo := true } }).emcy 0x8210 (k + 1)

/-- The writes of an RPDO in mapping order (R402). -/
def State.writeParts (s : State) (via : Via) (parts : List (Nat × Nat × List Byte)) : State :=
  parts.foldl (fun acc p =>
    match entryOf p.1 p.2.1 with
    | some e => acc.writeEffect via p.1 p.2.1 e (leNum p.2.2)
    | none => acc) s

/-- The value of a write in place, for the check of the writes behind it in its group. -/
def State.stage (s : State) (p : Nat × Nat × List Byte) : State :=
  match entryOf p.1 p.2.1 with
  | some e =>
    if e.apply = .commit then { s with shadow := tput dflt s.shadow (key p.1 p.2.1) (leNum p.2.2) } else s.setLive p.1 p.2.1 (leNum p.2.2)
  | none => s

/-- The first write of a group that fails its checks, with its code (R392, R402): each is judged with the values of those before it
in place, which it is consistent with or not (DEDUCED, log entry 61). -/
def State.firstRefused (via : Via) : State → List (Nat × Nat × List Byte) → Option ((Nat × Nat × List Byte) × Nat)
  | _, [] => none
  | s, p :: t =>
    let c := s.writeRefusal via p.1 p.2.1 p.2.2
    if c ≠ 0 then some (p, c) else State.firstRefused via (s.stage p) t

/-- A received RPDO is written (R402): every entry is checked before any is written; the first that fails is logged. -/
def State.rpdoWrite (s : State) (k : Nat) (data : List Byte) (cyc : Nat) : State :=
  let ms := s.pdoMap (0x1600 + k)
  let via : Via := { port := .n, cyc := cyc }
  if data.length < (ms.map (· % 256)).sum / 8 then s.rpdoShort k
  else
    let parts := rpdoParts ms data
    match State.firstRefused via s parts with
    | some (p, c) => s.refuse via p.1 p.2.1 c false
    | none => (s.writeParts via parts).complete via

/-- RPDO (R433): one of type 00h–F0h waits for a SYNC. -/
def State.rpdoFrame (s : State) (k : Nat) (data : List Byte) (cyc : Nat) : State :=
  if s.canTakes && s.can.nmt = .operational && s.pdoValid (0x1400 + k) then
    let s1 := (s.at cyc).canRx
    if s.lcfg (0x1400 + k) 2 ≤ 0xf0 then
      { s1 with can := { s1.can with held := tput (fun _ => none) s1.can.held k (some data) } }
    else s1.rpdoWrite k data cyc
  else s

/-- The RPDO frames held for a SYNC are written (R433). -/
def State.writeHeld (s : State) (cyc : Nat) : State :=
  s.can.held.foldl (fun acc e =>
    match e.2 with
    | some data => acc.rpdoWrite e.1 data cyc
    | none => acc) { s with can := { s.can with held := [] } }

/-- SYNC_FRAME (R26, R57, R433): received in PRE-OPERATIONAL and OPERATIONAL; one event for the next prologue, then the
TPDO counts and the held RPDOs. -/
def State.syncFrame (s : State) (cyc : Nat) : State :=
  if s.canTakes && s.can.nmt ≠ .stopped then
    let s1 := (s.at cyc).canRx
    let s2 := { s1 with tick := { s1.tick with syncs := s1.tick.syncs + 1 } }
    if s.can.nmt = .operational then ((List.range 8).foldl State.tpdoSync s2).writeHeld cyc else s2
  else s

/-- BUS_OFF_RECOVERY (R428, R432). -/
def State.busOffRecovery (s : State) : State :=
  if s.can.started && s.can.busState = 2 && !s.netHalted && s.pow.state ≠ .standby then
    ({ s with can := { s.can with busState := 0, txErr := 0, rxErr := 0 } }).emcy 0x8140 (s.can.busOffs % 65536)
  else s

/-- CAN_ERROR_CONFINEMENT (R428, R432): the controller's counters and state change. -/
def State.errorConfinement (s : State) (tec rec : Byte) (busOff : Bool) : State :=
  if s.canTakes then
    let passive := decide (128 ≤ tec.toNat) || decide (128 ≤ rec.toNat)
    let st : BitVec 8 := if busOff then 2 else if passive then 1 else 0
    let s1 := { s with can := { s.can with
      txErr := tec, rxErr := rec, busState := st, busOffs := if busOff then satInc s.can.busOffs else s.can.busOffs } }
    if st = 1 ∧ s.can.busState = 0 then s1.emcy 0x8120 (tec.toNat + 256 * rec.toNat) else s1
  else s

/-- CRXD_DOMINANT (R458). -/
def State.crxd (s : State) : State :=
  if s.boot = .inReset then s else { s with can := { s.can with crxDominant := true } }

/-- USDO_REQUEST. -/
def execUsdoRequest (node : BitVec 7) (req : UsdoReq) (cyc : Nat) (s : State) : Host.Outcome State Fault Refusal :=
  s.run (·.usdoRequest node.toNat req cyc)
/-- USDO_ABORT. -/
def execUsdoAbort (node : BitVec 7) (s : State) : Host.Outcome State Fault Refusal := s.run (·.usdoAborted node.toNat)
/-- USDO_SEGMENT_TIMEOUT. -/
def execUsdoSegmentTimeout (node : BitVec 7) (s : State) : Host.Outcome State Fault Refusal := s.run (·.usdoTimeout node.toNat)
/-- SYNC_FRAME. -/
def execSyncFrame (cyc : Nat) (s : State) : Host.Outcome State Fault Refusal := s.run (·.syncFrame cyc)
/-- TPDO_EVENT_TIMER. -/
def execTpdoEventTimer (k : Fin 8) (s : State) : Host.Outcome State Fault Refusal := s.run (·.tpdoTimer k.val)
/-- INHIBIT_TIME_END. -/
def execInhibitTimeEnd (k : Fin 8) (s : State) : Host.Outcome State Fault Refusal := s.run (·.inhibitEnd k.val)
/-- TPDO_TRANSMITTED. -/
def execTpdoTransmitted (k : Fin 8) (s : State) : Host.Outcome State Fault Refusal := s.run (·.tpdoSent k.val)
/-- RPDO. -/
def execRpdo (k : Fin 4) (data : List Byte) (cyc : Nat) (s : State) : Host.Outcome State Fault Refusal :=
  s.run (·.rpdoFrame k.val data cyc)
/-- NMT_START. -/
def execNmtStart (node : Byte) (s : State) : Host.Outcome State Fault Refusal :=
  s.run (·.nmtCommand node 0x01 (·.setNmt .operational))
/-- NMT_STOP. -/
def execNmtStop (node : Byte) (s : State) : Host.Outcome State Fault Refusal :=
  s.run (·.nmtCommand node 0x02 (·.setNmt .stopped))
/-- NMT_ENTER_PRE_OPERATIONAL. -/
def execNmtEnterPreOperational (node : Byte) (s : State) : Host.Outcome State Fault Refusal :=
  s.run (·.nmtCommand node 0x80 (·.setNmt .preOperational))
/-- NMT_RESET_NODE. -/
def execNmtResetNode (node : Byte) (s : State) : Host.Outcome State Fault Refusal :=
  s.run (·.nmtCommand node 0x81 State.nmtReset)
/-- NMT_RESET_COMMUNICATION. -/
def execNmtResetCommunication (node : Byte) (s : State) : Host.Outcome State Fault Refusal :=
  s.run (·.nmtCommand node 0x82 State.resetComm)
/-- HEARTBEAT. -/
def execHeartbeat (s : State) : Host.Outcome State Fault Refusal := s.run State.heartbeat
/-- BUS_OFF_RECOVERY. -/
def execBusOffRecovery (s : State) : Host.Outcome State Fault Refusal := s.run State.busOffRecovery
/-- CAN_ERROR_CONFINEMENT. -/
def execCanErrorConfinement (tec rec : Byte) (busOff : Bool) (s : State) : Host.Outcome State Fault Refusal :=
  s.run (·.errorConfinement tec rec busOff)
/-- CRXD_DOMINANT. -/
def execCrxdDominant (s : State) : Host.Outcome State Fault Refusal := s.run State.crxd

end Sys2Proof.Machine
end

