-- ==== Sys2Proof/Machine/GaltLink.lean ====
section
/-! DEFINITION. GaltLink (chapter 19): enumeration, tick distribution, relayed accesses, result streams, break and rejoin. -/
namespace Sys2Proof.Machine
open Sys2Proof

/-- The role of R452: 0 NONE, 1 MASTER, 2 MEMBER. -/
def State.role (s : State) : Nat := roleOf s.active s.galt.glmaster

/-- Whether the node takes part in the ring now (R132, R452, R498). -/
def State.galtOn (s : State) : Bool := s.boot = .running && s.role ≠ 0 && s.pow.state ≠ .standby

/-- Changes the GaltLink state. -/
def State.updGalt (s : State) (f : GaltSt → GaltSt) : State := { s with galt := f s.galt }

/-- Whether the node has an address: node 0, and a member that has taken one. -/
def State.addressed (s : State) : Bool := s.role = 1 || s.galt.addr ≠ 0

/-- Whether a frame's origin is this node (R456). -/
def State.ownFrame (s : State) (hd : FrameHead) : Bool := s.addressed && hd.org = s.galt.addr

/-- Whether a frame is addressed to this node or to all (R456). -/
def State.mine (s : State) (hd : FrameHead) : Bool := hd.dst = 0xff || (s.addressed && hd.dst = s.galt.addr)

/-- Sends a frame of another origin on. -/
def State.forward (s : State) (typ : Nat) (hd : FrameHead) (payload : List Byte) : State :=
  if s.ownFrame hd || (s.mine hd && hd.dst ≠ 0xff) || s.netHalted then s
  else s.send (galtFrameOf (BitVec.ofNat 8 typ) hd.dst hd.org payload)

/-- Forwarding of every frame but ENUM, BREAK and RESTORED: a node in ring state 03h forwards none (R472). -/
def State.pass (s : State) (typ : Nat) (hd : FrameHead) (payload : List Byte) : State :=
  if s.galt.state = 3 then s else s.forward typ hd payload

/-- A frame that arrives: one with a CRC error, an ABORT or a code error is discarded and counted (R456). -/
def State.galtFrame (s : State) (hd : FrameHead) (typ : Nat) (payload : List Byte) (f : State → State) : State :=
  if s.galtOn then
    if headGood hd typ payload then f s else s.updGalt (fun g => { g with codeErrs := satInc g.codeErrs })
  else s

/-- The 13 bytes of an ENUM entry (R456). -/
def EnumEntry.bytes (e : EnumEntry) : List Byte :=
  leBytes 4 e.product.toNat ++ leBytes 4 e.revision.toNat ++ leBytes 4 e.serial.toNat
    ++ [BitVec.ofNat 8 (bit e.offBus + 2 * bit e.fresh)]

/-- This node's entry (R456, R458). -/
def State.ownEntry (s : State) : EnumEntry :=
  { product := BitVec.ofNat 32 (cfg [] 0x1018 2), revision := BitVec.ofNat 32 (cfg [] 0x1018 3)
    serial := BitVec.ofNat 32 (cfg [] 0x1018 4), offBus := !s.can.crxDominant, fresh := s.galt.fresh }

/-- The payload of ENUM and TABLE. -/
def enumPayload (count : BitVec 8) (l : List EnumEntry) : List Byte := count :: l.flatMap EnumEntry.bytes

/-- Node 0 enumerates the ring (R457). -/
def State.enumerate (s : State) : State :=
  let s1 := s.updGalt (fun g => { g with
    state := 1, addr := 0, broke := false, table := none, gotDelay := false, gotTime := false, soundDue := false, retry := false
    fresh := false })
  s1.galtSend 1 0xff (enumPayload 1 [s.ownEntry])

/-- The GaltLink role at an activation (R452, R457). -/
def State.galtRole (s : State) (was : Nat) : State :=
  let r := s.role
  if r = was then s
  else
    let s1 := s.updGalt (fun g => { g with
      addr := 0, state := if r = 0 then 0 else 1, count := 0, cableNext := none, hop := 0, advance := 0, nodes := [], locked := false
      detected := false, broke := false, table := none, gotDelay := false, gotTime := false, soundDue := false
      retry := false, counterNext := none, advances := [], sessions := [] })
    if r = 1 then s1.enumerate else s1

/-- The nodes of a completed enumeration with the delays known of them (R457, R463). -/
def tableNodes (delays : List (BitVec 32)) : Nat → List EnumEntry → Tbl NodeRt
  | _, [] => []
  | a, e :: t =>
    (a, { present := true, product := e.product, revision := e.revision, serial := e.serial, offBus := e.offBus
          delay := delays.getD a 0 }) :: tableNodes delays (a + 1) t

/-- The ring closes for a node that has received TABLE, DELAY and TIME (R457): TICK counts again, and its streams resume from the
oldest record not acknowledged (R474). -/
def State.tryClose (s : State) : State :=
  match s.galt.table with
  | some l =>
    if s.galt.state = 1 && s.galt.gotDelay && s.galt.gotTime then
      s.updGalt (fun g => { g with state := 2, broke := false, count := BitVec.ofNat 8 l.length, nodes := tableNodes g.advances 0 l
                                   streams := tmapVals (fun _ => {}) (fun _ x => { x with sent := 0 }) g.streams })
    else s
  | none => s

/-- Node 0 forgets what it keeps for a restarted origin (R469, R470): its SEQ, its credit counts, and that its stored records
are owed credits. -/
def State.freshOrigin (s : State) (serial : BitVec 32) : State :=
  let clear : Rec → Rec := fun r => if r.kind = 5 ∧ r.originSerial = serial then { r with originSerial := 0 } else r
  let s1 := s.updGalt (fun g => { g with origins := g.origins.filter (fun o => o.serial ≠ serial) })
  { s1 with rings := tmapVals ringDflt (fun _ q => { q with unread := q.unread.map clear, outstanding := q.outstanding.map clear }) s1.rings }

/-- ENUM has returned to node 0 (R457, R459): TABLE goes out, and a sounding is due; or the ring has too many nodes. -/
def State.enumDone (s : State) (count : BitVec 8) (l : List EnumEntry) : State :=
  let s1 := ((l.filter (·.fresh)).map (·.serial)).foldl State.freshOrigin s
  if 64 < count.toNat then (s1.updGalt (fun g => { g with retry := true })).event 0x2d00 0 0
  else (s1.updGalt (fun g => { g with count := count, soundDue := true })).galtSend 2 0xff (enumPayload count l)

/-- A member takes its address and appends its entry, where there is room (R457). -/
def State.enumMember (s : State) (hd : FrameHead) (count : BitVec 8) (l : List EnumEntry) : State :=
  let room := decide (count.toNat ≤ 63)
  let s1 := s.updGalt (fun g => { g with
    state := 1, table := none, gotDelay := false, gotTime := false
    addr := if room then count else 0, fresh := if room then false else g.fresh })
  let next : BitVec 8 := if count = 255 then 255 else count + 1
  if s.netHalted then s1
  else s1.send (galtFrameOf 1 hd.dst hd.org (enumPayload next (if room then l ++ [s.ownEntry] else l)))

/-- ENUM_FRAME (R456, R457): one of another origin at node 0, or to another node, goes on as every frame does. -/
def State.enumFrame (s : State) (hd : FrameHead) (count : BitVec 8) (l : List EnumEntry) : State :=
  s.galtFrame hd 1 (enumPayload count l) fun s =>
    if s.role = 1 ∧ hd.org = 0 then s.enumDone count l
    else if s.role ≠ 1 ∧ s.mine hd = true then s.enumMember hd count l
    else s.forward 1 hd (enumPayload count l)

/-- ENUMERATION_RETRY (R459). -/
def State.enumRetry (s : State) : State := if s.galtOn && s.role = 1 && s.galt.retry then s.enumerate else s

/-- TABLE_FRAME (R457). -/
def State.tableFrame (s : State) (hd : FrameHead) (l : List EnumEntry) : State :=
  s.galtFrame hd 2 (enumPayload (BitVec.ofNat 8 l.length) l) fun s =>
    let s1 := s.pass 2 hd (enumPayload (BitVec.ofNat 8 l.length) l)
    if s.mine hd then (s1.updGalt (fun g => { g with table := some l })).tryClose else s1

/-- Address of the downstream neighbour: the last member's is node 0. -/
def State.downstream (s : State) : Nat :=
  let n := match s.galt.table with
    | some l => l.length
    | none => s.galt.count.toNat
  if s.galt.addr.toNat + 1 < n then s.galt.addr.toNat + 1 else 0

/-- The cable delay from the round trips of a sounding: half their mean, less the transmit path (R462). The manual gives no rounding
to 1 ps: the nearest, ties to even (DESIGN CHOICE, log entry 87). -/
def cableDelay (trips : List Nat) : BitVec 32 :=
  BitVec.ofInt 32 (roundEven (mkRat trips.sum (2 * trips.length)) - Config.transmitPathPs)

/-- The node has sounded its outgoing segment: SOUND, then DELAY to the neighbour (R462). -/
def State.soundSegment (s : State) (trips : List Nat) : State :=
  if s.netHalted then s else (s.send .galtSound).galtSend 4 s.downstream (leBytes 4 (cableDelay trips).toNat)

/-- Node 0 sends TIME (R463, R465), and with it every CREDIT again (R470). -/
def State.sendTime (s : State) : State :=
  let n := s.galt.count.toNat
  let adv := (List.range n).flatMap (fun a => leBytes 4 (if a = 0 then 0 else (s.galt.advances.getD a 0).toNat))
  let s1 := s.galtSend 3 0xff (leBytes 4 s.tick.counter.toNat ++ leBytes 2 s.tick.epoch.toNat ++ [BitVec.ofNat 8 n] ++ adv)
  s1.galt.origins.foldl State.sendCredit s1

/-- SOUNDING_START (R462): in every tick n with n mod 1024 = 512, and during an enumeration, which TIME then ends. -/
def State.soundingStart (s : State) (trips : List Nat) : State :=
  if s.galtOn && s.role = 1 && (s.galt.soundDue || (s.tick.on && s.tick.counter.toNat % 1024 = 512)) then
    let s1 := (s.soundSegment trips).updGalt (fun g => { g with soundDue := false })
    if s.galt.soundDue then s1.sendTime else s1
  else s

/-- SOUND (R462). -/
def State.sound (s : State) (trips : List Nat) : State :=
  if s.galtOn && s.role = 2 && s.galt.state ≠ 3 then s.soundSegment trips else s

/-- DELAY_FRAME (R462): the new cable delay enters h at the next boundary. -/
def State.delayFrame (s : State) (hd : FrameHead) (cablePs : BitVec 32) : State :=
  s.galtFrame hd 4 (leBytes 4 cablePs.toNat) fun s =>
    let s1 := s.pass 4 hd (leBytes 4 cablePs.toNat)
    if s.mine hd then (s1.updGalt (fun g => { g with cableNext := some cablePs, gotDelay := true })).tryClose else s1

/-- A member's own number for a boundary of node 0 that lies `inst` ps after its t0: that of its own boundary nearest to it (R465). -/
def State.boundaryNumber (s : State) (inst : Int) : TickNo :=
  let k := roundEven (psCycles inst / s.tickLen)
  if 1 ≤ k then s.openNumber.1 + BitVec.ofInt 32 (k - 1) else s.tick.counter + BitVec.ofInt 32 k

/-- TICK_SYMBOL (R460, R461, R463): a member forwards TICK with the offset raised by h + r, and notes the advance applied. -/
def State.tickSymbol (s : State) (offset : BitVec 32) (residence : Nat) : State :=
  if s.galtOn && s.role = 2 then
    let h := s.galt.hop
    let s1 := if s.galt.state = 3 || s.netHalted then s else s.send (.galtTick (offset + h + BitVec.ofNat 32 residence))
    if s.tickCounts then s1.updGalt (fun g => { g with advance := h + offset }) else s1
  else s

/-- TIME_SEND (R465). -/
def State.timeSend (s : State) : State :=
  if s.galtOn && s.role = 1 && s.tick.on && s.tick.counter.toNat % 1024 = 0 then s.sendTime else s

/-- The delays of TIME enter 2D40h + a (R463). -/
def State.takeAdvances (s : State) (l : List (BitVec 32)) : State :=
  (s.updGalt (fun g => { g with
    advances := l, gotTime := true, nodes := g.nodes.map (fun e => (e.1, { e.2 with delay := l.getD e.1 0 })) })).tryClose

/-- The payload of TIME. -/
def timePayload (tick : TickNo) (epoch : BitVec 16) (l : List (BitVec 32)) : List Byte :=
  leBytes 4 tick.toNat ++ leBytes 2 epoch.toNat ++ [BitVec.ofNat 8 l.length] ++ l.flatMap (fun a => leBytes 4 a.toNat)

/-- A member whose own number for the boundary that TIME numbers differs from the one of TIME takes the master's plus one at its next
boundary (R465). Where boundaries of its own have passed since that one, its number goes on from the master's by as many ticks
(DEDUCED, log entry 87). -/
def State.adoptCounter (s : State) (tick : TickNo) (inst : Int) (epoch : BitVec 16) : State :=
  let own := s.boundaryNumber inst
  let now : BitVec 48 := (epoch ++ tick) + (s.tick.counter - own).signExtend 48
  if (s.tick.lock = .locked ∨ s.tick.lock = .acquiring) ∧ tick ≠ own then
    s.updGalt (fun g => { g with counterNext := some (now.setWidth 32, now.extractLsb' 32 16) })
  else s

/-- TIME_FRAME (R456, R463, R465): one of another origin at node 0, or to another node, goes on as every frame does. -/
def State.timeFrame (s : State) (hd : FrameHead) (tick : TickNo) (inst : Int) (epoch : BitVec 16) (l : List (BitVec 32)) : State :=
  s.galtFrame hd 3 (timePayload tick epoch l) fun s =>
    if s.role = 1 ∧ hd.org = 0 then s.takeAdvances l
    else if s.role ≠ 1 ∧ s.mine hd = true then
      let own := if s.addressed then l.set s.galt.addr.toNat s.galt.advance else l
      ((s.pass 3 hd (timePayload tick epoch own)).takeAdvances own).adoptCounter tick inst epoch
    else s.pass 3 hd (timePayload tick epoch l)

/-- The body of ACCESS and RESPONSE after the session: op, index, sub-index, and what follows. -/
def accessBody (write : Bool) (idx : BitVec 16) (sub : BitVec 8) (rest : List Byte) : List Byte :=
  [if write then 2 else 1] ++ leBytes 2 idx.toNat ++ [sub] ++ rest

/-- The payload of RESPONSE (R456): the status, then the value, or the abort code of a refusal. -/
def responsePayload (session : Byte) (write : Bool) (idx : BitVec 16) (sub : BitVec 8) (status : BitVec 16) (abort : BitVec 32)
    (data : List Byte) : List Byte :=
  session :: accessBody write idx sub (leBytes 2 status.toNat ++ (if status = 0 then data else leBytes 4 abort.toNat))

/-- The addressed node serves a relayed access as port G and answers (R435, R456, R466). -/
def State.serveAccess (s : State) (org : BitVec 8) (session originPort : Byte) (write : Bool) (idx : BitVec 16)
    (sub : BitVec 8) (data : List Byte) (cyc : Nat) : State :=
  if s.portServes .g then
    let via : Via := { port := .g, cyc := cyc, origin := originPort.toNat, node := org.toNat }
    let r : Nat × List Byte × State :=
      if write then
        let w := (s.at cyc).write via idx.toNat sub.toNat data false
        (w.1, [], w.2)
      else (s.at cyc).read via idx.toNat sub.toNat 1 false false
    r.2.2.galtSend 6 org.toNat (responsePayload session write idx sub (BitVec.ofNat 16 r.1) (BitVec.ofNat 32 (abortCode r.1)) r.2.1)
  else s

/-- ACCESS_FRAME. -/
def State.accessFrame (s : State) (hd : FrameHead) (session originPort : Byte) (write : Bool) (idx : BitVec 16)
    (sub : BitVec 8) (data : List Byte) (cyc : Nat) : State :=
  s.galtFrame hd 5 (session :: originPort :: accessBody write idx sub data) fun s =>
    let s1 := s.pass 5 hd (session :: originPort :: accessBody write idx sub data)
    if s.mine hd && !s.ownFrame hd then s1.serveAccess hd.org session originPort write idx sub data cyc else s1

/-- The relayed access of a session ends. -/
def State.endSession (s : State) (id : Byte) : State :=
  s.updGalt (fun g => { g with sessions := g.sessions.filter (fun q => q.id ≠ id) })

/-- The master passes a RESPONSE to the network; a late one is discarded (R467). -/
def State.response (s : State) (session : Byte) (status : BitVec 16) (abort : BitVec 32) (data : List Byte) : State :=
  match s.galt.sessions.find? (fun q => q.id = session) with
  | none => s
  | some q =>
    if status = 0 then (s.endSession session).answerUsdo q.node.toNat (if q.write then [] else data)
    else (s.endSession session).abortUsdo q.node.toNat abort.toNat

/-- RESPONSE_FRAME. -/
def State.responseFrame (s : State) (hd : FrameHead) (session : Byte) (write : Bool) (idx : BitVec 16) (sub : BitVec 8)
    (status : BitVec 16) (abort : BitVec 32) (data : List Byte) : State :=
  s.galtFrame hd 6 (responsePayload session write idx sub status abort data) fun s =>
    let s1 := s.pass 6 hd (responsePayload session write idx sub status abort data)
    if s.mine hd && !s.ownFrame hd then s1.response session status abort data else s1

/-- ACCESS_TIMEOUT (R467). -/
def State.accessTimeout (s : State) (session : Byte) : State :=
  match s.galt.sessions.find? (fun q => q.id = session) with
  | none => s
  | some q => ((s.endSession session).event 0x2d00 0 0).abortUsdo q.node.toNat 0x05040000

/-- The effect of an NMT command byte (R431). -/
def State.nmtByte (s : State) (command : Byte) : State :=
  match command.toNat with
  | 0x01 => s.setNmt .operational
  | 0x02 => s.setNmt .stopped
  | 0x80 => s.setNmt .preOperational
  | 0x81 => s.nmtReset
  | 0x82 => s.resetComm
  | _ => s

/-- GALTLINK_NMT_FRAME (R466). -/
def State.galtNmt (s : State) (hd : FrameHead) (command : Byte) : State :=
  s.galtFrame hd 0x0c [command] fun s =>
    let s1 := s.pass 0x0c hd [command]
    if s.role = 2 && s.mine hd && s.can.started then s1.nmtByte command else s1

/-- The relayed layout of a record (R471). `supply` holds byte 15. -/
def Rec.relay (r : Rec) (addr : BitVec 8) : Rec :=
  let tot : Bool := r.kind = 4
  { r with
    kind := 5
    word12 := if tot then r.word12 else (r.word12 &&& 0xf000) ||| (r.kind.setWidth 16 <<< 9) ||| (r.supply.setWidth 16 <<< 1)
    supply := (addr &&& 0x3f) ||| (if tot then 0x40 else 0) }

/-- The record that 16 relayed bytes hold, of an origin's serial. -/
def recOfRelayed (b : BitVec 128) (serial : BitVec 32) : Rec :=
  { kind := 5, val := b.extractLsb' 0 32, aux := b.extractLsb' 32 24
    stl := b.getLsbD 56, cal := b.getLsbD 57, sup := b.getLsbD 58, car := b.getLsbD 59, ovr := b.getLsbD 60
    tick := b.extractLsb' 64 32, word12 := b.extractLsb' 96 16, slot := b.extractLsb' 112 7, hold := b.getLsbD 119
    supply := b.extractLsb' 120 8, stamped := true, originSerial := serial }

/-- A member's stream of a ring. -/
def State.stream (s : State) (r : Nat) : StreamRt := tget (fun _ => {}) s.galt.streams r

/-- Writes a member's stream of a ring. -/
def State.setStream (s : State) (r : Nat) (x : StreamRt) : State :=
  s.updGalt (fun g => { g with streams := tput (fun _ => {}) g.streams r x })

/-- Whether a member streams ring r now (R468, R473). -/
def State.streams (s : State) (r : Nat) : Bool :=
  s.galtOn && s.role = 2 && s.galt.state = 2 && !s.netHalted && s.acfg (0x2500 + r) 3 = 2

/-- The next STREAM frame of ring r: up to four records after those sent, at most 16 of them unacknowledged (R468). -/
def State.streamNext (s : State) (r : Nat) : State :=
  let x := s.stream r
  let n := min 4 (min ((s.ring r).unread.length - x.sent) (16 - x.sent))
  let recs := ((s.ring r).unread.drop x.sent).take n
  if recs.isEmpty then s
  else
    (s.setStream r { x with sent := x.sent + n, taken := max x.taken (x.sent + n) }).galtSend 7 0
      (leBytes 1 r ++ leBytes 2 (x.seq + BitVec.ofNat 16 x.sent).toNat ++ recs.flatMap (fun q => (q.relay s.galt.addr).bytes))

/-- STREAM_SEND. -/
def State.streamSend (s : State) (r : Nat) : State := if s.streams r then s.streamNext r else s

/-- STREAM_RESEND (R468): from the oldest unacknowledged record. -/
def State.streamResend (s : State) (r : Nat) : State :=
  if s.streams r && (s.stream r).sent ≠ 0 then (s.setStream r { s.stream r with sent := 0 }).streamNext r else s

/-- What node 0 keeps for an origin and ring. -/
def State.origin (s : State) (serial : BitVec 32) (r : Nat) : OriginRt :=
  (s.galt.origins.find? (fun o => o.serial = serial && o.ring = r)).getD { serial := serial, ring := r, last := none, credits := 0 }

/-- Writes what node 0 keeps for an origin and ring. -/
def State.setOrigin (s : State) (o : OriginRt) : State :=
  s.updGalt (fun g => { g with origins := o :: g.origins.filter (fun p => !(p.serial = o.serial && p.ring = o.ring)) })

/-- Node 0 acknowledges a record (R469). -/
def State.ack (s : State) (org : BitVec 8) (r : Nat) (q : BitVec 16) : State :=
  s.galtSend 8 org.toNat (leBytes 1 r ++ leBytes 2 q.toNat)

/-- Node 0 judges one received record (R469, R477). -/
def State.judge (s : State) (org : BitVec 8) (serial : BitVec 32) (r : Nat) (q : BitVec 16) (b : BitVec 128) : State :=
  let o := s.origin serial r
  let inOrder := match o.last with
    | none => true
    | some l => q = l + 1
  if inOrder then
    if s.acfg (0x2500 + r) 1 ≠ 0 && s.acfg (0x2500 + r) 3 ≠ 2 && (s.ring r).takes then
      ((s.setRing r ((s.ring r).put (recOfRelayed b serial))).setOrigin { o with last := some q }).ack org r q
    else s
  else match o.last with
    | some l => if (l - q).toNat < 32768 then s.ack org r l else s
    | none => s

/-- The records of a STREAM frame, in order. -/
def State.judgeAll (s : State) (org : BitVec 8) (serial : BitVec 32) (r : Nat) (q : BitVec 16) : List (BitVec 128) → State
  | [] => s
  | b :: t => (s.judge org serial r q b).judgeAll org serial r (q + 1) t

/-- The payload of STREAM (R456). -/
def streamPayload (r : Nat) (q : BitVec 16) (recs : List (BitVec 128)) : List Byte :=
  leBytes 1 r ++ leBytes 2 q.toNat ++ recs.flatMap (fun b => leBytes 16 b.toNat)

/-- The payload of ACK and CREDIT (R456). -/
def countPayload (r : Nat) (x : BitVec 16) : List Byte := leBytes 1 r ++ leBytes 2 x.toNat

/-- STREAM_FRAME (R469). -/
def State.streamFrame (s : State) (hd : FrameHead) (r : Nat) (q : BitVec 16) (recs : List (BitVec 128)) : State :=
  s.galtFrame hd 7 (streamPayload r q recs) fun s =>
    let s1 := s.pass 7 hd (streamPayload r q recs)
    if s.role = 1 && s.mine hd && !s.ownFrame hd && (s.node hd.org.toNat).present then
      (s1.judgeAll hd.org (s.node hd.org.toNat).serial r q recs).ringEvents s
    else s1

/-- A member's records up to q become outstanding (R469). -/
def State.acked (s : State) (r : Nat) (q : BitVec 16) : State :=
  let x := s.stream r
  let n := (q - x.seq).toNat + 1
  if n ≤ x.taken then
    (s.setRing r ((s.ring r).take n)).setStream r { x with seq := q + 1, sent := x.sent - n, taken := x.taken - n }
  else s

/-- ACK_FRAME. -/
def State.ackFrame (s : State) (hd : FrameHead) (r : Nat) (q : BitVec 16) : State :=
  s.galtFrame hd 8 (countPayload r q) fun s =>
    let s1 := s.pass 8 hd (countPayload r q)
    if s.role = 2 && s.mine hd && !s.ownFrame hd && s.acfg (0x2500 + r) 3 = 2 then s1.acked r q else s1

/-- The increase of the cumulative count is a credit return by G (R258, R470). -/
def State.credited (s : State) (r : Nat) (count : BitVec 16) : State :=
  let x := s.stream r
  let n := (count - x.credit).toNat
  let s1 := s.setStream r { x with credit := count }
  if n = 0 then s1
  else if s.acfg (0x2500 + r) 3 ≠ 2 then s1.refusal 0x602 .g (key (0x2500 + r) 7) 0
  else if (s.ring r).outstanding.length < n then
    let s2 := s1.refusal 0x601 .g (key (0x2500 + r) 7) 0
    { s2 with ledger := { s2.ledger with overReturn := satInc s2.ledger.overReturn } }
  else s1.returnCredits r n

/-- CREDIT_FRAME. -/
def State.creditFrame (s : State) (hd : FrameHead) (r : Nat) (count : BitVec 16) : State :=
  s.galtFrame hd 9 (countPayload r count) fun s =>
    let s1 := s.pass 9 hd (countPayload r count)
    if s.role = 2 && s.mine hd && !s.ownFrame hd then s1.credited r count else s1

/-- BREAK_DETECTED (R472). -/
def State.breakDetected (s : State) : State :=
  if s.galtOn && !s.galt.detected then
    (s.updGalt (fun g => { g with state := 3, detected := true, broke := true, locked := false, breaks := satInc g.breaks })).event 0x2d00 7
      (satInc s.galt.breaks)
  else s

/-- BREAK_FRAME (R472). -/
def State.breakFrame (s : State) (hd : FrameHead) (addr : Byte) : State :=
  s.galtFrame hd 0x0a [addr] fun s =>
    if s.ownFrame hd then s else (s.updGalt (fun g => { g with state := 3 })).forward 0x0a hd [addr]

/-- CHARACTER_LOCK (R457, R474): node 0 enumerates, a member that detected the break sends RESTORED. -/
def State.characterLock (s : State) : State :=
  if s.galtOn && !s.galt.locked then
    let s1 := s.updGalt (fun g => { g with locked := true, detected := false })
    if s.role = 1 then s1.enumerate
    else if s.galt.detected then s1.galtSend 0x0b 0xff [s.galt.addr]
    else s1
  else s

/-- RESTORED_FRAME (R456, R457, R474): it goes on to the node that sent it; node 0 enumerates. -/
def State.restoredFrame (s : State) (hd : FrameHead) (addr : Byte) : State :=
  s.galtFrame hd 0x0b [addr] fun s =>
    let s1 := s.forward 0x0b hd [addr]
    if s.role = 1 then s1.enumerate else s1

/-- The link at a tick boundary: node 0 sends TICK, whose offset is the time to
the next start of a 50 ns character (R454, R460); a node that has detected a
break sends BREAK (R472); a new cable delay enters h (R462). -/
def State.galtBoundary (s : State) : State :=
  if s.galtOn then
    let s1 := match s.galt.cableNext with
      | some c => s.updGalt (fun g => { g with cableNext := none, hop := c + BitVec.ofNat 32 Config.receivePathPs })
      | none => s
    let s2 := if s.role = 1 && !s.netHalted then
        { s1.send (.galtTick (BitVec.ofNat 32 ((Config.freeWord s.draws).toNat % 50000))) with draws := s.draws + 1 }
      else s1
    if s.galt.detected then s2.galtSend 0x0a 0xff [s.galt.addr] else s2
  else s

/-- SOUNDING_START. -/
def execSoundingStart (trips : List Nat) (s : State) : Host.Outcome State Fault Refusal := s.run (·.soundingStart trips)
/-- TICK_SYMBOL. -/
def execTickSymbol (offset : BitVec 32) (residence : Nat) (s : State) : Host.Outcome State Fault Refusal :=
  s.run (·.tickSymbol offset residence)
/-- SOUND. -/
def execSound (trips : List Nat) (s : State) : Host.Outcome State Fault Refusal := s.run (·.sound trips)
/-- DELAY_FRAME. -/
def execDelayFrame (hd : FrameHead) (cablePs : BitVec 32) (s : State) : Host.Outcome State Fault Refusal :=
  s.run (·.delayFrame hd cablePs)
/-- ENUM_FRAME. -/
def execEnumFrame (hd : FrameHead) (count : BitVec 8) (entries : List EnumEntry) (s : State) : Host.Outcome State Fault Refusal :=
  s.run (·.enumFrame hd count entries)
/-- ENUMERATION_RETRY. -/
def execEnumerationRetry (s : State) : Host.Outcome State Fault Refusal := s.run State.enumRetry
/-- TABLE_FRAME. -/
def execTableFrame (hd : FrameHead) (entries : List EnumEntry) (s : State) : Host.Outcome State Fault Refusal :=
  s.run (·.tableFrame hd entries)
/-- TIME_SEND. -/
def execTimeSend (s : State) : Host.Outcome State Fault Refusal := s.run State.timeSend
/-- TIME_FRAME. -/
def execTimeFrame (hd : FrameHead) (tick : NumberedBoundary) (epoch : BitVec 16) (advances : List (BitVec 32)) (s : State) :
    Host.Outcome State Fault Refusal := s.run (·.timeFrame hd tick.tick tick.inst epoch advances)
/-- ACCESS_FRAME. -/
def execAccessFrame (hd : FrameHead) (session originPort : Byte) (write : Bool) (idx : BitVec 16) (sub : BitVec 8)
    (data : List Byte) (cyc : Nat) (s : State) : Host.Outcome State Fault Refusal :=
  s.run (·.accessFrame hd session originPort write idx sub data cyc)
/-- RESPONSE_FRAME. -/
def execResponseFrame (hd : FrameHead) (access : RelayedAccess) (status : BitVec 16) (abort : BitVec 32) (data : List Byte)
    (s : State) : Host.Outcome State Fault Refusal :=
  s.run (·.responseFrame hd access.session access.write access.idx access.sub status abort data)
/-- ACCESS_TIMEOUT. -/
def execAccessTimeout (session : Byte) (s : State) : Host.Outcome State Fault Refusal := s.run (·.accessTimeout session)
/-- GALTLINK_NMT_FRAME. -/
def execGaltlinkNmtFrame (hd : FrameHead) (command : Byte) (s : State) : Host.Outcome State Fault Refusal :=
  s.run (·.galtNmt hd command)
/-- STREAM_SEND. -/
def execStreamSend (ring : BitVec 8) (s : State) : Host.Outcome State Fault Refusal := s.run (·.streamSend ring.toNat)
/-- STREAM_RESEND. -/
def execStreamResend (ring : BitVec 8) (s : State) : Host.Outcome State Fault Refusal := s.run (·.streamResend ring.toNat)
/-- STREAM_FRAME. -/
def execStreamFrame (hd : FrameHead) (ring : BitVec 8) (seq : BitVec 16) (recs : List (BitVec 128)) (s : State) :
    Host.Outcome State Fault Refusal := s.run (·.streamFrame hd ring.toNat seq recs)
/-- ACK_FRAME. -/
def execAckFrame (hd : FrameHead) (ring : BitVec 8) (seq : BitVec 16) (s : State) : Host.Outcome State Fault Refusal :=
  s.run (·.ackFrame hd ring.toNat seq)
/-- CREDIT_FRAME. -/
def execCreditFrame (hd : FrameHead) (ring : BitVec 8) (count : BitVec 16) (s : State) : Host.Outcome State Fault Refusal :=
  s.run (·.creditFrame hd ring.toNat count)
/-- BREAK_DETECTED. -/
def execBreakDetected (s : State) : Host.Outcome State Fault Refusal := s.run State.breakDetected
/-- BREAK_FRAME. -/
def execBreakFrame (hd : FrameHead) (addr : Byte) (s : State) : Host.Outcome State Fault Refusal := s.run (·.breakFrame hd addr)
/-- CHARACTER_LOCK. -/
def execCharacterLock (s : State) : Host.Outcome State Fault Refusal := s.run State.characterLock
/-- RESTORED_FRAME. -/
def execRestoredFrame (hd : FrameHead) (addr : Byte) (s : State) : Host.Outcome State Fault Refusal :=
  s.run (·.restoredFrame hd addr)

end Sys2Proof.Machine
end

