-- ==== Sys2Proof/Machine/Boundary.lean ====
section
/-! DEFINITION. The instants of a tick (chapter 01): the boundary with all it brings about, the opening of tick 0, body and
guard window, half tick, and the latch of the TRIG pin. -/
namespace Sys2Proof.Machine
open Sys2Proof

/-- The tick that ends: instants kept relative to its t0 are counted from the new one. Events latched at or after the boundary
(R53) stay on their way. -/
def State.closeTick (s : State) : State :=
  let c := s.tickSpan
  let s1 := [0, 1, 2, 3].foldl (State.outTickOver c) s
  let s2 := (totSlots s.active).foldl
    (fun acc n => acc.updSlot n (fun r => { r with totSince := r.totSince.map (· + (c : Int)) })) s1
  { s2 with
    slots := tmapVals (fun _ => {}) (fun _ r => { r with guardDone := none }) s2.slots
    lanes := tmapVals (fun _ => {}) (fun l r => LaneRt.tickOver l c r) s2.lanes
    com := { s2.com with verdictAt := s2.com.verdictAt - (c : Int) }
    sense := { s2.sense with swaps := s2.sense.swaps.map (fun w => (w.1, w.2 - (c : Int))) }
    pow := { s2.pow with reqAt := s2.pow.reqAt - (c : Int) }
    lock := s2.lock.tickOver (c / 8)
    mons := tmapVals (fun _ => {}) (fun _ r => r.tickOver c) s2.mons
    tick := { s2.tick.shift s.tickLen (interval s.active) with
      latches := s2.tick.latches.map (fun k => (k.1 - c, k.2)), starts := [], grid := (s2.tick.grid + c / 8) % 32 } }

/-- The step of a GaltLink member's counter at this boundary, in ticks (R465). -/
def State.counterStep (s : State) : Int :=
  match s.galt.counterNext with
  | some (m, _) => (m - s.tick.counter).toInt
  | none => 0

/-- Armed phase resets that have been reached keep their distance over a counter step (R332, R465). -/
def State.moveResets (s : State) : State :=
  match s.galt.counterNext with
  | some (m, _) =>
    { s with
      gens := tmapVals (fun _ => {}) (fun _ r => if r.armed && r.again then { r with next := r.next + (m - s.tick.counter) } else r) s.gens
      galt := { s.galt with counterNext := none } }
  | none => s

/-- The tick machinery at the boundary that opens a tick (R13, R17–R19, R29–R35): HOLDOVER and ADRIFT are counted, the
transition decided takes effect, then what an activation or a resumption brings, then a stretch. -/
def TickSt.step (t : TickSt) (num : TickNo × BitVec 16) (old new : Tbl Nat) (act resume : Bool) : TickSt :=
  let drifts := t.lock = .holdover || t.lock = .adrift
  let t1 := { t with
    on := true, counter := num.1, epoch := num.2, part := .prologue, cyc := 0, tickout := true
    holdover := if drifts then satInc t.holdover else t.holdover }
  let t2 := t1.transition new
  let t3 := if act then t2.activation old new else t2
  let t4 := if resume then t3.resume new else t3
  t4.openStretch.countHold t.lock.hold

/-- The tick opened enters the history that its records share (R31, R250); event records taken for it already count (R82). -/
def TickSt.enter (t : TickSt) : TickSt :=
  { t with
    hist := ({ tick := t.counter, hold := t.lock.hold, touchEvents := t.touchNext } :: t.hist).take 262144
    touchNext := 0 }

/-- Whether a passed commit becomes active at the boundary just reached: the verdict lies at least 10 µs back (R99). -/
def State.activationDue (s : State) : Bool := s.com.result = 2 && decide (s.com.verdictAt * 1000 ≤ -491520)

/-- Whether any of some sub-indexes of an object has changed. -/
def chg (ch : List Nat) (idx : Nat) (subs : List Nat) : Bool := changedIn ch idx (subs.contains ·)

/-- The slots enabled in either of two copies. -/
def slotsEither (old new : Tbl Nat) : List Nat := slotsOf old ++ (slotsOf new).filter (fun n => !(slotsOf old).contains n)

/-- Whether an activation restarts the event count of slot n: it enables the slot or changes its source or divider (R54, R64). -/
def recounts (old new : Tbl Nat) (ch : List Nat) (n : Nat) : Bool :=
  (slotCfg old n 1 = 0 && slotCfg new n 1 ≠ 0) || chg ch (0x2180 + n) [11, 12]

/-- What an activation does to the measuring state of slot n, enabled or not (R157, R159, R162, R210, R231, R235). -/
def SlotRt.activation (r : SlotRt) (old new : Tbl Nat) (ch : List Nat) (n : Nat) : SlotRt :=
  let aff := slotAffected old new ch n
  let strong := slotAffected old new (ch.filter (· ≠ slotKey n 1)) n
  { r with
    filt := if aff then {} else r.filt
    prev := if aff then none else r.prev
    leads := if strong then [] else r.leads
    lasts := []
    undefSeen := false
    fresh := r.fresh || aff }

/-- Whether an activation changes what lane l measures for its slot (R205). -/
def reconnects (old new : Tbl Nat) (ch : List Nat) (l : Nat) : Bool :=
  match dedSlot new l with
  | none => false
  | some n =>
    let e := slotCfg new n 7
    let r := slotCfg new n 6
    chg ch (0x2200 + l) [1] || decide (dedSlot old l ≠ some n) || chg ch (0x2180 + n) [1, 2, 3, 4, 5, 6, 7, 8] ||
      changedIn ch (0x2300 + slotProf old n) || changedIn ch (0x2300 + slotProf new n) ||
      (e ≠ 0xff && changedIn ch (0x2140 + e) (fun b => b ≠ 11 && b ≠ 12)) ||
      ((r = 1 || r = 2) && changedIn ch 0x2210)

/-- Connects the lanes that measure for lane l: the one that delivers, and both of an overlap. `c` is the kind of connection. -/
def State.reconnect (s : State) (l : Nat) (c : LaneRt → LaneRt := LaneRt.rejoin) : State :=
  let f := fun (acc : State) p => if (acc.lane p).faulted then acc else acc.updLane p c
  match s.quad.overlap with
  | some o => if o.lane = l then f (f s l) 4 else f s (s.deliverer l)
  | none => f s (s.deliverer l)

/-- The half-period samples of the lanes that measure for slot n are dropped: the first record after is unpaired (R159). -/
def State.dropHalves (s : State) (n : Nat) : State :=
  { s with lanes := tmapVals (fun _ => {}) (fun l r =>
      if (s.laneFor l).bind (dedSlot s.active) = some n then { r with plus := none, minus := none } else r) s.lanes }

/-- Lane l at an activation (R50, R159, R205, R206, R210): it connects and aligns, aligns, empties its history, or is left. -/
def State.laneActivation (old new : Tbl Nat) (ch : List Nat) (s : State) (l : Nat) : State :=
  match dedSlot new l with
  | none =>
    if (dedSlot old l).isSome then
      let s1 := s.updLane l (fun r => { r.disconnect with takeover := false })
      if s.quad.serving = some l then s1.updLane 4 LaneRt.disconnect else s1
    else s
  | some n =>
    if reconnects old new ch l then
      let s1 := (s.align l).updLane l (fun r => { r with takeover := false })
      let runs := s1.lanesRun && (!(s1.lane (s1.deliverer l)).faulted || s1.rescued l)
      let s1 := if dedSlot old l = some n then s1 else s1.updSlot n (fun r => { r with ovrAcc := false })
      let s2 := if profCfg new (slotProf new n) 8 = 1 then s1.updSlot n (SlotRt.totRestart · runs) else s1
      if s2.lanesRun then s2.reconnect l (if dedSlot old l = some n then LaneRt.rejoin else LaneRt.connect) else s2
    else
      let s1 := if tickN old ≠ tickN new then s.align l else s
      if slotAffected old new ch n then (s1.emptyFilter n).dropHalves n else s1

/-- The lead entry .0B of a source changes at an activation: no record of its lead slot formed before gives it xL (R162). -/
def State.leadChange (ch : List Nat) (s : State) (e : Nat) : State :=
  if chg ch (0x2140 + e) [11] then
    s.updSource e (fun r => { r with staleLeads := (s.slot (s.acfg (0x2140 + e) 11)).leads })
  else s

/-- What an activation does to slots and lanes once the deliveries at its boundary have been formed under the outgoing copy (R99,
R162, R231, R235, R244). -/
def State.activateLanes (old : Tbl Nat) (ch : List Nat) (s : State) : State :=
  [0, 1, 2, 3].foldl (State.laneActivation old s.active ch) ((List.range 8).foldl (State.leadChange ch)
    { s with slots := tmapVals (fun _ => {}) (fun n r => r.activation old s.active ch n) s.slots })

/-- A ring whose records a TPDO or a stream carries is handed out again (R266, R267): frames queued take no credit, and a
stream starts after the records that have taken an origin SEQ (R468). -/
def State.ringCut (s : State) (r : Nat) : State :=
  let x := s.stream r
  let s1 := { s with can := { s.can with
    tpdo := tmapVals (fun _ => {}) (fun _ t => { t with queued := t.queued.map (fun q => if q.1 = r then (q.1, 0, q.2.2) else q) }) s.can.tpdo } }
  if x.taken = 0 then s1 else s1.setStream r { x with seq := x.seq + BitVec.ofNat 16 x.taken, sent := 0, taken := 0 }

/-- Ring r at an activation (R266, R267). -/
def State.ringActivation (ch : List Nat) (s : State) (r : Nat) : State :=
  if chg ch (0x2500 + r) [1, 2] then (s.ringReset r).ringCut r
  else if chg ch (0x2500 + r) [3] then (s.setRing r (s.ring r).reconsume).ringCut r
  else s

/-- Whether an activation restarts element i (R285, R299): enable, pins, mode, thresholds or β changed; for a press channel its
slot stands for the pins. The wake threshold .0E is one of the thresholds (DEDUCED, log entry 86). -/
def elemRestarts (ch : List Nat) (i : Nat) : Bool :=
  if i < 32 then chg ch (elemIndex i) [1, 2, 3, 4, 6, 7, 9, 14] else chg ch (elemIndex i) [1, 2, 3, 4, 6]

/-- Elements, plug groups, monitors and outputs at an activation (R285, R291, R299, R311, R315, R327, R328). -/
def State.ioActivation (old : Tbl Nat) (ch : List Nat) (s : State) : State :=
  let els := (List.range 24 ++ (List.range 16).map (32 + ·)).filter (elemRestarts ch)
  let s1 := els.foldl (fun acc i => acc.updElem i (fun r => { b := r.b })) s
  let s2 := ((List.range 8).filter (fun g => chg ch (0x2740 + g) [1])).foldl
    (fun acc g => acc.updPlug g (fun r => { changes := r.changes })) s1
  let s3 := ((List.range 16).filter (fun m => chg ch (0x2800 + m) [1, 2, 3, 7])).foldl
    (fun acc m => acc.updMonitor m MonRt.restart) s2
  let s3f := ((List.range 16).filter (fun m => chg ch (0x2800 + m) [8] && (s3.monitor m).faulted)).foldl State.monForce s3
  let s3d := ((List.range 16).filter (fun m => chg ch (0x2800 + m) [1, 2, 3, 7])).foldl
    (fun acc m => acc.dacsMoved m (({ s with active := old } : State).codes m) 0) s3f
  let s4 := ([0, 1, 2, 3].filter (fun n => chg ch (0x2900 + n) [1, 2, 3, 4])).foldl State.outRestart s3d
  ([0, 1, 2, 3].filter (fun g => cfg old (0x2910 + g) 1 = 0 && s.acfg (0x2910 + g) 1 = 1)).foldl State.genStart s4

/-- Whether an activation touches the lane of an overlap in progress (R187). -/
def overlapHit (old new : Tbl Nat) (ch : List Nat) (l : Nat) : Bool :=
  chg ch (0x2200 + l) [1] ||
    (slotsEither old new).any (fun n => (slotLane old n = l || slotLane new n = l) && slotAffected old new ch n)

/-- What 2002h and 2003h take at an activation that answers a commit request (R87, R95, R99, R100). -/
def CommitSt.activated (c : CommitSt) (t : TickNo) (new : Tbl Nat) (ch : List Nat) : CommitSt :=
  { c with result := 3, frozen := none, dirty := false, tick := t, commits := satInc c.commits, report := schedule new ch }

/-- The slots' part of an activation (R112, R113): affected slots' triggers are resolved CONFIG-CHANGE, for the target ring of
the outgoing configuration. -/
def State.resolveAffected (s : State) (old new : Tbl Nat) (ch : List Nat) : State :=
  ((slotsEither old new).filter (slotAffected old new ch)).foldl
    (fun acc n => acc.resolveSlot n .configChange id (some (slotCfg old n 10))) s

/-- An overlap at an activation from the copy `old` (R187). -/
def State.overlapActivation (old : Tbl Nat) (ch : List Nat) (s : State) : State :=
  match s.quad.overlap with
  | some o => if overlapHit old s.active ch o.lane then s.dropOverlap else s
  | none => s

/-- A one-shot self-calibration at an activation from the copy `old`: a slot enabled on its lane ends it (R363). -/
def State.oneShotActivation (old : Tbl Nat) (s : State) : State :=
  if s.cal.run = some CalKind.self ∧ (slotsOn s.active s.cal.lane).any (fun n => !(slotsOn old s.cal.lane).contains n) = true then
    s.verdict .aborted 4
  else s

/-- An activation (R99, R112–R116, R187, R363, R431): the frozen copy becomes the active copy in one step, and everything
that follows from what changed. -/
def State.activate (s : State) (new : Tbl Nat) : State :=
  let old := s.active
  let ch := changes old new
  let was := s.role
  let s1 := s.flush.resolveAffected old new ch
  let s2 := { s1 with active := new, com := s1.com.activated s.tick.counter new ch }
  let s3 := ((slotsEither old new).filter (recounts old new ch)).foldl
    (fun acc n => acc.updSlot n (fun r => { r with events := 0 })) (s2.overlapActivation old ch)
  let s4 := (List.range 256).foldl (State.ringActivation ch) (s3.quadOff old)
  let s5 := (s4.ioActivation old ch).oneShotActivation old
  (if chg ch 0x2c01 [1, 2, 3] then s5.canBoot else s5).galtRole was

/-- Pins whose fault has ended close their switches, and dedicated lanes whose input closes connect anew (R144, R205). -/
def State.closePins (s : State) : State :=
  let back := (s.pins.filter (fun e => e.2.left)).map (·.1)
  let s1 := { s with pins := tmapVals (fun _ => {}) (fun _ p => p.close) s.pins }
  [0, 1, 2, 3].foldl (fun acc l => match dedSlot acc.active l with
    | some n =>
      if acc.lanesRun && (back.contains (slotCfg acc.active n 3) || back.contains (slotCfg acc.active n 4)) then acc.reconnect l else acc
    | none => acc) s1

/-- Absence is decided for an enabled slot; it ends a calibration of the slot (R293, R353). -/
def State.absence (s : State) (n : Nat) : State :=
  let s1 := s.absenceBoundary n
  if (s1.slot n).absent then s1.calOpen n else s1

/-- The every-tick and every-k-ticks triggers of the tick opened (R16, R54). -/
def State.tickTriggers (s : State) : State :=
  if s.pow.noTrig then s
  else ((slotsWith s.active [0]).filter (fun n => s.tick.counter.toNat % slotCfg s.active n 12 = 0)).foldl
    (fun acc n => acc.accept n s.tick.counter) s

/-- The SYNC frames received since the previous prologue are events now (R57). -/
def State.syncTriggers (s : State) : State :=
  let s1 := { s with tick := { s.tick with syncs := 0 } }
  (List.range s.tick.syncs).foldl
    (fun acc _ => (slotsWith acc.active [4]).foldl (State.slotEvent · acc.tick.counter) acc) s1

/-- Whether a pending bank swap takes effect at this boundary (R216). -/
def State.swapDue (s : State) (w : Nat × Int) : Bool :=
  decide (w.2 * 1000 ≤ -491520) && [0, 1, 2, 3].all fun l => match dedSlot s.active l with
    | some n => slotProf s.active n ≠ w.1 || (s.lane l).delivIn = 0
    | none => true

/-- The bank swaps of this boundary (R217). -/
def State.bankSwaps (s : State) : State :=
  let due := s.sense.swaps.filter s.swapDue
  { s with sense := { s.sense with
      bank := due.foldl (fun b w => b ^^^ BitVec.ofNat 16 (2 ^ w.1)) s.sense.bank
      swaps := s.sense.swaps.filter (fun w => !s.swapDue w)
      swapCount := satAdd s.sense.swapCount due.length } }

/-- The totaliser clears of this boundary (R222). -/
def State.totClears (s : State) : State :=
  let ps := s.sense.totClear
  ((totSlots s.active).filter (fun n => ps.contains (slotProf s.active n))).foldl
    (fun acc n => acc.updSlot n (fun r => { r with sum := 0, epoch := 0, restarts := r.restarts + 1 }))
    { s with sense := { s.sense with totClear := [] } }

/-- Before the deliveries of a boundary (R50, R158, R179, R284, R291, R352): a requested calibration starts, deliveries, phases,
plug holds and timers are counted, half-periods close. -/
def State.beforeDeliveries (s : State) : State :=
  let s0 := ({ s with cal := s.cal.boundary }).calOverlap
  let s1 := ([0, 1, 2, 3].foldl State.countDelivery s0).quadCount
  let s2 := (elementsOn s1.active).foldl State.elemOpen ((plugsOn s1.active).foldl State.plugBoundary s1)
  ([0, 1, 2, 3].foldl State.closeHalves s2).runSamples

/-- Deliveries of the boundary under the outgoing copy, and the comparison of an overlap (R50, R99, R182). -/
def State.takeDeliveries (s : State) : State := ([0, 1, 2, 3].foldl (fun acc l => acc.deliver acc.active l) s).compare

/-- Lanes that deliver to triggers latched at the boundary just reached (R50, R99): those that have not delivered, with the same
dedicated slot in the outgoing copy `a` and the active one. -/
def State.secondLanes (s : State) (a : Tbl Nat) (served : List Nat) : List Nat :=
  [0, 1, 2, 3].filter fun l => !served.contains l && decide (dedSlot a l = dedSlot s.active l)

/-- What follows the activation at every boundary: absence, lane substitution, the triggers latched at t0, the deliveries they find,
the switches and sources, which up to then stand as they did before the boundary, and after an activation with changes `ch` the
slots and lanes anew; `a` is the outgoing copy and `served` the lanes that have delivered (R16, R50, R99, R144, R154, R189, R283,
R293). -/
def State.prologue (s : State) (a : Tbl Nat) (served : List Nat) (ch : Option (List Nat)) : State :=
  let s1 := ((slotsOf s.active).foldl State.absence s).takeOver
  let s2 := ((List.range 5).foldl State.clearBoundary s1).quadMove
  let s3 := (((elementsOn s2.active).foldl State.elemBoundary s2).tickTriggers.syncTriggers).latchTo 0
  let s4 := ((s3.secondLanes a served).foldl (fun acc l => acc.deliver a l) s3).calWhey
  let s5 := (List.range 8).foldl State.sourceBoundary s4.closePins
  match ch with
  | some c => s5.activateLanes a c
  | none => s5

/-- What ends the work of every boundary: bank swaps, totaliser clears, a calibration's coefficient, stores, monitors and
outputs, the ledger snapshot, GaltLink (R216, R222, R265, R311, R326, R357, R374, R460). -/
def State.boundaryTail (s : State) (coef : Option (Nat × Bool × Nat)) : State :=
  let s1 := s.bankSwaps.totClears
  let s2 := match coef with
    | some k => s1.applyCoef k
    | none => s1
  let s3 := (List.range 16).foldl State.monBoundary s2.storeBegin
  let s4 := ([0, 1, 2, 3].foldl State.outBoundary s3).ledgerSnapshot
  { s4 with can := { s4.can with shortRpdo := false } }.galtBoundary

/-- The tick machinery, the counter and the history at a boundary (R16, R19, R465). -/
def State.openTick (s : State) (new : Tbl Nat) (act resume : Bool) : State :=
  let s1 := s.moveResets
  { s1 with tick := (s.tick.step s.openNumber s.active new act resume).enter }

/-- The markers and the ADRIFT event of the boundary that ended tick state `t` (R30, R34, R37). -/
def State.boundaryMarkers (s : State) (t : TickSt) (step : Int) : State :=
  let drift := s.tick.lock = .adrift && t.lock ≠ .adrift
  let st := if t.stretch = 0 then [] else [roundEven t.stretch]
  let s1 := if drift then s.event 0x2001 1 4 else s
  s1.tickMarkers t.lock.hold (st ++ if step = 0 then [] else [step]) drift (s.tick.counter = 0)

/-- Whether a lane's slot still has a running trigger: one its queue gave it, latched before this boundary (R50, R58). -/
def State.slotRuns (s : State) (n : Option Nat) : Bool :=
  match n with
  | some k => (s.slot k).run.isSome
  | none => false

/-- A tick boundary (R16). `resume` says that the tick has stood still before it (R135, R499). -/
def State.boundary (s : State) (resume : Bool) : State :=
  let s0 := (s.latchTo (s.tickCycles - 1)).flush.closeTick
  let act := s0.activationDue
  let a := s0.active
  let new := if act then s0.com.frozen.getD s0.shadow else a
  let s1 := (s0.openTick new act resume).clearStops.powerBoundary
  let s2 := s1.beforeDeliveries
  let s3 := s2.takeDeliveries
  let s4 := if act then s3.activate new else s3
  let served := [0, 1, 2, 3].filter (fun l => s2.serves a l && s4.slotRuns (dedSlot a l))
  let s5 := if !s0.lanesRun && s4.lanesRun then s4.connectAll else s4
  let s6 := (s5.boundaryMarkers s0.tick s0.counterStep).prologue a served (if act then some (changes a new) else none)
  (s6.boundaryTail s.cal.coef).ringEvents s

/-- TICK_BOUNDARY (R16). -/
def State.tickBoundary (s : State) : State := if s.boundaryDue then s.boundary (!s.tick.on) else s

/-- Every ring starts in the layout of the active copy (R266, R273). -/
def State.layRings (s : State) : State :=
  (0 :: ringsOf s.active).foldl (fun acc r => acc.setRing r { free := acc.acfg (0x2500 + r) 1 }) s

/-- The tick and the commit machinery as tick 0 opens (R18, R29, R87, R121). -/
def State.firstTick (s : State) : State :=
  let new := if s.com.startOk then s.com.startCfg else []
  let t0 := { s.tick with on := true, counter := 0, epoch := 0, part := .prologue, cyc := 0, tickout := true }
  { s with
    boot := .running, active := new
    tick := ((({ t0 with grid := 0 } : TickSt).activation [] new).countHold false).enter
    com := { s.com with dirty := decide (s.shadow ≠ new), report := schedule new (changes [] new) } }

/-- TICK_ZERO (R121, R490): the boundary that opens tick 0. Requests served before it take effect there (R494, R496). -/
def State.tickZero (s : State) : State :=
  if s.boot = .checked && s.clk.pll = 2 && !s.clockFault then
    let s0 := s.closeTick.firstTick.clearStops.powerBoundary.layRings
    let s1 := [0, 1, 2, 3].foldl State.align ([0, 1, 2, 3].foldl State.outStart s0)
    let s2 := (if s1.lanesRun then s1.connectAll else (totSlots s1.active).foldl State.totStop s1).canBoot
    let s3 := ((s2.galtRole 0).eraseSpare.tickMarkers false [] false false).prologue s1.active [] none
    (s3.boundaryTail none).ringEvents s
  else s

/-- WAKE_RETURN (R313, R338, R493, R499): the boundary that ends STANDBY. -/
def State.wakeReturn (s : State) : State :=
  if s.pow.state = .standby && s.pow.wakePin then
    let doze := decide (s.pow.resume = .doze)
    let s1 : State := { s with
      pow := { s.pow with state := s.pow.resume, lastWake := s.pow.wakeSrc, wakePin := false, noTrig := doze, lanesOff := doze }
      clk := { s.clk with pll := 2 } }
    let s2 := ([0, 1, 2, 3].foldl State.outResume s1).boundary true
    let s3 := (monitorsOn s2.active).foldl State.monResume s2
    if s3.sup.shutDue then ({ s3 with sup := { s3.sup with shutDue := false } }).thermalStop else s3
  else s

/-- BODY_OPEN (R13, R47): conversions may start from edge 12 on. -/
def State.bodyOpen (s : State) : State :=
  if s.tick.on && s.tick.part = TickPart.prologue then
    (({ s with tick := { s.tick with part := .body } }).at 96).startAll 12
  else s

/-- HALF_TICK (R17): TICKOUT falls ⌊N/2⌋ modulator cycles after t0. -/
def State.halfTick (s : State) : State :=
  if s.tick.on && s.tick.tickout then
    ({ s with tick := { s.tick with tickout := false } }).at (8 * (tickN s.active / 2))
  else s

/-- GUARD_WINDOW_OPEN (R13, R74, R75, R262, R532): what is latched before it is accepted, waiting triggers are judged, then what is
latched at it is accepted for the next tick, and the epilogue is written, with what all of these have resolved. -/
def State.guardWindow (s : State) : State :=
  if s.tick.on && s.tick.part ≠ TickPart.guard then
    let s0 := (s.latchTo (s.guardOpen - 1)).startsBefore s.guardOpen
    let s1 := ({ s0 with tick := { s0.tick with part := .guard } }).clockAt s.guardOpen
    (((slotsOf s1.active).foldl State.expireSlot s1).latchTo s.guardOpen).epilogue.ringEvents s
  else s

/-- RECORD_STORE (R83, R255, R259). -/
def State.recordStore (s : State) : State := s.storeOldest.ringEvents s

/-- TRIG_EDGE (R53, R56): an edge at the pin is latched three cycles later, for the slots of its direction that are enabled then
(R115). -/
def State.trigEdge (s : State) (rising : Bool) (cyc : Nat) : State :=
  if s.tick.on then (s.at cyc).willLatch (if rising then [1, 3] else [2, 3]) (cyc + 3) else s

/-- CLOCK_FAULT with the transmission events of the whey it writes (R131, R259). -/
def State.clockFaultAll (s : State) (cause : ClockCause) (cyc : Nat) : State := (s.clockFaultIn cause cyc).ringEvents s

/-- TICK_BOUNDARY. -/
def execTickBoundary (s : State) : Host.Outcome State Fault Refusal := s.run State.tickBoundary
/-- TICK_ZERO. -/
def execTickZero (s : State) : Host.Outcome State Fault Refusal := s.run State.tickZero
/-- BODY_OPEN. -/
def execBodyOpen (s : State) : Host.Outcome State Fault Refusal := s.run State.bodyOpen
/-- HALF_TICK. -/
def execHalfTick (s : State) : Host.Outcome State Fault Refusal := s.run State.halfTick
/-- GUARD_WINDOW_OPEN. -/
def execGuardWindowOpen (s : State) : Host.Outcome State Fault Refusal := s.run State.guardWindow
/-- TRIG_EDGE. -/
def execTrigEdge (rising : Bool) (cyc : Nat) (s : State) : Host.Outcome State Fault Refusal := s.run (·.trigEdge rising cyc)
/-- RECORD_STORE. -/
def execRecordStore (s : State) : Host.Outcome State Fault Refusal := s.run State.recordStore
/-- CLOCK_FAULT. -/
def execClockFault (cause : ClockCause) (cyc : Nat) (s : State) : Host.Outcome State Fault Refusal :=
  s.run (·.clockFaultAll cause cyc)
/-- WAKE_RETURN. -/
def execWakeReturn (s : State) : Host.Outcome State Fault Refusal := s.run State.wakeReturn

end Sys2Proof.Machine
end

