-- ==== Sys2Proof/Machine/Ports.lean ====
section
/-! DEFINITION. The SPI port and the service port: frames, responses, rejection (R421–R427, R450). -/
namespace Sys2Proof.Machine
open Sys2Proof

/-- A request of R422. -/
structure Req where
  op    : Nat
  tag   : Byte
  idx   : Nat
  sub   : Nat
  count : Nat
  data  : List Byte
  deriving DecidableEq, Repr

/-- What the bytes of a frame are (R422, R426): no request, one rejected for its form, one with a wrong CRC, or a request. -/
inductive Framed where
  | none | form | crc
  | req (r : Req)
  deriving DecidableEq, Repr

/-- The counts an op admits (R422); none for an op that is not one of the table. -/
def opCounts : Nat → Option (Nat × Nat)
  | 1 => some (0, 0) | 2 => some (1, 32) | 3 => some (1, 16) | 5 => some (0, 0) | _ => none

/-- Bytes of a request before its CRC. -/
def reqLength (op count : Nat) : Nat := if op = 2 then 6 + count else 6

/-- The request that bytes of known op, count range and length hold, where their CRC matches. -/
def reqOf (b : List Byte) (op count : Nat) : Framed :=
  let n := reqLength op count
  if b.length ≤ n then .form
  else if crc8 (b.take n) ≠ b.getD n 0 then .crc
  else .req { op := op, tag := b.getD 1 0, idx := leNum ((b.drop 2).take 2), sub := (b.getD 4 0).toNat, count := count,
              data := (b.drop 6).take (if op = 2 then count else 0) }

/-- The frame that bytes are (R422, R426). `none00` says that op 00h means no request; on the service port it is not
allowed (R427). -/
def frameOf (none00 : Bool) (b : List Byte) : Framed :=
  match b with
  | [] => .none
  | o :: _ =>
    if none00 ∧ o = 0 then .none
    else if 300 < b.length then .form
    else match opCounts o.toNat with
      | none => .form
      | some r =>
        let count := (b.getD 5 0).toNat
        if b.length < 6 then .form
        else if count < r.1 ∨ r.2 < count then .form
        else reqOf b o.toNat count

/-- Bytes 1 to 6 + Lr of a response (R424). -/
def responseBytes (tag : Byte) (status : Nat) (data : List Byte) : List Byte :=
  let body := tag :: (leBytes 2 status ++ leBytes 2 data.length ++ data)
  body ++ [crc8 body]

/-- The port status byte (R424). -/
def State.portStatus (s : State) (resp busy rej : Bool) : Byte :=
  BitVec.ofNat 8 (5 + 128 * bit resp + 64 * bit busy + 32 * bit rej + 16 * bit s.intA + 8 * bit s.intB)

/-- The access of a request of op 01h, 02h or 03h: status, data and the state after it (R422, R425). -/
def State.reqAccess (s : State) (via : Via) (r : Req) : Nat × List Byte × State :=
  if r.op = 2 then
    let w := s.write via r.idx r.sub r.data false
    (w.1, [], w.2)
  else s.read via r.idx r.sub (if r.op = 3 then r.count else 1) (decide (r.op = 3)) false

/-- An accepted request executes (R425, R450): the response it leaves, and the state. Op 05h repeats the last consumed
response; with none consumed there is none to return. -/
def State.execReq (s : State) (via : Via) (last : Option (List Byte)) (r : Req) : Option (List Byte) × State :=
  if r.op = 5 then (last, s)
  else
    let a := s.reqAccess via r
    (some (responseBytes r.tag a.1 a.2.1), a.2.2)

/-- A frame has been judged (R426): counts and REJ. -/
def FramePort.judged (p : FramePort) (f : Framed) (held : Bool) : FramePort :=
  match f with
  | .none => { p with rej := false, frames := satInc p.frames }
  | .form => { p with rej := true, formErrs := satInc p.formErrs }
  | .crc => { p with rej := true, crcErrs := satInc p.crcErrs }
  | .req _ =>
    if held then { p with rej := true, formErrs := satInc p.formErrs } else { p with rej := false, frames := satInc p.frames }

/-- What an accepted request leaves on its port: its response waits; a request but op 05h ends the repetition. -/
def FramePort.await (p : FramePort) (r : Req) (resp : Option (List Byte)) : FramePort :=
  { p with resp := resp, last := if r.op = 5 then p.last else none }

/-- The held response has been shifted out with its CRC (R425). -/
def FramePort.consume (p : FramePort) : FramePort := { p with resp := none, last := p.resp }

/-- SDO of a frame of n bytes (R424). -/
def State.sdo (s : State) (ready : Bool) (n : Nat) : List Byte :=
  let p := s.spi
  let send := ready && p.resp.isSome
  let head := s.portStatus send (p.resp.isSome && !ready) p.rej :: (if send then p.resp.getD [] else [])
  (head ++ List.replicate n 0xff).take n

/-- SPI_FRAME (R421–R426): the held response goes out, then the frame's request is judged at the rising edge of NCS. -/
def State.spiFrame (s0 : State) (sdi : List Byte) (cyc : Nat) (ready : Bool) : State :=
  if s0.portServes .h && !sdi.isEmpty then
    let s := s0.at cyc
    let gone := ready && s.spi.resp.isSome && decide ((s.spi.resp.getD []).length < sdi.length)
    let s1 := s.sendLogic (.spi (s.sdo ready sdi.length))
    let p := if gone then s1.spi.consume else s1.spi
    let f := frameOf true sdi
    let q := p.judged f p.resp.isSome
    match f, p.resp.isSome with
    | .req r, false =>
      let x := ({ s1 with spi := q }).execReq { port := .h, cyc := cyc } q.last r
      { x.2 with spi := x.2.spi.await r x.1 }
    | _, _ => { s1 with spi := q }
  else s0

/-- The reply on SVC (R427): the status byte, with the response unless the frame was rejected. -/
def State.svcReply (s : State) (resp : Option (List Byte)) : State :=
  s.sendLogic (.svc (s.portStatus resp.isSome false s.svc.rej :: resp.getD []))

/-- A service-port request executes and is answered (R425, R427). -/
def State.svcExec (s : State) (cyc : Nat) (r : Req) : State :=
  let x := s.execReq { port := .s, cyc := cyc } s.svc.last r
  (({ x.2 with svc := (x.2.svc.await r x.1).consume } : State)).svcReply x.1

/-- SERVICE_FRAME (R427): a frame has ended and is answered. -/
def State.serviceFrame (s0 : State) (bytes : List Byte) (cyc : Nat) : State :=
  if s0.portServes .s && !bytes.isEmpty then
    let s := s0.at cyc
    let f := frameOf false bytes
    let s1 := { s with svc := s.svc.judged f false }
    match f with
    | .req r => s1.svcExec cyc r
    | _ => s1.svcReply none
  else s0

/-- REPEAT_LAST_RESPONSE (R425, R450): an op 05h request on SPI or the service port. -/
def State.repeatLast (s0 : State) (via : Via) (tag : Byte) : State :=
  let r : Req := { op := 5, tag := tag, idx := 0, sub := 0, count := 0, data := [] }
  if !s0.portServes via.port then s0
  else
    let s := s0.at via.cyc
    match via.port with
    | .h =>
      let q := s.spi.judged (.req r) s.spi.resp.isSome
      { s with spi := if s.spi.resp.isSome then q else q.await r q.last }
    | .s => ({ s with svc := s.svc.judged (.req r) false }).svcExec via.cyc r
    | _ => s0

/-- SPI_FRAME. -/
def execSpiFrame (sdi : List Byte) (cyc : Nat) (ready : Bool) (s : State) : Host.Outcome State Fault Refusal :=
  s.run (·.spiFrame sdi cyc ready)
/-- SERVICE_FRAME. -/
def execServiceFrame (bytes : List Byte) (cyc : Nat) (s : State) : Host.Outcome State Fault Refusal :=
  s.run (·.serviceFrame bytes cyc)
/-- REPEAT_LAST_RESPONSE. -/
def execRepeatLastResponse (via : Via) (tag : Byte) (s : State) : Host.Outcome State Fault Refusal := s.run (·.repeatLast via tag)

end Sys2Proof.Machine
end

