-- ==== Sys2Proof/Machine/Dispatch.lean ====
section
/-! DEFINITION. One arm per command: its meaning. -/
namespace Sys2Proof.Machine
open Sys2Proof

/-- The effect of a command on everything but the queue. -/
def exec (i : Instr) (s : State) : Host.Outcome State Fault Refusal :=
  match i with
  | .tickBoundary => Sys2Proof.Machine.execTickBoundary s
  | .tickZero => Sys2Proof.Machine.execTickZero s
  | .bodyOpen => Sys2Proof.Machine.execBodyOpen s
  | .halfTick => Sys2Proof.Machine.execHalfTick s
  | .guardWindowOpen => Sys2Proof.Machine.execGuardWindowOpen s
  | .supplyStamp supply => Sys2Proof.Machine.execSupplyStamp supply s
  | .rindCheck signatureDiffers configDiffers => Sys2Proof.Machine.execRindCheck signatureDiffers configDiffers s
  | .referenceEvent src inst => Sys2Proof.Machine.execReferenceEvent src inst s
  | .lockLoopEvaluation => Sys2Proof.Machine.execLockLoopEvaluation s
  | .holdoverLimit => Sys2Proof.Machine.execHoldoverLimit s
  | .trigEdge rising cyc => Sys2Proof.Machine.execTrigEdge rising cyc s
  | .conversionEnd lane x ref => Sys2Proof.Machine.execConversionEnd lane x ref s
  | .dedicatedOutputSample lane x ref cyc => Sys2Proof.Machine.execDedicatedOutputSample lane x ref cyc s
  | .recordStore => Sys2Proof.Machine.execRecordStore s
  | .commit via => Sys2Proof.Machine.execCommit via s
  | .discard via => Sys2Proof.Machine.execDiscard via s
  | .checkOnly via => Sys2Proof.Machine.execCheckOnly via s
  | .commitCheckVerdict cyc => Sys2Proof.Machine.execCommitCheckVerdict cyc s
  | .clockFault cause cyc => Sys2Proof.Machine.execClockFault cause cyc s
  | .alwaysOnLoss hz => Sys2Proof.Machine.execAlwaysOnLoss hz s
  | .alwaysOnRecovery hz => Sys2Proof.Machine.execAlwaysOnRecovery hz s
  | .xoRestart => Sys2Proof.Machine.execXoRestart s
  | .pllLock external => Sys2Proof.Machine.execPllLock external s
  | .selfCheckRestart => Sys2Proof.Machine.execSelfCheckRestart s
  | .selfCheckQualified khz => Sys2Proof.Machine.execSelfCheckQualified khz s
  | .coreStop => Sys2Proof.Machine.execCoreStop s
  | .pinFaultEntry x above => Sys2Proof.Machine.execPinFaultEntry x above s
  | .pinFaultExit x => Sys2Proof.Machine.execPinFaultExit x s
  | .excitationReading e currentNa neededUv avddUv => Sys2Proof.Machine.execExcitationReading e currentNa neededUv avddUv s
  | .quadrilleMeasurement lane point z sp => Sys2Proof.Machine.execQuadrilleMeasurement lane point z sp s
  | .quadrillePhaseEnd => Sys2Proof.Machine.execQuadrillePhaseEnd s
  | .overlapEnd => Sys2Proof.Machine.execOverlapEnd s
  | .laneFault lane => Sys2Proof.Machine.execLaneFault lane s
  | .laneFaultClear via lane => Sys2Proof.Machine.execLaneFaultClear via lane s
  | .swapRequest via p => Sys2Proof.Machine.execSwapRequest via p s
  | .totaliserClear via p => Sys2Proof.Machine.execTotaliserClear via p s
  | .readRecords via ring count => Sys2Proof.Machine.execReadRecords via ring count s
  | .creditReturn via ring n => Sys2Proof.Machine.execCreditReturn via ring n s
  | .scanStart => Sys2Proof.Machine.execScanStart s
  | .scanEnd ms => Sys2Proof.Machine.execScanEnd ms s
  | .repeatAction el => Sys2Proof.Machine.execRepeatAction el s
  | .restLimit el => Sys2Proof.Machine.execRestLimit el s
  | .startLimit el => Sys2Proof.Machine.execStartLimit el s
  | .wakeScan ms => Sys2Proof.Machine.execWakeScan ms s
  | .plugSample g mv => Sys2Proof.Machine.execPlugSample g mv s
  | .settleHoldEnd g => Sys2Proof.Machine.execSettleHoldEnd g s
  | .interruptPendingClear via mask => Sys2Proof.Machine.execInterruptPendingClear via mask s
  | .comparatorEdge m input cyc => Sys2Proof.Machine.execComparatorEdge m input cyc s
  | .monitorOutputChange m asserted cyc => Sys2Proof.Machine.execMonitorOutputChange m asserted cyc s
  | .captureRearm via mask => Sys2Proof.Machine.execCaptureRearm via mask s
  | .monitorReadback m high reading => Sys2Proof.Machine.execMonitorReadback m high reading s
  | .monitorFaultClear via m => Sys2Proof.Machine.execMonitorFaultClear via m s
  | .monitorPendingClear via mask => Sys2Proof.Machine.execMonitorPendingClear via mask s
  | .staticCode via n code => Sys2Proof.Machine.execStaticCode via n code s
  | .updateEvent n => Sys2Proof.Machine.execUpdateEvent n s
  | .resetArm via g => Sys2Proof.Machine.execResetArm via g s
  | .resetDisarm via g => Sys2Proof.Machine.execResetDisarm via g s
  | .phaseReset g => Sys2Proof.Machine.execPhaseReset g s
  | .outputReading n vOut vSense iOut vmid avdd => Sys2Proof.Machine.execOutputReading n vOut vSense iOut vmid avdd s
  | .outputFaultClear via n => Sys2Proof.Machine.execOutputFaultClear via n s
  | .faultPendingClear via mask => Sys2Proof.Machine.execFaultPendingClear via mask s
  | .zeroCalibration via => Sys2Proof.Machine.execZeroCalibration via s
  | .spanCalibration via => Sys2Proof.Machine.execSpanCalibration via s
  | .oneShotSelfCalibration via => Sys2Proof.Machine.execOneShotSelfCalibration via s
  | .calibrationAbort via => Sys2Proof.Machine.execCalibrationAbort via s
  | .calibrationTimeout => Sys2Proof.Machine.execCalibrationTimeout s
  | .selfCalibrationPoint z sp => Sys2Proof.Machine.execSelfCalibrationPoint z sp s
  | .store via sub => Sys2Proof.Machine.execStore via sub s
  | .restore via sub => Sys2Proof.Machine.execRestore via sub s
  | .recordProgram weak => Sys2Proof.Machine.execRecordProgram weak s
  | .eraseComplete => Sys2Proof.Machine.execEraseComplete s
  | .journalScan us => Sys2Proof.Machine.execJournalScan us s
  | .objectWrite via idx sub data => Sys2Proof.Machine.execObjectWrite via idx sub data s
  | .pdoMappingCount via tx k n => Sys2Proof.Machine.execPdoMappingCount via tx k n s
  | .spiFrame sdi cyc ready => Sys2Proof.Machine.execSpiFrame sdi cyc ready s
  | .repeatLastResponse via tag => Sys2Proof.Machine.execRepeatLastResponse via tag s
  | .serviceFrame bytes cyc => Sys2Proof.Machine.execServiceFrame bytes cyc s
  | .usdoRequest node req cyc => Sys2Proof.Machine.execUsdoRequest node req cyc s
  | .usdoAbort node => Sys2Proof.Machine.execUsdoAbort node s
  | .usdoSegmentTimeout node => Sys2Proof.Machine.execUsdoSegmentTimeout node s
  | .syncFrame cyc => Sys2Proof.Machine.execSyncFrame cyc s
  | .tpdoEventTimer k => Sys2Proof.Machine.execTpdoEventTimer k s
  | .inhibitTimeEnd k => Sys2Proof.Machine.execInhibitTimeEnd k s
  | .tpdoTransmitted k => Sys2Proof.Machine.execTpdoTransmitted k s
  | .rpdo k data cyc => Sys2Proof.Machine.execRpdo k data cyc s
  | .nmtStart node => Sys2Proof.Machine.execNmtStart node s
  | .nmtStop node => Sys2Proof.Machine.execNmtStop node s
  | .nmtEnterPreOperational node => Sys2Proof.Machine.execNmtEnterPreOperational node s
  | .nmtResetNode node => Sys2Proof.Machine.execNmtResetNode node s
  | .nmtResetCommunication node => Sys2Proof.Machine.execNmtResetCommunication node s
  | .heartbeat => Sys2Proof.Machine.execHeartbeat s
  | .busOffRecovery => Sys2Proof.Machine.execBusOffRecovery s
  | .seal via => Sys2Proof.Machine.execSeal via s
  | .relock via => Sys2Proof.Machine.execRelock via s
  | .passwordAttempt via value => Sys2Proof.Machine.execPasswordAttempt via value s
  | .challenge via => Sys2Proof.Machine.execChallenge via s
  | .responseAttempt via response => Sys2Proof.Machine.execResponseAttempt via response s
  | .unlockVerdict => Sys2Proof.Machine.execUnlockVerdict s
  | .backOffEnd => Sys2Proof.Machine.execBackOffEnd s
  | .unlockExpiry => Sys2Proof.Machine.execUnlockExpiry s
  | .challengeExpiry => Sys2Proof.Machine.execChallengeExpiry s
  | .tickSymbol offset residence => Sys2Proof.Machine.execTickSymbol offset residence s
  | .soundingStart trips => Sys2Proof.Machine.execSoundingStart trips s
  | .sound trips => Sys2Proof.Machine.execSound trips s
  | .delayFrame hd cablePs => Sys2Proof.Machine.execDelayFrame hd cablePs s
  | .enumFrame hd count entries => Sys2Proof.Machine.execEnumFrame hd count entries s
  | .enumerationRetry => Sys2Proof.Machine.execEnumerationRetry s
  | .tableFrame hd entries => Sys2Proof.Machine.execTableFrame hd entries s
  | .timeSend => Sys2Proof.Machine.execTimeSend s
  | .timeFrame hd tick epoch advances => Sys2Proof.Machine.execTimeFrame hd tick epoch advances s
  | .accessFrame hd session originPort write idx sub data cyc => Sys2Proof.Machine.execAccessFrame hd session originPort write idx sub data cyc s
  | .responseFrame hd access status abort data => Sys2Proof.Machine.execResponseFrame hd access status abort data s
  | .accessTimeout session => Sys2Proof.Machine.execAccessTimeout session s
  | .galtlinkNmtFrame hd command => Sys2Proof.Machine.execGaltlinkNmtFrame hd command s
  | .streamSend ring => Sys2Proof.Machine.execStreamSend ring s
  | .streamResend ring => Sys2Proof.Machine.execStreamResend ring s
  | .streamFrame hd ring seq recs => Sys2Proof.Machine.execStreamFrame hd ring seq recs s
  | .ackFrame hd ring seq => Sys2Proof.Machine.execAckFrame hd ring seq s
  | .creditFrame hd ring count => Sys2Proof.Machine.execCreditFrame hd ring count s
  | .breakDetected => Sys2Proof.Machine.execBreakDetected s
  | .breakFrame hd addr => Sys2Proof.Machine.execBreakFrame hd addr s
  | .characterLock => Sys2Proof.Machine.execCharacterLock s
  | .restoredFrame hd addr => Sys2Proof.Machine.execRestoredFrame hd addr s
  | .stopClear via => Sys2Proof.Machine.execStopClear via s
  | .sweepComplete result => Sys2Proof.Machine.execSweepComplete result s
  | .dieTemperatureReading centi => Sys2Proof.Machine.execDieTemperatureReading centi s
  | .thermalShutdown => Sys2Proof.Machine.execThermalShutdown s
  | .shutdownClear via => Sys2Proof.Machine.execShutdownClear via s
  | .runRequest via => Sys2Proof.Machine.execRunRequest via s
  | .dozeRequest via => Sys2Proof.Machine.execDozeRequest via s
  | .dozeEntry => Sys2Proof.Machine.execDozeEntry s
  | .standbyRequest via => Sys2Proof.Machine.execStandbyRequest via s
  | .standbyEntry => Sys2Proof.Machine.execStandbyEntry s
  | .wakeRequest wake => Sys2Proof.Machine.execWakeRequest wake s
  | .wakeReturn => Sys2Proof.Machine.execWakeReturn s
  | .powerOnReset programmed => Sys2Proof.Machine.execPowerOnReset programmed s
  | .nrst programmed => Sys2Proof.Machine.execNrst programmed s
  | .resetRelease => Sys2Proof.Machine.execResetRelease s
  | .fusesLoaded glmaster => Sys2Proof.Machine.execFusesLoaded glmaster s
  | .canErrorConfinement tec rec busOff => Sys2Proof.Machine.execCanErrorConfinement tec rec busOff s
  | .crxdDominant => Sys2Proof.Machine.execCrxdDominant s
  | .vrefoReading uv => Sys2Proof.Machine.execVrefoReading uv s

end Sys2Proof.Machine
end

