-- ==== Sys2Proof/Machine/Line.lean ====
section
/-! DEFINITION. The characters of GaltLink: the 8b/10b code of IEEE 802.3 clause 36 and the framing of R454–R456, R460, R462. The
code tables are the standard's, which the manual names and does not print (PRESUMED, log entry 88). -/
namespace Sys2Proof.Machine
open Sys2Proof

/-- A character of the link: data, or one of the special characters of R454. -/
inductive Char8 where
  | data (b : Byte)
  | idle | tick | sound | sof | eof | abort
  deriving DecidableEq, Repr

/-- Bits EDCBA and HGF of a character, and whether it is special: IDLE K28.5, TICK K28.1, SOUND K28.7, SOF K27.7, EOF K29.7, ABORT
K30.7 (R454). -/
def Char8.parts : Char8 → Nat × Nat × Bool
  | .data b => (b.toNat % 32, b.toNat / 32, false)
  | .idle => (28, 5, true) | .tick => (28, 1, true) | .sound => (28, 7, true)
  | .sof => (27, 7, true) | .eof => (29, 7, true) | .abort => (30, 7, true)

/-- The sub-blocks abcdei of the values 0 to 31 at negative running disparity. -/
def sixOf : List Nat :=
  [0b100111, 0b011101, 0b101101, 0b110001, 0b110101, 0b101001, 0b011001, 0b111000] ++
  [0b111001, 0b100101, 0b010101, 0b110100, 0b001101, 0b101100, 0b011100, 0b010111] ++
  [0b011011, 0b100011, 0b010011, 0b110010, 0b001011, 0b101010, 0b011010, 0b111010] ++
  [0b110011, 0b100110, 0b010110, 0b110110, 0b001110, 0b101110, 0b011110, 0b101011]

/-- The sub-blocks fghj of the values 0 to 7 at negative running disparity. -/
def fourOf : List Nat := [0b1011, 0b1001, 0b0101, 0b1100, 0b1101, 0b1010, 0b0110, 0b1110]

/-- Ones among the low n bits of a number. -/
def ones (n v : Nat) : Nat := ((List.range n).filter (fun i => v.testBit i)).length

/-- The running disparity after a sub-block of n bits: it follows the surplus of ones or zeros, and stays where there is none. -/
def disparity (rd : Bool) (n v : Nat) : Bool := if 2 * ones n v = n then rd else decide (n < 2 * ones n v)

/-- The sub-block abcdei sent at a running disparity; false is negative. -/
def sixAt (rd : Bool) (x : Nat) (k : Bool) : Nat :=
  let v := if k && x = 28 then 0b001111 else sixOf.getD x 0
  if rd && (2 * ones 6 v ≠ 6 || x = 7) then 63 - v else v

/-- Whether the alternate form of x.7 is sent, which keeps runs of equal bits short. -/
def alternate (rd : Bool) (x : Nat) (k : Bool) : Bool := k || (if rd then [11, 13, 14] else [17, 18, 20]).contains x

/-- The sub-block fghj sent at the running disparity after abcdei. -/
def fourAt (rd : Bool) (x y : Nat) (k : Bool) : Nat :=
  let v := if y = 7 && alternate rd x k then 0b0111 else fourOf.getD y 0
  let w := if k && !rd && (y = 1 || y = 2 || y = 5 || y = 6) then 15 - v else v
  if rd && (2 * ones 4 v ≠ 4 || y = 3) then 15 - w else w

/-- A character in its ten bits abcdei fghj, a first, and the running disparity after it. -/
def Char8.code (rd : Bool) (c : Char8) : BitVec 10 × Bool :=
  let (x, y, k) := c.parts
  let six := sixAt rd x k
  let mid := disparity rd 6 six
  let four := fourAt mid x y k
  (BitVec.ofNat 10 (16 * six + four), disparity mid 4 four)

/-- Every character the link knows. -/
def linkChars : List Char8 := [.idle, .tick, .sound, .sof, .eof, .abort] ++ (List.range 256).map (fun b => .data (BitVec.ofNat 8 b))

/-- The character that ten bits are at a running disparity; none is a code error, every other special character too (R454). -/
def decodeChar (rd : Bool) (w : BitVec 10) : Option Char8 := linkChars.find? (fun c => (c.code rd).1 = w)

/-- The characters of what the node sends on the link, in groups that nothing is inserted in: SOF, the frame's bytes and EOF, one by
one; TICK with its offset in four data characters, least significant first (R1, R460); SOUND, and after the sounding 8 IDLE
(R462). -/
def Emit.groups : Emit → List (List Char8)
  | .galt frame => [Char8.sof] :: frame.map (fun b => [Char8.data b]) ++ [[Char8.eof]]
  | .galtTick offset => [.tick :: (leBytes 4 offset.toNat).map .data]
  | .galtSound => [.sound] :: List.replicate 8 [.idle]
  | _ => []

/-- Whether what is sent is a TICK symbol. -/
def Emit.isTick : Emit → Bool
  | .galtTick _ => true
  | _ => false

/-- An IDLE after at most 15 other characters, over frames and TICK symbols alike; `n` have been sent since the last (R454, R455). -/
def withCommas : Nat → List (List Char8) → List Char8
  | _, [] => []
  | n, g :: t =>
    if g = [.idle] then .idle :: withCommas 0 t
    else if 15 < n + g.length then .idle :: g ++ withCommas g.length t
    else g ++ withCommas (n + g.length) t

/-- The characters that leave with the last command, TICK ahead of any frame, since no frame delays it (R455). They start behind an
IDLE of the fill. -/
def lineChars (out : List Emit) : List Char8 :=
  withCommas 0 ((out.filter Emit.isTick ++ out.filter (fun e => !e.isTick)).flatMap Emit.groups)

/-- Characters in their code from a running disparity on. -/
def encodeChars : Bool → List Char8 → List (BitVec 10)
  | _, [] => []
  | rd, c :: t => (c.code rd).1 :: encodeChars (c.code rd).2 t

/-- What leaves GLOP/GLON with the last command, for the running disparity at its start, which the IDLE fill before it leaves
either way (R454). -/
def State.lineOut (s : State) (rd : Bool) : List (BitVec 10) := encodeChars rd (lineChars s.out)

end Sys2Proof.Machine
end

