-- ==== Sys2Proof/Machine/Pins.lean ====
section
/-! DEFINITION. What every output pin does, from the state (R17, R173, R306, R452, R491, R498, R499, R529). -/
namespace Sys2Proof.Machine
open Sys2Proof

/-- What a pin does: high impedance (isolated, released), a logic level, its function (an analog value, a bit stream, the crystal),
or, on the link, nothing. -/
inductive Drive where
  | highZ | low | high | active | silent
  deriving DecidableEq, Repr

/-- The output pins of R491. -/
inductive OutPin where
  | xp (x : Fin 40) | out (n : Fin 4)
  | vrefo | vmid | tickout | mon (k : Fin 4) | wake | inta | intb | sdo | ctxd | svc | link | xo
  deriving DecidableEq, Repr

/-- A logic output: high impedance while VIO is below 2.5 V (R529). -/
def State.logic (s : State) (d : Drive) : Drive := if s.vioOn then d else .highZ

/-- A push-pull logic level. -/
def level (b : Bool) : Drive := if b then .high else .low

/-- INTA and INTB (R491): high impedance until the journal scan has ended, then under 2C00h.04: push-pull active low, open-drain
active low, push-pull active high. -/
def State.intPin (s : State) (asserted : Bool) : Drive :=
  if s.boot ≠ .checked && s.boot ≠ .running then .highZ
  else match s.lcfg 0x2c00 4 with
    | 0 => level !asserted
    | 1 => if asserted then .low else .highZ
    | _ => level asserted

/-- Whether the node sends on GLOP/GLON at all (R132, R452, R498). -/
def State.linkDrive (s : State) : Drive :=
  if s.boot ≠ .running || roleOf s.active s.galt.glmaster = 0 then .highZ
  else if s.netHalted || s.pow.state = .standby then .silent
  else .active

/-- What an output pin does now (R491). A crosspoint pin without a role is open (R142). `selected` says that NCS is low, which SDO asks for. The manual gives VREFO and VMID no state
in STANDBY, where the reference is off: VREFO is high impedance and VMID as before (DESIGN CHOICE, log entry 85). -/
def State.drive (s : State) (selected : Bool) : OutPin → Drive
  | .xp x =>
    if s.boot = .running && roleBits s.active x.val ≠ 0 && (s.pin x.val).fault = 0 && !(s.pin x.val).left then .active else .highZ
  | .out n => if s.boot = .running && !(s.output n.val).hiZ then .active else .highZ
  | .vrefo => if s.boot = .running && s.pow.state ≠ .standby && s.acfg 0x2210 5 = 1 then .active else .highZ
  | .vmid => if s.boot = .inReset then .highZ else .active
  | .tickout => s.logic (level (s.boot = .running && s.tick.tickout))
  | .mon k => s.logic (level (s.boot = .running && s.monPin k.val))
  | .wake => s.logic (level s.pow.wakePin)
  | .inta => s.logic (s.intPin s.intA)
  | .intb => s.logic (s.intPin s.intB)
  | .sdo => s.logic (if s.boot ≠ .inReset && selected && s.pow.state ≠ .standby then .active else .highZ)
  | .ctxd => s.logic (if s.canOn then .active else .high)
  | .svc => s.logic (if s.boot ≠ .inReset && s.boot ≠ .released && !s.netHalted && s.pow.state ≠ .standby then .active else .highZ)
  | .link => s.linkDrive
  | .xo => if s.boot = .inReset || s.clk.external || s.clk.pll = 0 then .highZ else .active

end Sys2Proof.Machine
end

