-- ==== Sys2Proof/Safety.lean ====
section
/-! DEFINITION. What statements about the block are made in: a core that runs, how a command ends, which entry a command
writes, what stays as it was, and the invariant of the field lock. -/
namespace Sys2Proof.Machine
open Sys2Proof

/-- The core runs: it has not stopped for want of a good clock (R138). -/
def State.coreRuns (s : State) : Bool := !s.clk.coreStopped

/-- The state without the CAN port, whose error register and error list follow every command (R432), and without what the last
command sent. -/
def State.apart (s : State) : State := { s with can := {}, out := [] }

/-- Command `i` completes in `u`, which names what is sent, brought to its end (R432). -/
def Ends (i : Instr) (s u : State) : Prop := exec i s = .next u.settle

/-- Command `i` completes and leaves exactly `u` with nothing sent, but for what the end of every command does (R432). -/
def Leaves (i : Instr) (s u : State) : Prop := Ends i s { u with out := [] }

/-- Command `i` completes in a state of which `p` holds. -/
def Reaches (i : Instr) (s : State) (p : State → Prop) : Prop := ∃ t, exec i s = .next t ∧ p t

/-- The state as an access that arrives by `via` finds it. -/
def State.heard (s : State) (via : Via) : State := s.begin.at via.cyc

/-- A write arrives at a running core on a port that is served, and passes every check of R392. -/
def State.admits (s : State) (via : Via) (idx sub : Nat) (data : List Byte) : Prop :=
  s.coreRuns = true ∧ s.begin.portServes via.port = true ∧ (s.heard via).writeRefusal via idx sub data = 0

/-- A write arrives at a running core on a port that is served. -/
def State.reached (s : State) (via : Via) : Prop := s.coreRuns = true ∧ s.begin.portServes via.port = true

/-- The entry and the data that a command writes, for the commands that are one write of one entry (R392 and the chapters). -/
def writes : Instr → Option (Via × Nat × Nat × List Byte)
  | .commit v => some (v, 0x2002, 1, [1])
  | .discard v => some (v, 0x2002, 1, [2])
  | .checkOnly v => some (v, 0x2002, 1, [3])
  | .laneFaultClear v l => some (v, 0x2200 + l.val, 4, [1])
  | .swapRequest v p => some (v, 0x2380, 1, [p])
  | .totaliserClear v p => some (v, 0x2300 + p.val, 9, [1])
  | .creditReturn v r n => some (v, 0x2500 + r.toNat, 7, leBytes 2 n.toNat)
  | .interruptPendingClear v m => some (v, 0x2720, 9, leBytes 8 m.toNat)
  | .captureRearm v m => some (v, 0x2811, 0x21, [m])
  | .monitorFaultClear v m => some (v, 0x2800 + m.val, 0xb, [1])
  | .monitorPendingClear v m => some (v, 0x2810, 0xb, leBytes 4 m.toNat)
  | .staticCode v n c => some (v, 0x2900 + n.val, 6, leBytes 2 c.toNat)
  | .resetArm v g => some (v, 0x2910 + g.val, 8, [1])
  | .resetDisarm v g => some (v, 0x2910 + g.val, 8, [0])
  | .outputFaultClear v n => some (v, 0x2900 + n.val, 0xc, [1])
  | .faultPendingClear v m => some (v, 0x2920, 5, [m])
  | .zeroCalibration v => some (v, 0x2a00, 1, [1])
  | .spanCalibration v => some (v, 0x2a00, 1, [2])
  | .oneShotSelfCalibration v => some (v, 0x2a00, 1, [3])
  | .calibrationAbort v => some (v, 0x2a00, 1, [4])
  | .store v sub => some (v, 0x1010, sub.val, [0x73, 0x61, 0x76, 0x65])
  | .restore v sub => some (v, 0x1011, sub.val, [0x6c, 0x6f, 0x61, 0x64])
  | .objectWrite v idx sub data => some (v, idx.toNat, sub.toNat, data)
  | .pdoMappingCount v tx k n => some (v, (if tx then 0x1a00 else 0x1600) + k.val, 0, [n])
  | .seal v => some (v, 0x2c10, 2, [1])
  | .relock v => some (v, 0x2c10, 2, [2])
  | .passwordAttempt v x => some (v, 0x2c10, 3, leBytes 4 x.toNat)
  | .responseAttempt v x => some (v, 0x2c10, 5, x)
  | .stopClear v => some (v, 0x2e00, 7, [1])
  | .shutdownClear v => some (v, 0x2e01, 3, [1])
  | .runRequest v => some (v, 0x2e02, 1, [0])
  | .dozeRequest v => some (v, 0x2e02, 1, [1])
  | .standbyRequest v => some (v, 0x2e02, 1, [2])
  | _ => none

/-- The head, type and payload of the GaltLink frame that a command brings, as R456 lays them out. -/
def carries : Instr → Option (FrameHead × Nat × List Byte)
  | .enumFrame hd count l => some (hd, 1, count :: l.flatMap EnumEntry.bytes)
  | .tableFrame hd l => some (hd, 2, BitVec.ofNat 8 l.length :: l.flatMap EnumEntry.bytes)
  | .timeFrame hd n e l => some (hd, 3,
      leBytes 4 n.tick.toNat ++ leBytes 2 e.toNat ++ [BitVec.ofNat 8 l.length] ++ l.flatMap (fun a => leBytes 4 a.toNat))
  | .delayFrame hd c => some (hd, 4, leBytes 4 c.toNat)
  | .accessFrame hd session op write idx sub data _ => some (hd, 5,
      session :: op :: ([if write then 2 else 1] ++ leBytes 2 idx.toNat ++ [sub] ++ data))
  | .responseFrame hd a status abort data => some (hd, 6,
      a.session :: ([if a.write then 2 else 1] ++ leBytes 2 a.idx.toNat ++ [a.sub] ++
        (leBytes 2 status.toNat ++ if status = 0 then data else leBytes 4 abort.toNat)))
  | .streamFrame hd r q recs => some (hd, 7, leBytes 1 r.toNat ++ leBytes 2 q.toNat ++ recs.flatMap (fun b => leBytes 16 b.toNat))
  | .ackFrame hd r q => some (hd, 8, leBytes 1 r.toNat ++ leBytes 2 q.toNat)
  | .creditFrame hd r c => some (hd, 9, leBytes 1 r.toNat ++ leBytes 2 c.toNat)
  | .breakFrame hd a => some (hd, 10, [a])
  | .restoredFrame hd a => some (hd, 11, [a])
  | .galtlinkNmtFrame hd c => some (hd, 12, [c])
  | _ => none

/-- Records formed and stored, the rings, the ledger and the whey that waits are as they were. -/
def State.sameResults (s u : State) : Prop :=
  s.formed = u.formed ∧ s.rings = u.rings ∧ s.ledger = u.ledger ∧ s.whey = u.whey

/-- Configuration and tick are as they were: the three copies, the commit machinery, the number and part of the tick. -/
def State.sameConfig (s u : State) : Prop :=
  s.active = u.active ∧ s.shadow = u.shadow ∧ s.live = u.live ∧ s.com = u.com ∧ s.boot = u.boot

/-- The tick machinery and the clocks are as they were. -/
def State.sameTime (s u : State) : Prop := s.tick = u.tick ∧ s.clk = u.clk ∧ s.pow = u.pow

/-- Lanes, slots, rotation, pins, sources and references are as they were. -/
def State.sameLanes (s u : State) : Prop :=
  s.slots = u.slots ∧ s.lanes = u.lanes ∧ s.quad = u.quad ∧ s.pins = u.pins ∧ s.sources = u.sources ∧ s.sense = u.sense

/-- Elements, plug groups, monitors, captures, outputs and generators are as they were. -/
def State.sameIo (s u : State) : Prop :=
  s.elems = u.elems ∧ s.touch = u.touch ∧ s.plugs = u.plugs ∧ s.mons = u.mons ∧ s.mon = u.mon ∧ s.caps = u.caps ∧
    s.outs = u.outs ∧ s.outPend = u.outPend ∧ s.gens = u.gens

/-- Ports, field lock, GaltLink, calibration, journal, supply and logs are as they were. -/
def State.sameRest (s u : State) : Prop :=
  s.spi = u.spi ∧ s.svc = u.svc ∧ s.lock = u.lock ∧ s.galt = u.galt ∧ s.cal = u.cal ∧ s.jn = u.jn ∧ s.sup = u.sup ∧
    s.diag = u.diag

/-- Everything is as it was in `u` but for triggers on their way to their latch or latched, the conversions they start and the
source polarities these take, what resolves them, and the end of a calibration that one of them brings (R49, R53–R62, R353). -/
def State.sameButTriggers (s u : State) : Prop :=
  s = { u with
    tick := { u.tick with cyc := s.tick.cyc, latches := s.tick.latches, starts := s.tick.starts }
    slots := s.slots, lanes := s.lanes, sources := s.sources, ledger := s.ledger, whey := s.whey, cal := s.cal, diag := s.diag }

/-- A blown seal fuse and a field lock that reads OPEN exclude each other once the lock state has been restored (R413, R438). -/
def State.sealHolds (s : State) : Prop :=
  s.lock.fuse = true → s.boot = .checked ∨ s.boot = .running → s.lock.state ≠ .unsealed

/-- Places of a ring: free, unread and outstanding (R253). -/
def Ring.places (g : Ring) : Nat := g.free + g.unread.length + g.outstanding.length

end Sys2Proof.Machine
end

