-- ==== Sys2Proof/Certificates/Slice0/Obligations.lean ====
section
/-! DEFINITION. The statements for the provers. -/
open Sys2Proof Sys2Proof.Machine

/-- A step takes the command at the front of the queue and is that command on the state with the queue's rest. -/
def Obligations.StepRunsFrontCommand : Prop :=
  ∀ (s : State) (c : Instr) (rest : List Instr), s.pending = c :: rest → step s = exec c { s with pending := rest }

/-- On an empty queue the block idles (the model's choice, log entry 1). -/
def Claim.EmptyQueueIdles : Prop := ∀ s : State, s.pending = [] → step s = .next s

/-- A step takes exactly one command off the queue, whatever the command is. -/
def Claim.StepTakesOneCommand : Prop :=
  ∀ (s t : State) (c : Instr) (rest : List Instr), s.pending = c :: rest → step s = .next t → t.pending = rest

/-- The queue of waiting commands: one command leaves it in a step, and nothing else touches it; on an empty queue the block idles (the model's choice, log entry 1). -/
def Obligations.QueueIsServedInOrder : Prop := Claim.EmptyQueueIdles ∧ Claim.StepTakesOneCommand

/-- No command stops the block: every command answers a next state from every state (the model's choice, log entry 2). -/
def Claim.EveryCommandAnswers : Prop := ∀ (i : Instr) (s : State), ∃ t, exec i s = .next t

/-- R138: a stopped core keeps its state under every command but a power-on reset and NRST; nothing is sent. -/
def Claim.StoppedCoreKeepsState : Prop :=
  ∀ (i : Instr) (s : State), s.coreRuns = false → (∀ b, i ≠ .powerOnReset b ∧ i ≠ .nrst b) →
    exec i s = .next { s with out := [] }

/-- Every command answers a next state (the model's choice, log entry 2), and a stopped core keeps its state (R138). -/
def Obligations.CommandsAlwaysAnswer : Prop := Claim.EveryCommandAnswers ∧ Claim.StoppedCoreKeepsState

/-- R438, the one-time fuse: once the seal fuse is blown, no step makes it intact again, resets included. -/
def Obligations.SealFuseStaysBlown : Prop :=
  ∀ s t : State, s.lock.fuse = true → step s = .next t → t.lock.fuse = true

/-- R413 and R438 together: from the journal scan on, a device whose seal fuse is blown is not OPEN, and every step keeps it so. -/
def Obligations.SealedNeverOpenAgain : Prop :=
  ∀ s t : State, s.sealHolds → step s = .next t → t.sealHolds

/-- The state after reset meets the invariant of SealedNeverOpenAgain. -/
def Obligations.ResetMeetsSealHolds : Prop := State.reset.sealHolds

/-- R432: after every command the error register 1001h holds what the state calls for. -/
def Claim.ErrorRegisterFollows : Prop :=
  ∀ (i : Instr) (s t : State), s.coreRuns = true → exec i s = .next t → t.can.err = t.errReg

/-- R432: the end of a command touches the CAN port only, and sends and enters an EMCY with code 0 where 1001h returns to 00h
and EMCYs are sent. -/
def Claim.EndTouchesOnlyErrorRegister : Prop :=
  ∀ s : State,
    ((s.can.err = 0 ∨ s.errReg ≠ 0 ∨ s.emcyOn = false) → s.settle = { s with can := { s.can with err := s.errReg } }) ∧
    (s.can.err ≠ 0 → s.errReg = 0 → s.emcyOn = true →
      s.settle.apart = s.apart ∧ s.settle.can.errs = (0 :: s.can.errs).take 8 ∧
        (s.canOn = true → s.settle.out = s.out ++
          [.can (s.liveVal 0x1014 0 % 2048) ([0, 0, 0, 0, 0, 0] ++ leBytes 2 s.tick.counter.toNat) s.canBrs]))

/-- 1001h after every command, and what the end of a command changes (R432). -/
def Obligations.CommandsEndWithErrorRegister : Prop := Claim.ErrorRegisterFollows ∧ Claim.EndTouchesOnlyErrorRegister

/-- R488: POWER_ON_RESET and NRST complete in every state, a stopped core included, and leave every volatile piece of state at
its reset value; the seal fuse, the journal's flash, the level of VIO, the queue and the model's own count of drawn values stay. That the
level of VIO stays is the model's choice (DESIGN CHOICE, log entry 85), and so are the bytes that the flash holds of a record under
program (log entry 76). -/
def Claim.ResetClearsVolatileState : Prop :=
  ∀ (s : State) (b : Nat),
    exec (.powerOnReset b) s =
      .next { jn := s.jn.afterReset b, lock := { fuse := s.lock.fuse }, sup := { vioMv := s.sup.vioMv }, draws := s.draws
              pending := s.pending } ∧
    exec (.nrst b) s = exec (.powerOnReset b) s

/-- R490: RESET_RELEASE, FUSES_LOADED and JOURNAL_SCAN lead from one stage of the start-up to the next. -/
def Claim.StartUpStages : Prop :=
  ∀ (s : State) (gl : Bool) (us : BitVec 16), s.coreRuns = true →
    (s.boot = .inReset → Leaves .resetRelease s { s with boot := .released }) ∧
    (s.boot = .released → Leaves (.fusesLoaded gl) s
      { s with boot := .fuses, galt := { s.galt with glmaster := gl }, clk := { s.clk with pll := 1 } }) ∧
    (s.boot = .fuses → Reaches (.journalScan us) s fun t =>
      t.boot = .checked ∧ t.active = s.active ∧ (t.com.startOk = false → t.com.startCfg = []))

/-- Reset and the start-up to the check of the restored values (R488, R490). -/
def Obligations.ResetAndStartUp : Prop := Claim.ResetClearsVolatileState ∧ Claim.StartUpStages

/-- R18, R121, R490: TICK_ZERO opens tick 0: the checked values are active, the tick runs and its number is 0. -/
def Obligations.TickZeroOpens : Prop :=
  ∀ s : State, s.coreRuns = true → s.boot = .checked → s.clk.pll = 2 → s.clockFault = false →
    Reaches .tickZero s fun t =>
      t.boot = .running ∧ t.tick.on = true ∧ t.tick.counter = 0 ∧ t.tick.part = .prologue ∧
        t.active = if s.com.startOk then s.com.startCfg else []

/-- R16, R18, R19, R99: TICK_BOUNDARY opens the next tick in its prologue; the counter of a node that adopts no other goes up by
one; a passed commit whose verdict lies 10 µs back is active from there on, else the active copy stays. -/
def Obligations.TickBoundaryOpensNextTick : Prop :=
  ∀ s : State, s.coreRuns = true → s.boundaryDue = true → s.galt.counterNext = none → s.cal.coef = none →
    Reaches .tickBoundary s fun t =>
      t.tick.counter = s.tick.counter + 1 ∧ t.tick.on = true ∧ t.tick.part = .prologue ∧
        t.active =
          if s.com.result = 2 ∧ (s.com.verdictAt - (s.tickSpan : Int)) * 1000 ≤ -491520 then s.com.frozen.getD s.shadow
          else s.active

/-- R13, R17: HALF_TICK lets TICKOUT fall ⌊N/2⌋ modulator cycles into the tick, BODY_OPEN opens the body, GUARD_WINDOW_OPEN the
guard window, each in its tick, whose number and configuration stay. -/
def Obligations.TickPartsFollow : Prop :=
  ∀ s : State, s.coreRuns = true → s.tick.on = true →
    (s.tick.tickout = true → Ends .halfTick s
      (({ s.begin with tick := { s.tick with tickout := false } } : State).at (8 * (tickN s.active / 2))) ∧
      Reaches .halfTick s fun t => t.tick.tickout = false ∧ t.tick.counter = s.tick.counter ∧ t.active = s.active) ∧
    (s.tick.part = .prologue → Reaches .bodyOpen s fun t =>
      t.tick.part = .body ∧ t.tick.counter = s.tick.counter ∧ t.active = s.active) ∧
    (s.tick.part ≠ .guard → Reaches .guardWindowOpen s fun t =>
      t.tick.part = .guard ∧ t.tick.counter = s.tick.counter ∧ t.active = s.active)

/-- R392, R398: a command that is one write of one entry, where a check fails, ends refused with that check's code; a judged
write of 2C10h.05 spends the challenge (R440), where codes 0203h, 0204h, 0205h and 0208h are those of a judged one (DEDUCED, log entry
47). -/
def Claim.RefusedWritesEndRefused : Prop :=
  ∀ (i : Instr) (s : State) (v : Via) (idx sub : Nat) (data : List Byte), writes i = some (v, idx, sub, data) → s.reached v →
    (s.heard v).writeRefusal v idx sub data ≠ 0 →
      let c := (s.heard v).writeRefusal v idx sub data
      let u := (s.heard v).refuse v idx sub c (decide (v.port = .n))
      Ends i s (if idx = 0x2c10 ∧ sub = 5 ∧ (c = 0x203 ∨ c = 0x204 ∨ c = 0x205 ∨ c = 0x208) then u.spendChallenge else u)

/-- A port that is not served takes no access: a command that is one write of one entry leaves the state as it is (DESIGN CHOICE, log
entry 2). -/
def Claim.UnservedPortTakesNoWrite : Prop :=
  ∀ (i : Instr) (s : State) (v : Via) (idx sub : Nat) (data : List Byte), writes i = some (v, idx, sub, data) →
    s.coreRuns = true → s.begin.portServes v.port = false → Leaves i s s

/-- R398, R404: a refusal changes the refusal log with its counters, the relay counters of an access on port G, and, with
0601h, 2600h.07; nothing else. -/
def Claim.RefusalChangesOnlyLogs : Prop :=
  ∀ (s : State) (v : Via) (idx sub code : Nat) (abort : Bool),
    let t := s.refuse v idx sub code abort
    t = { s with diag := t.diag, galt := t.galt, ledger := t.ledger } ∧
    t.diag = { s.diag with
      refusals := (⟨BitVec.ofNat 16 code, v.port, BitVec.ofNat 32 (key idx sub), s.tick.counter⟩ :: s.diag.refusals).take 16
      refusalN := satInc s.diag.refusalN
      refusalAt := (s.diag.refusalAt + 1) % 16
      lastAbort := if abort then BitVec.ofNat 32 (abortCode code) else 0
      families := s.diag.families.modify (code / 256 - 1) satInc } ∧
    (v.port ≠ .g → t.galt = s.galt) ∧
    (v.port = .g → t.galt = { s.galt with relayOrigin := t.galt.relayOrigin, relayRefused := satInc s.galt.relayRefused }) ∧
    t.ledger = { s.ledger with overReturn := if code = 0x601 then satInc s.ledger.overReturn else s.ledger.overReturn }

/-- What becomes of a write that is not served or not accepted (R392, R398). -/
def Obligations.RefusalsOfWrites : Prop := Claim.RefusedWritesEndRefused ∧ Claim.UnservedPortTakesNoWrite ∧ Claim.RefusalChangesOnlyLogs

/-- R392: the first checks of a write and their codes, on a port other than G: the index, the sub-index, the letter, the field
lock, the byte count, the reserved bits, the Range. -/
def Claim.WriteChecksInOrder : Prop :=
  ∀ (s : State) (v : Via) (idx sub : Nat) (data : List Byte), v.port ≠ .g →
    (objectAt idx = none → s.writeRefusal v idx sub data = 0x407) ∧
    ∀ f, objectAt idx = some f →
      (f sub = none → s.writeRefusal v idx sub data = 0x402) ∧
      ∀ e, f sub = some e →
        ((e.letter v.port).writes = false → s.writeRefusal v idx sub data = if e.letter v.port = .c then 0x103 else 0x101) ∧
        ((e.letter v.port).writes = true →
          (s.lock.state = .isSealed → e.sealed = true → s.writeRefusal v idx sub data = 0x201) ∧
          (s.lockCheck e idx sub data = 0 →
            (e.countOk data = false → s.writeRefusal v idx sub data = 0x406) ∧
            (e.countOk data = true → e.reservedOk (leNum data) = false → s.writeRefusal v idx sub data = 0x401) ∧
            (e.countOk data = true → e.reservedOk (leNum data) = true → e.rangeOk (leNum data) = false →
              s.writeRefusal v idx sub data = if idx = 0x1010 ∨ idx = 0x1011 then 0x405 else 0x403)))

/-- R410: an index that the device does not serve is refused with 0407h, a sub-index that it does not serve with 0402h, on reads
and on writes. Which indices it serves is the table `objectAt`. -/
def Claim.UnlistedObjectsAreRefused : Prop :=
  ∀ (s : State) (v : Via) (idx sub : Nat) (data : List Byte) (records : Bool),
    (objectAt idx = none → s.writeRefusal v idx sub data = 0x407 ∧ s.readRefusal v idx sub records = 0x407) ∧
    ∀ f, objectAt idx = some f → f sub = none →
      s.writeRefusal v idx sub data = 0x402 ∧ s.readRefusal v idx sub records = 0x402

/-- The checks of an access and their codes (R392, R393, R410). -/
def Obligations.AccessChecksInOrder : Prop := Claim.WriteChecksInOrder ∧ Claim.UnlistedObjectsAreRefused

/-- R9: a write to any identity object is refused with a code of the 01xxh family, on every port and in every field-lock
state; OBJECT_WRITE of one changes nothing but what a refusal changes. -/
def Obligations.IdentityIsNeverWritten : Prop :=
  ∀ (s : State) (v : Via) (idx : BitVec 16) (sub : BitVec 8) (data : List Byte),
    idx.toNat ∈ [0x1000, 0x1008, 0x1009, 0x100a, 0x1018] → (entryOf idx.toNat sub.toNat).isSome = true →
      ∃ c, c / 256 = 1 ∧ s.writeRefusal v idx.toNat sub.toNat data = c ∧
        (s.reached v → Ends (.objectWrite v idx sub data) s
          ((s.heard v).refuse v idx.toNat sub.toNat c (decide (v.port = .n))))

/-- R94, R95, R393: an accepted write of a commit entry changes the shadow copy, also with the value it holds already, and sets
2002h.05; the active copy stays. -/
def Claim.CommitEntriesGoToShadow : Prop :=
  ∀ (s : State) (v : Via) (idx : BitVec 16) (sub : BitVec 8) (data : List Byte) (e : Entry),
    s.admits v idx.toNat sub.toNat data → entryOf idx.toNat sub.toNat = some e → e.apply = .commit →
      let h := s.heard v
      Ends (.objectWrite v idx sub data) s
        (({ h with shadow := tput dflt h.shadow (key idx.toNat sub.toNat) (leNum data), com := { h.com with dirty := true } } :
          State).complete v)

/-- R400: an accepted mapping count is the live value of 1600h+k.00 or 1A00h+k.00. -/
def Claim.MappingCountIsLive : Prop :=
  ∀ (s : State) (v : Via) (tx : Bool) (k : Fin 8) (n : Byte),
    let idx := (if tx then 0x1a00 else 0x1600) + k.val
    s.admits v idx 0 [n] →
      let h := s.heard v
      Ends (.pdoMappingCount v tx k n) s (({ h with live := tput dflt h.live (key idx 0) n.toNat } : State).complete v)

/-- R373: "save" and "load" queue a request for the classes of their sub-index. -/
def Claim.StoreAndRestoreAreQueued : Prop :=
  ∀ (s : State) (v : Via) (sub : Fin 5),
    let h := s.heard v
    let cls := if sub.val = 1 then [1, 2, 3] else [sub.val - 1]
    (s.admits v 0x1010 sub.val [0x73, 0x61, 0x76, 0x65] → Ends (.store v sub) s
      (({ h with jn := { h.jn with queue := h.jn.queue ++ [{ isStore := true, classes := cls }] } } : State).complete v)) ∧
    (s.admits v 0x1011 sub.val [0x6c, 0x6f, 0x61, 0x64] → Ends (.restore v sub) s
      (({ h with jn := { h.jn with queue := h.jn.queue ++ [{ isStore := false, classes := cls }] } } : State).complete v))

/-- R94, R302, R331, R332: an accepted write of a live entry that has no command of its own is the live value at once. F and A of a
generator wait besides for an update event; a threshold or a hysteresis stamps the DACs whose code in effect it moves (R310). -/
def Claim.LiveEntriesTakeEffectAtOnce : Prop :=
  ∀ (s : State) (v : Via) (idx : BitVec 16) (sub : BitVec 8) (data : List Byte), s.admits v idx.toNat sub.toNat data →
    let h := s.heard v
    let i := idx.toNat
    let k : State := { h with live := tput dflt h.live (key i sub.toNat) (leNum data) }
    let write := Instr.objectWrite v idx sub data
    ((i ∈ [0x2381, 0x2382, 0x2600] ∨ (0x2500 ≤ i ∧ i < 0x2504 ∧ sub.toNat = 8) ∨ (0x2700 ≤ i ∧ i < 0x2718) ∨
        (0x2730 ≤ i ∧ i < 0x2740) ∨ (i = 0x2a00 ∧ 2 ≤ sub.toNat)) →
      (∀ e, entryOf i sub.toNat = some e → e.apply = .live → Ends write s (k.complete v))) ∧
    (∀ g : Fin 4, i = 0x2910 + g.val →
      (sub = 3 → Ends write s ((k.updGen g.val (fun r => { r with fFresh := r.fFresh ++ [((v.cyc : Int), leNum data)] })).complete v)) ∧
      (sub = 4 → Ends write s ((k.updGen g.val (fun r => { r with aFresh := r.aFresh ++ [((v.cyc : Int), leNum data)] })).complete v)) ∧
      (sub ∈ [5, 6, 7] → Ends write s (k.complete v))) ∧
    (∀ m : Fin 16, i = 0x2800 + m.val → sub ∈ [4, 5, 6] →
      Ends write s ((k.updMonitor m.val (fun r => { r with
        loAt := if k.thresholdCode m.val false = h.thresholdCode m.val false then r.loAt else (v.cyc : Int)
        hiAt := if k.thresholdCode m.val true = h.thresholdCode m.val true then r.hiAt else (v.cyc : Int) })).complete v))

/-- Where accepted writes go: the shadow copy, a live value, the journal's queue (R94, R331, R373, R393, R400). -/
def Obligations.WritesReachTheirCopy : Prop :=
  Claim.CommitEntriesGoToShadow ∧ Claim.LiveEntriesTakeEffectAtOnce ∧ Claim.MappingCountIsLive ∧ Claim.StoreAndRestoreAreQueued

/-- R95–R98: COMMIT and CHECK_ONLY freeze the shadow copy, run the commit check on it, and stand at CHECKING; DISCARD copies the
active copy into the shadow copy. 2002h.09 holds the port. -/
def Claim.CommitRequestsTakeEffect : Prop :=
  ∀ (s : State) (v : Via),
    let h := s.heard v
    (s.admits v 0x2002 1 [1] → Ends (.commit v) s
      (({ h with com := { h.com with
        request := 1, port := v.port, result := 1, frozen := some h.shadow, fail := commitCheck h.checkIn } } : State).complete v)) ∧
    (s.admits v 0x2002 1 [3] → Ends (.checkOnly v) s
      (({ h with com := { h.com with
        request := 3, port := v.port, result := 1, frozen := some h.shadow, fail := commitCheck h.checkIn } } : State).complete v)) ∧
    (s.admits v 0x2002 1 [2] → Ends (.discard v) s
      (({ h with shadow := h.active, com := { h.com with request := 2, port := v.port, result := 6, dirty := false } } :
        State).complete v))

/-- R98, R100, R102: the verdict ends CHECKING: PENDING or, for check only, PASSED, with the report cleared; or REFUSED with the
failed rule's code, shortfall and subjects, and the refusal logged. -/
def Claim.VerdictEndsTheCheck : Prop :=
  ∀ (s : State) (cyc : Nat), s.coreRuns = true → s.pow.state ≠ .standby → s.com.result = 1 →
    let h := s.begin.at cyc
    (s.com.fail = none → Ends (.commitCheckVerdict cyc) s { h with com := { s.com with
        result := if s.com.request = 3 then 5 else 2, code := 0, shortfall := 0, subject := 0, subject2 := 0
        verdictAt := cyc, frozen := if s.com.request = 3 then none else s.com.frozen } }) ∧
    (∀ x, s.com.fail = some x → Ends (.commitCheckVerdict cyc) s (({ h with com := { s.com with
        result := 4, code := BitVec.ofNat 16 x.1, shortfall := min x.2.1 0xffffffff, subject := BitVec.ofNat 32 x.2.2.1
        subject2 := BitVec.ofNat 32 x.2.2.2, frozen := none, fail := none } } : State).refusal x.1 s.com.port x.2.2.1 0))

/-- The requests of 2002h and the verdict of the check (R95–R102). -/
def Obligations.CommitAndVerdict : Prop := Claim.CommitRequestsTakeEffect ∧ Claim.VerdictEndsTheCheck

/-- R192, R311, R336: a fault clear asks for what ends the fault; where nothing is in fault, or the clear of an output or
monitor waits already, it changes nothing but the access's own counts. -/
def Claim.FaultClearsAreRequested : Prop :=
  ∀ (s : State) (v : Via),
    let h := s.heard v
    (∀ l : Fin 5, s.admits v (0x2200 + l.val) 4 [1] → Ends (.laneFaultClear v l) s
      ((if (h.lane l.val).faulted then
          h.updLane l.val (fun r => { r with clearing := some (measureTicks (tickN h.active) 27 + 1), measured := [] })
        else h).complete v)) ∧
    (∀ m : Fin 16, s.admits v (0x2800 + m.val) 11 [1] → Ends (.monitorFaultClear v m) s
      ((if (h.monitor m.val).faulted = true ∧ (h.monitor m.val).clearReq = false then
          h.updMonitor m.val (fun r => { r with clearReq := true, okLow := false, okHigh := false })
        else h).complete v)) ∧
    (∀ n : Fin 4, s.admits v (0x2900 + n.val) 12 [1] → Ends (.outputFaultClear v n) s
      ((if (h.output n.val).fault = true ∧ (h.output n.val).clearReq = none then
          h.updOutput n.val (fun r => { r with clearReq := some (v.cyc : Int), clearOk := false })
        else h).complete v))

/-- R289, R307, R309, R337: a 1 written clears a pending bit or re-arms a capture register; a 0 leaves it. -/
def Claim.PendingBitsClearWhereOnesAreWritten : Prop :=
  ∀ (s : State) (v : Via),
    let h := s.heard v
    (∀ m : BitVec 64, s.admits v 0x2720 9 (leBytes 8 m.toNat) → Ends (.interruptPendingClear v m) s
      (({ h with touch := { h.touch with pending := h.touch.pending &&& ~~~m } } : State).complete v)) ∧
    (∀ m : BitVec 32, s.admits v 0x2810 11 (leBytes 4 m.toNat) → Ends (.monitorPendingClear v m) s
      (({ h with mon := { h.mon with pending := h.mon.pending &&& ~~~m } } : State).complete v)) ∧
    (∀ m : Byte, s.admits v 0x2920 5 [m] → Ends (.faultPendingClear v m) s
      (({ h with outPend := h.outPend &&& ~~~m.setWidth 4 } : State).complete v)) ∧
    (∀ m : Byte, s.admits v 0x2811 0x21 [m] → Ends (.captureRearm v m) s
      (({ h with caps := tmapVals (fun _ => {}) (fun k c => if m.getLsbD k then { c with held := false } else c) h.caps } :
        State).complete v))

/-- Clears of faults, pending bits and capture registers (R192, R289, R307, R309, R311, R336, R337). -/
def Obligations.ClearsAndPendingBits : Prop := Claim.FaultClearsAreRequested ∧ Claim.PendingBitsClearWhereOnesAreWritten

/-- R216, R222: a swap request waits with its instant; a totaliser clear waits for the next boundary, once however often it is
asked for. -/
def Claim.SwapAndClearWait : Prop :=
  ∀ (s : State) (v : Via),
    let h := s.heard v
    (∀ p : Byte, s.admits v 0x2380 1 [p] → Ends (.swapRequest v p) s
      (({ h with sense := { h.sense with swaps := h.sense.swaps ++ [(p.toNat, (v.cyc : Int))] } } : State).complete v)) ∧
    (∀ p : Fin 16, s.admits v (0x2300 + p.val) 9 [1] → Ends (.totaliserClear v p) s
      (({ h with sense := { h.sense with
          totClear := if p.val ∈ h.sense.totClear then h.sense.totClear else h.sense.totClear ++ [p.val] } } : State).complete v))

/-- R324, R332: a static code is held and released for the update events to come; RESET_ARM takes the tick of 2910h+g.06. -/
def Claim.StaticCodesAndArmsAreHeld : Prop :=
  ∀ (s : State) (v : Via),
    let h := s.heard v
    (∀ (n : Fin 4) (c : BitVec 16), s.admits v (0x2900 + n.val) 6 (leBytes 2 c.toNat) → Ends (.staticCode v n c) s
      ((h.updOutput n.val (fun r =>
        { r with held := c, released := true, fresh := r.fresh ++ [((v.cyc : Int), c)] })).complete v)) ∧
    (∀ g : Fin 4, s.admits v (0x2910 + g.val) 8 [1] → Ends (.resetArm v g) s
      ((h.updGen g.val (fun r =>
        { r with armed := true, again := false, next := BitVec.ofNat 32 (h.lcfg (0x2910 + g.val) 6) })).complete v)) ∧
    (∀ g : Fin 4, s.admits v (0x2910 + g.val) 8 [0] → Ends (.resetDisarm v g) s
      ((h.updGen g.val (fun r => { r with armed := false })).complete v))

/-- Requests that act at a later instant (R216, R222, R324, R332). -/
def Obligations.RequestsWaitForTheirInstant : Prop := Claim.SwapAndClearWait ∧ Claim.StaticCodesAndArmsAreHeld

/-- R258: a credit return by the consumer frees the oldest outstanding places within the access, and node 0 passes the credits
on (R470); beyond the outstanding count it is refused with 0601h, frees nothing, and counts in 2600h.07; 0 and more than 4096
are refused with 0403h. -/
def Obligations.CreditReturnFreesPlaces : Prop :=
  ∀ (s : State) (v : Via) (r : BitVec 8) (n : BitVec 16), s.reached v → s.startingUp = false → v.port = .h ∨ v.port = .s →
    s.consumes r.toNat v.port = true →
    let h := s.heard v
    let g := h.ring r.toNat
    (n.toNat = 0 ∨ 4096 < n.toNat → Ends (.creditReturn v r n) s (h.refuse v (0x2500 + r.toNat) 7 0x403 false)) ∧
    (1 ≤ n.toNat → n.toNat ≤ 4096 → n.toNat ≤ g.outstanding.length → Ends (.creditReturn v r n) s
      (((h.setRing r.toNat { g with free := g.free + n.toNat, outstanding := g.outstanding.drop n.toNat }).passCredits r.toNat
        (g.outstanding.take n.toNat)).complete v)) ∧
    (1 ≤ n.toNat → n.toNat ≤ 4096 → g.outstanding.length < n.toNat →
      Ends (.creditReturn v r n) s (h.refuse v (0x2500 + r.toNat) 7 0x601 false) ∧
      Reaches (.creditReturn v r n) s fun t =>
        t.rings = s.rings ∧ t.ledger.overReturn = satInc s.ledger.overReturn ∧
          t.diag.refusals.head? = some ⟨0x601, v.port, BitVec.ofNat 32 (key (0x2500 + r.toNat) 7), s.tick.counter⟩)

/-- R257: a read of records by the consumer passes the oldest unread ones, up to the number asked for, to outstanding, and
returns them whole and in order; with none unread it is not refused. -/
def Obligations.RecordReadsTakeTheOldest : Prop :=
  ∀ (s : State) (v : Via) (r : BitVec 8) (k : Fin 17), s.reached v → s.startingUp = false → v.port = .h ∨ v.port = .s →
    s.consumes r.toNat v.port = true →
    let h := s.heard v
    let g := h.ring r.toNat
    Ends (.readRecords v r k) s ((h.setRing r.toNat
      { g with outstanding := g.outstanding ++ g.unread.take k.val, unread := g.unread.drop k.val }).complete v) ∧
    (h.read v (0x2500 + r.toNat) 10 k.val true false).1 = 0 ∧
    (h.read v (0x2500 + r.toNat) 10 k.val true false).2.1 = (g.unread.take k.val).flatMap Rec.bytes

/-- R349–R352: an accepted request takes the slot, the lane, e, the window and the timeout of 2A00h.02–.06 and is in progress;
where the lanes are stopped it is ABORTED with cause 3, and a system calibration whose input is absent or in pin fault is
REJECTED-OPEN (R353). That the lanes and the input are judged at the request is the model's choice (log entry 53). -/
def Claim.CalibrationRequestsStart : Prop :=
  ∀ (s : State) (v : Via),
    let h := s.heard v
    let n := h.lcfg 0x2a00 2
    let isOpen := (h.slot n).absent || h.inputFault n
    let started := fun (req : BitVec 8) (kind : CalKind) => ({ h with cal := { h.cal with
      request := req, run := some kind, slot := n, lane := h.lcfg 0x2a00 3, expected := BitVec.ofNat 32 (h.lcfg 0x2a00 4)
      window := h.lcfg 0x2a00 5, left := h.lcfg 0x2a00 6, started := false, point := 0, xs := [], cause := 0 } } : State)
    let ends := fun (i : Instr) (req : BitVec 8) (kind : CalKind) =>
      (h.lanesRun = true → isOpen = false ∨ kind = .self → Ends i s ((started req kind).complete v)) ∧
      (h.lanesRun = false → Ends i s (((started req kind).verdict .aborted 3).complete v)) ∧
      (h.lanesRun = true → isOpen = true → kind ≠ .self → Ends i s (((started req kind).verdict .isOpen 0).complete v))
    (s.admits v 0x2a00 1 [1] → ends (.zeroCalibration v) 1 .zero) ∧
    (s.admits v 0x2a00 1 [2] → ends (.spanCalibration v) 2 .span) ∧
    (s.admits v 0x2a00 1 [3] → ends (.oneShotSelfCalibration v) 3 .self)

/-- R351, R353: an accepted CALIBRATION_ABORT ends the calibration in progress, ABORTED with cause 1. -/
def Claim.CalibrationAbortEndsIt : Prop :=
  ∀ (s : State) (v : Via), s.admits v 0x2a00 1 [4] →
    let h := s.heard v
    h.cal.run.isSome = true ∧
      Ends (.calibrationAbort v) s
        ((({ h with cal := { h.cal with request := 4 } } : State).verdict .aborted 1).complete v)

/-- R356: a verdict ends the calibration and writes its result, its cause (of an abort only) and its tick, for a system
calibration the result and the kind in the slot's status, and an event; nothing else. That the event names 2A00h.08 (log entry 25) and
that bits 6 and 7 of the status are kept (log entry 54) is DEDUCED. -/
def Claim.VerdictIsWritten : Prop :=
  ∀ (s : State) (x : Verdict) (cause : Nat),
    let t := s.verdict x cause
    t = { s with cal := t.cal, slots := t.slots, diag := t.diag } ∧
    t.cal.run = none ∧ t.cal.result = BitVec.ofNat 8 x.code ∧
      t.cal.cause = (if x = .aborted then BitVec.ofNat 8 cause else 0) ∧ t.cal.tick = s.tick.counter ∧
      t.cal.request = s.cal.request ∧
    (s.cal.system = true → (t.slot s.cal.slot).calStatus =
      ((s.slot s.cal.slot).calStatus &&& 0xc0) ||| BitVec.ofNat 8 (x.code + if s.cal.run = some .span then 16 else 0)) ∧
    (∀ n, n ≠ s.cal.slot ∨ s.cal.system = false → t.slot n = s.slot n) ∧
    t.diag.events = (⟨BitVec.ofNat 32 (key 0x2a00 8), s.tick.counter, BitVec.ofNat 32 x.code⟩ :: s.diag.events).take 32 ∧
      t.diag.eventN = satInc s.diag.eventN

/-- Calibration requests, their abort and what a verdict writes (R349–R353, R356). -/
def Obligations.CalibrationRequestsTakeEffect : Prop :=
  Claim.CalibrationRequestsStart ∧ Claim.CalibrationAbortEndsIt ∧ Claim.VerdictIsWritten

/-- R371, R443: a device-state record, with the lock state, 00h and the failed count, waits behind those that wait already;
making it changes nothing but the journal, and nothing in the flash. -/
def Claim.DeviceStateRecordWaits : Prop :=
  ∀ (s : State) (f : FieldLock) (n : Nat) (own : Bool),
    let t := s.devRecord f n own
    t = { s with jn := t.jn } ∧ t.jn.flash = s.jn.flash ∧ t.jn.queue = s.jn.queue ∧
      t.jn.dev = s.jn.dev ++ [{ typ := 4, cls := 0, payload := leBytes 1 f.code ++ [0] ++ leBytes 2 n, own := own }]

/-- R438, R443: SEAL is accepted in OPEN only; the device is SEALED, its fuse blown, the failed count as it was, and a
device-state record waits. RELOCK is accepted in an unlocked state only; the device is SEALED, the fuse as it was. -/
def Claim.SealAndRelockSeal : Prop :=
  ∀ (s : State) (v : Via),
    let h := s.heard v
    (s.admits v 0x2c10 2 [1] → s.lock.state = .unsealed ∧ Ends (.seal v) s
      ((({ h with lock := { h.lock with state := .isSealed, fuse := true, unlock := 0 } } : State).devRecord .isSealed
        h.lock.fails false).complete v)) ∧
    (s.admits v 0x2c10 2 [2] → (s.lock.state = .unlockedL1 ∨ s.lock.state = .unlockedL2) ∧ Ends (.relock v) s
      ((({ h with lock := { h.lock with state := .isSealed, unlock := 0 } } : State).devRecord .isSealed
        h.lock.fails false).complete v))

/-- R439–R441: an accepted attempt waits for its verdict while a device-state record with the count raised by one is written: a
password in SEALED with a password stored, a response to a challenge drawn, in SEALED or UNLOCKED-L1; neither in back-off. The
response spends its challenge. CHALLENGE draws one, valid for 60 s. -/
def Claim.AttemptsAreRecordedFirst : Prop :=
  ∀ (s : State) (v : Via),
    let h := s.heard v
    let wait := fun (response : Bool) (x : BitVec 128) => ({ h with lock := { h.lock with
      attempt := some { response := response, value := x, chal := h.lock.chal.getD 0, verified := false }
      verifyFailed := false } } : State).devRecord h.lock.state (min (h.lock.fails + 1) 65535) true
    (∀ x : BitVec 32, s.admits v 0x2c10 3 (leBytes 4 x.toNat) →
      s.lock.state = .isSealed ∧ s.lock.pwStored = true ∧ s.lock.backOff = 0 ∧
        Ends (.passwordAttempt v x) s ((wait false (BitVec.ofNat 128 x.toNat)).complete v)) ∧
    (∀ x : List Byte, s.admits v 0x2c10 5 x →
      (s.lock.state = .isSealed ∨ s.lock.state = .unlockedL1) ∧ s.lock.chal.isSome = true ∧ s.lock.backOff = 0 ∧
        Ends (.responseAttempt v x) s ((wait true (BitVec.ofNat 128 (leNum x))).spendChallenge.complete v)) ∧
    (s.reached v → h.readRefusal v 0x2c10 4 false = 0 → Ends (.challenge v) s
      (({ h with draws := h.draws + 1
                 lock := { h.lock with chal := some (Config.entropy h.draws), chalLeft := h.lockTimer 60 } } : State).complete v))

/-- The accesses to 2C10h that change the field lock (R438–R443). -/
def Obligations.FieldLockAccesses : Prop :=
  Claim.DeviceStateRecordWaits ∧ Claim.SealAndRelockSeal ∧ Claim.AttemptsAreRecordedFirst

/-- R15: the commit check refuses a configuration with 12 + G ≥ N with 0301h, and 0301h refuses no other. -/
def Obligations.GuardMustLeaveRoom : Prop :=
  ∀ c : CheckIn,
    (tickN c.frozen ≤ 12 + guardG c.frozen → ∃ x, commitCheck c = some (0x301, x)) ∧
    (12 + guardG c.frozen < tickN c.frozen → ∀ x, commitCheck c ≠ some (0x301, x))

/-- R482, R483, R250: a tick's first supply stamp is the code of AVDD; below the warning level it sets SUP for the tick, counts,
and the lowest stamp follows. The stamp marks the tick's records in every ring. A stamp of a stopped tick, or a second one, brings
the level of VIO only. That a second stamp marks nothing (DEDUCED, log entry 8) and that the stamp brings VIO (DESIGN CHOICE, log entry
85) is the model's choice. -/
def Obligations.SupplyStampMarksItsTick : Prop :=
  ∀ (s : State) (uv vio : Nat), s.coreRuns = true →
    let code := stampCode uv
    let sup := decide (2000 + 15 * code < s.acfg 0x2e00 1)
    (s.tick.on = false ∨ (s.info s.tick.counter).stamped = true →
      Leaves (.supplyStamp ⟨uv, vio⟩) s { s with sup := { s.sup with vioMv := vio } }) ∧
    (s.tick.on = true → (s.info s.tick.counter).stamped = false → Reaches (.supplyStamp ⟨uv, vio⟩) s fun t =>
      t.sup.stamp = BitVec.ofNat 8 code ∧ t.sup.supNow = sup ∧ t.sup.vioMv = vio ∧
        t.sup.supTicks = (if sup then satInc s.sup.supTicks else s.sup.supTicks) ∧
        t.sup.lowest = some (match s.sup.lowest with
          | some x => if BitVec.ofNat 8 code < x then BitVec.ofNat 8 code else x
          | none => BitVec.ofNat 8 code) ∧
        t.rings = tmapVals ringDflt (fun _ => Ring.stamp s.tick.counter sup (BitVec.ofNat 8 code)) s.rings ∧
        t.sameConfig s ∧ t.sameLanes s ∧ t.sameIo s ∧ t.ledger = s.ledger ∧ t.clk = s.clk ∧ t.pow = s.pow ∧ t.lock = s.lock)

/-- R484: a rind check that finds nothing moves to the next of 96 configuration segments and does nothing else. -/
def Claim.CleanRindCheckOnlyMovesOn : Prop :=
  ∀ s : State, s.coreRuns = true → s.tick.on = true → s.clk.causes.contains 3 = false → s.ledgerHolds = true →
    Leaves (.rindCheck false false) s { s with sup := { s.sup with segment := (s.sup.segment + 1) % 96 } }

/-- R484, R485: a mismatch of the signatures or the configuration begins an INTEGRITY-STOP with cause 01h, a ledger mismatch one
with cause 02h: outputs hold mid-scale, every source is open, no lane converts, what was latched is resolved as whey of the tick
that runs, and the event of 2E00h.06 and an EMCY 5000h carry the cause. That both at once give 01h is the model's choice
(DESIGN CHOICE, log entry 66). -/
def Claim.MismatchStopsTheDevice : Prop :=
  ∀ (s : State) (sig conf : Bool), s.coreRuns = true → s.tick.on = true → s.clk.causes.contains 3 = false → s.sup.stopCause = 0 →
    (sig || conf || !s.ledgerHolds) = true →
    let cause : Nat := if sig || conf then 1 else 2
    Reaches (.rindCheck sig conf) s fun t =>
      t.sup.stopCause = BitVec.ofNat 8 cause ∧
        t.diag.events.head? = some ⟨BitVec.ofNat 32 (key 0x2e00 6), s.tick.counter, BitVec.ofNat 32 cause⟩ ∧
        (s.emcyOn = true → t.can.errs = (BitVec.ofNat 32 (0x5000 + 0x10000 * cause) :: s.can.errs).take 8) ∧
        (∀ n, (s.slot n).run.isSome = true ∨ (s.slot n).pend.isSome = true →
          ∃ w ∈ t.whey, w.slot = n ∧ w.reason = .integrityStop ∧ w.tick = s.tick.counter) ∧ t.sup.mismatches = satInc s.sup.mismatches ∧ t.lanesRun = false ∧
        (∀ n, n < 4 → s.outMode n ≠ 0 → (t.output n).held = 0x8000 ∧ (t.output n).released = false) ∧
        (∀ e ∈ t.sources, e.2.isOpen = true) ∧ (∀ l, (t.lane l).conv = none) ∧
        (∀ n, (t.slot n).run = none ∧ (t.slot n).pend = none) ∧ t.sameConfig s

/-- The rind check of a tick (R484, R485). -/
def Obligations.RindChecksStopOnMismatch : Prop := Claim.CleanRindCheckOnlyMovesOn ∧ Claim.MismatchStopsTheDevice

/-- R486: while a stop is in force a further mismatch, of the signatures, the configuration or the ledger, only counts. -/
def Claim.FurtherMismatchesOnlyCount : Prop :=
  ∀ (s : State) (sig conf : Bool), s.coreRuns = true → s.tick.on = true → s.clk.causes.contains 3 = false → s.sup.stopCause ≠ 0 →
    (sig || conf || !s.ledgerHolds) = true →
    Leaves (.rindCheck sig conf) s
      { s with sup := { s.sup with segment := (s.sup.segment + 1) % 96, mismatches := satInc s.sup.mismatches } }

/-- R486: a trigger that is latched while a stop is in force is accepted and resolved at once, with the reason of the stop, in
the tick it belongs to; no slot changes. -/
def Claim.StopResolvesTriggersAtOnce : Prop :=
  ∀ (s : State) (n : Nat) (t : TickNo), s.stopped = true →
    s.accept n t = { s with
      ledger := { s.ledger with accepted := s.ledger.accepted + 1 }
      whey := addWhey { slot := n, reason := if s.sup.shutdown then .thermalStop else .integrityStop, tick := t, count := 1,
                        dly := 0, stl := false, ring := none } s.whey }

/-- A stop in force (R486). -/
def Obligations.StopsInForce : Prop := Claim.FurtherMismatchesOnlyCount ∧ Claim.StopResolvesTriggersAtOnce

/-- R61: a QUEUE slot whose pending trigger waits when a new trigger is latched yields BUSY for the new trigger, whatever the
ticks of both. The premises leave out what resolves a trigger at its latch for another reason (R189, R293, R486). -/
def Obligations.FullQueueIsBusy : Prop :=
  ∀ (s : State) (n : Nat) (t : TickNo) (a b : Trig), s.stopped = false → (s.slot n).absent = false → s.laneLost n t = false →
    slotCfg s.active n 13 = 0 → (s.slot n).run = some a → (s.slot n).pend = some b →
      s.accept n t = { s with
        ledger := { s.ledger with accepted := s.ledger.accepted + 1 }
        whey := addWhey { slot := n, reason := .busy, tick := t, count := 1, dly := 0, stl := false, ring := none } s.whey }

/-- R53: an edge at TRIG reaches its latch three cycles after it, for the slots of its direction; before its own instant nothing
else happens to it. -/
def Claim.EdgesGoToTheirLatch : Prop :=
  ∀ (s : State) (rising : Bool) (cyc : Nat), s.coreRuns = true →
    (s.tick.on = true → Ends (.trigEdge rising cyc) s
      ((s.begin.at cyc).willLatch (if rising then [1, 3] else [2, 3]) (cyc + 3))) ∧
    (s.tick.on = false → Leaves (.trigEdge rising cyc) s s)

/-- R54–R56, R115: what is latched at a cycle is one event for every slot of the active copy with one of its sources, and every
k-th event of a slot is a trigger; none waits for that cycle any more. In a drain no event counts (R496). -/
def Claim.LatchedEventsAreTakenOnce : Prop :=
  ∀ (s : State) (c : Nat), (s.tick.starts.filter (fun e => decide (8 * e < c))) = [] →
    let codes := (s.tick.latches.filter (fun k => k.1 = c)).map (·.2)
    let t := s.latchCycle c
    (∀ n, (t.slot n).events = (s.slot n).events +
      if s.pow.noTrig then 0 else (slotsWith s.active codes).count n) ∧
    (s.pow.noTrig = true → t.ledger = s.ledger ∧ t.whey = s.whey) ∧
    (∀ n, s.pow.noTrig = false → slotsWith s.active codes = [n] → t.ledger.accepted =
      s.ledger.accepted + if (s.slot n).events % slotCfg s.active n 12 = 0 then 1 else 0) ∧
    t.tick.latches = s.tick.latches.filter (fun k => k.1 ≠ c) ∧ t.sameConfig s ∧ t.sameIo s ∧ t.formed = s.formed ∧
      t.rings = s.rings ∧ t.sources = s.sources

/-- R53–R62: time that reaches a cycle takes what is latched up to it and before the boundary that ends the tick, and changes nothing but triggers, what they start and
resolve, and a calibration they end. -/
def Claim.TimeTakesWhatIsLatched : Prop :=
  ∀ (s : State) (c : Nat),
    let t := s.at c
    t.sameButTriggers s ∧ t.tick.cyc = max s.tick.cyc c ∧ 
      t.tick.latches = s.tick.latches.filter (fun k => decide (c < k.1) || (s.tick.on && decide (s.tickCycles ≤ k.1)))

/-- An edge at TRIG, its latch, and the events it makes (R53–R56). -/
def Obligations.TrigEdgeIsAnEvent : Prop :=
  Claim.EdgesGoToTheirLatch ∧ Claim.LatchedEventsAreTakenOnce ∧ Claim.TimeTakesWhatIsLatched

/-- R47, R48: a conversion runs for one occupancy of its slot's preset from its start edge; at its end it forms its result, unless a
trigger latched before has taken its place, and then the free lanes start what waits. -/
def Claim.ConversionsEndAtTheirEdge : Prop :=
  ∀ (s : State) (l : Fin 4) (x : Int) (ref : RefLevel) (c : Conv), s.coreRuns = true → (s.lane l.val).conv = some c →
    let e := c.start + occupancy (slotPreset s.active c.slot)
    let h := (s.begin.latchTo (8 * e - 1)).startsBefore (8 * e)
    let tail := fun (u : State) => ((u.latchTo (8 * e)).startAll e).at (8 * e)
    ((h.lane l.val).conv = some c → Ends (.conversionEnd l x ref) s (tail (h.endConv l.val c x ref))) ∧
    ((h.lane l.val).conv ≠ some c → Ends (.conversionEnd l x ref) s (tail h))

/-- R47, R49, R87, R249: the result of a conversion is one data record of its slot, of the running tick, in the slot's ring, with
the ticks its trigger waited as DLY; the lane is free and the slot serves its pending trigger. That DLY stops at 15 and is told by the
numbers as stepped is the model's choice (DESIGN CHOICE, log entry 84). -/
def Claim.ConversionFormsARecord : Prop :=
  ∀ (s : State) (l : Nat) (x : Int) (ref : RefLevel) (c : Conv),
    let t := s.endConv l c x ref
    (∃ r more, t.formed = s.formed ++ ⟨slotCfg s.active c.slot 10, r, 1⟩ :: more ∧ r.kind = 0 ∧ r.tick = s.tick.counter ∧
      r.slot = BitVec.ofNat 7 c.slot ∧ r.cal = c.byE ∧
      r.word12 = BitVec.ofNat 4 (min 15 (s.tick.counter - c.trig.tick).toNat) ++ (0 : BitVec 12)) ∧
    (t.lane l).conv = none ∧ (t.slot c.slot).run = (s.slot c.slot).pend ∧ (t.slot c.slot).pend = none ∧
      (∀ n, n ≠ c.slot → (t.slot n).run = (s.slot n).run ∧ (t.slot n).pend = (s.slot n).pend) ∧ t.rings = s.rings ∧
      t.whey = s.whey ∧ t.ledger = s.ledger ∧ t.tick.counter = s.tick.counter ∧ t.active = s.active ∧ t.shadow = s.shadow ∧ t.live = s.live

/-- R200, R205: an output sample of a connected lane is the lane's latest, settled once its input has been connected for one
occupancy of its preset (R46), at eight system clock cycles a modulator cycle. -/
def Claim.OutputSampleIsKept : Prop :=
  ∀ (s : State) (p : Fin 5) (x : Int) (ref : RefLevel) (cyc l n conn : Nat), s.coreRuns = true →
    let h := s.begin.at cyc
    h.laneFor p.val = some l → (h.lane p.val).conn = some conn → dedSlot s.active l = some n →
    Reaches (.dedicatedOutputSample p x ref cyc) s fun t =>
      (∃ m, (t.lane p.val).last = some m ∧ m.settled = decide (8 * occupancy (slotPreset s.active n) ≤ conn + cyc) ∧
        m.at_ = (cyc : Int)) ∧ (t.lane p.val).conn = some conn ∧
      (∀ q, q ≠ p.val → t.lane q = h.lane q) ∧ t.sameConfig s ∧ t.sameResults h ∧ t.sameIo s ∧ t.tick = h.tick

/-- The results of lanes, multiplexed and dedicated (R47, R205, R249). -/
def Obligations.ConversionsAndSamples : Prop :=
  Claim.ConversionsEndAtTheirEdge ∧ Claim.ConversionFormsARecord ∧ Claim.OutputSampleIsKept

/-- R83, R250, R254, R255, R264: RECORD_STORE stores the oldest record formed, but for monitor events: in a free place of an open
ring, marked for its tick, with the ring's next SEQ, its triggers placed in the ledger. -/
def Obligations.RecordStoreFillsAPlace : Prop :=
  ∀ (s : State) (f : Formed), s.coreRuns = true → s.formed.find? (fun f => !f.r.isMonitor) = some f → f.r.kind = 0 →
    s.acfg (0x2500 + f.ring) 1 ≠ 0 → (s.ring f.ring).closed = false → (s.ring f.ring).free ≠ 0 →
    let g := s.ring f.ring
    let i := s.info f.r.tick
    let r := { f.r with hold := i.hold, sup := i.sup, supply := i.supply, stamped := i.stamped }
    Reaches .recordStore s fun t =>
      t.formed = s.formed.erase f ∧
        ((s.acfg (0x2500 + f.ring) 3 ≠ 1) →
          t.ring f.ring = { g with free := g.free - 1, unread := g.unread ++ [r.withSeq g.seq], seq := g.seq + 1 }) ∧
        t.ledger = { s.ledger with data := s.ledger.data + 1 } ∧ t.sameConfig s ∧ t.sameLanes s ∧ t.sameTime s ∧ t.sameIo s

/-- R253, R257–R259, R262, R267: every operation on a ring's records keeps the number of its places: a record stored in a free
place, records taken, credits returned, a RING-FULL record, a change of the consumer. -/
def Claim.RingPlacesAreKept : Prop :=
  ∀ (g : Ring) (r : Rec) (n : Nat) (taken rest : List Counted),
    (g.free ≠ 0 → (g.put r).places = g.places) ∧ (g.take n).places = g.places ∧ (g.credit n).places = g.places ∧
      (g.free ≠ 0 → (g.fullWritten r taken rest).places = g.places) ∧ g.reconsume.places = g.places ∧
      (g.count r).places = g.places

/-- R261, R264, R268: a record that is due to a ring is stored or counted, and its triggers are placed in the ledger exactly where it
is stored: one for data and totaliser records, the count of a whey record. A ring without capacity takes none; a whey record due to
it places its count in the ledger and in 2600h.05 alone, with an event. Other rings stay. -/
def Claim.DueRecordsAreStoredOrCounted : Prop :=
  ∀ (s : State) (g : Nat) (r : Rec),
    let t := s.recordDue g r
    let whey := if r.kind = 1 then r.count else 0
    (∀ q, q ≠ g → t.ring q = s.ring q) ∧
    (s.acfg (0x2500 + g) 1 ≠ 0 →
      ((s.ring g).takes = true → (t.ring g).unread.length = (s.ring g).unread.length + 1 ∧
        t.ledger = { s.ledger with
          data := s.ledger.data + (if r.kind = 0 ∨ r.kind = 4 then 1 else 0), whey := s.ledger.whey + whey }) ∧
      ((s.ring g).takes = false → (t.ring g).unread = (s.ring g).unread ∧ (t.ring g).closed = true ∧ t.ledger = s.ledger)) ∧
    (s.acfg (0x2500 + g) 1 = 0 →
      t.rings = s.rings ∧
      (r.kind ≠ 1 → t = s) ∧
      (r.kind = 1 → t.ledger = { s.ledger with whey := s.ledger.whey + r.count, only := s.ledger.only + r.count } ∧
        t.diag = s.diag.event s.tick.counter 0x2600 5 (s.ledger.only + r.count)))

/-- Places of a ring, and records due to one (R253, R261, R264). -/
def Obligations.RingsKeepTheirPlaces : Prop := Claim.RingPlacesAreKept ∧ Claim.DueRecordsAreStoredOrCounted

/-- R131, R132, R136, R137: of a clock that has run, the first clock fault 01h–03h stops the tick, the core takes the clock that is
left, 2011h.06 holds a self-check frequency measured outside 6.4–9.6 MHz, and an INTEGRITY-STOP with cause 03h begins (a ledger stop
in force stays one: DEDUCED, log entry 66). From when each clock counts as having run is DEDUCED (log entry 67); that 2011h.03
is the event's subject is log entry 25. -/
def Claim.ClockFaultStopsTheTick : Prop :=
  ∀ (s : State) (c : ClockCause) (cyc : Nat), s.coreRuns = true → s.detects c = true → s.pow.state ≠ .standby → s.clockFault = false →
    (causeCode c = 3 → s.clk.core ≠ .selfCheck) →
    Reaches (.clockFault c cyc) s fun t =>
      t.tick.on = false ∧ t.clk.causes = s.clk.causes ++ [causeCode c] ∧ t.clk.faults = satInc s.clk.faults ∧
        t.clk.tick = s.tick.counter ∧ t.clk.core = (if causeCode c = 3 then .system else .selfCheck) ∧
        t.clk.pll = (if causeCode c = 3 then s.clk.pll else 3) ∧ t.clk.scKhz = khzAfter s.clk.scKhz c ∧
        t.diag.events.head? = some ⟨BitVec.ofNat 32 (key 0x2011 3), s.tick.counter, BitVec.ofNat 32 (satInc s.clk.faults)⟩ ∧
        t.sup.stopCause = (if s.sup.stopCause = 2 then 2 else 3) ∧ t.lanesRun = false ∧
        (∀ n, n < 4 → s.outMode n ≠ 0 → (t.output n).held = 0x8000) ∧ t.tick.counter = s.tick.counter ∧ t.sameConfig s

/-- R138: without a good clock the core stops: a fault 01h or 02h beside 03h, or the self-check RC failing while the core runs on it,
before the first PLL lock too (DEDUCED, log entry 67). Nothing else changes. -/
def Claim.NoGoodClockStopsTheCore : Prop :=
  ∀ s : State, s.coreRuns = true →
    let u := { s with clk := { s.clk with coreStopped := true }, tick := { s.tick with on := false } }
    (∀ (c : ClockCause) (cyc : Nat), s.detects c = true → s.pow.state ≠ .standby → causeCode c ∉ s.clk.causes →
      (if causeCode c = 3 then s.clk.core = .selfCheck else 3 ∈ s.clk.causes) → Leaves (.clockFault c cyc) s u) ∧
    (s.boot ≠ .inReset → s.pow.state ≠ .standby → s.clk.core = .selfCheck → Leaves .coreStop s u)

/-- Clock faults (R131, R132, R137, R138). -/
def Obligations.ClockFaults : Prop := Claim.ClockFaultStopsTheTick ∧ Claim.NoGoodClockStopsTheCore

/-- R135, R136, R499: the XO restarts and the PLL locks, which clears faults 01h and 02h and returns the core to the system
output; a restarted self-check RC that qualifies clears 03h. That one lock clears both faults, and that 2011h.05 reads 01h from the
restart on, is the model's choice (DESIGN CHOICE, log entry 67). -/
def Claim.ClocksRecover : Prop :=
  ∀ s : State, s.coreRuns = true →
    (s.netHalted = true → Leaves .xoRestart s { s with clk := { s.clk with pll := 1 } }) ∧
    (∀ ext : Bool, s.clk.pll = 1 → s.pow.state ≠ .standby → Reaches (.pllLock ext) s fun t =>
      t.clk.pll = 2 ∧ t.clk.core = .system ∧ t.clk.seen = true ∧ t.clk.causes = s.clk.causes.filter (fun c => c ≠ 1 && c ≠ 2) ∧
        t.tick.on = s.tick.on ∧ t.sup = s.sup ∧ t.sameConfig s) ∧
    (3 ∈ s.clk.causes → Leaves .selfCheckRestart s { s with clk := { s.clk with scTry := true } }) ∧
    (∀ khz : BitVec 16, 3 ∈ s.clk.causes → s.clk.scTry = true → 6400 ≤ khz.toNat → khz.toNat ≤ 9600 →
      Reaches (.selfCheckQualified khz) s fun t =>
        t.clk.causes = s.clk.causes.filter (· ≠ 3) ∧ t.clk.scKhz = khz ∧ t.clk.scTry = false ∧ t.tick.on = s.tick.on ∧
          t.sup = s.sup ∧ t.sameConfig s)

/-- R131, R133, R137: a loss of the always-on RC, a frequency outside 24–42 kHz, enters the causes and its counts and stops nothing;
the recovery, a frequency back inside, clears it. That it counts in 2011h.03 and .04 and writes no event is DEDUCED
(log entry 67). -/
def Claim.AlwaysOnLossStopsNothing : Prop :=
  ∀ (s : State) (hz : BitVec 16), s.coreRuns = true →
    (s.boot ≠ .inReset → 4 ∉ s.clk.causes → hz.toNat < 24000 ∨ 42000 < hz.toNat → Leaves (.alwaysOnLoss hz) s { s with clk := { s.clk with
        causes := s.clk.causes ++ [4], faults := satInc s.clk.faults, tick := s.tick.counter, aoHz := hz } }) ∧
    (4 ∈ s.clk.causes → 24000 ≤ hz.toNat → hz.toNat ≤ 42000 → Leaves (.alwaysOnRecovery hz) s { s with clk := { s.clk with
        causes := s.clk.causes.filter (· ≠ 4), aoHz := hz } })

/-- Recovery of the clocks, and the always-on RC (R133, R135, R136). -/
def Obligations.ClocksComeBack : Prop := Claim.ClocksRecover ∧ Claim.AlwaysOnLossStopsNothing

/-- R20–R23: a reference event of the source in force waits with its target, its instant plus P; one outside the capture window
of an anchored loop is an outlier. TICKIN is always heard, SYNC outside STOPPED, TICK on a ring that carries it (on which it counts in
ring state 03h: DEDUCED, log entry 65). That an outlier counts on arrival (log entry 34), ends lock fault 2 as any event does (log entry
35), and belongs to the instants of its block (log entry 34) is DEDUCED. -/
def Claim.ReferenceEventsEnterTheLoop : Prop :=
  ∀ (s : State) (src : RefSource) (inst : Int), s.coreRuns = true → s.tick.on = true → s.acfg 0x2000 2 = refNum src →
    (src = .sync → s.can.started = true ∧ s.can.nmt ≠ .stopped ∧ s.netHalted = false) →
    (src = .galtlink → s.tickCounts = true) →
    let x : Rat := s.refInstant src inst + s.acfg 0x2000 4
    let inside := inWindow s.tick.anchor (lockWindow (refNum src) (interval s.active)) x
    ((s.tick.anchored = false ∨ inside = true) →
      Leaves (.referenceEvent src inst) s { s with tick := { s.tick with
        arrived := s.tick.arrived + 1, blockSeen := s.tick.blockSeen ++ [x]
        fault := (if s.tick.fault = 2 then 0 else s.tick.fault), events := s.tick.events ++ [x] } }) ∧
    (s.tick.anchored = true → inside = false →
      Leaves (.referenceEvent src inst) s { s with tick := { s.tick with
        arrived := s.tick.arrived + 1, blockSeen := s.tick.blockSeen ++ [x]
        fault := (if s.tick.fault = 2 then 0 else s.tick.fault)
        outliers := satInc s.tick.outliers } })

/-- R30: the tick in which HOLDOVER reaches 2000h.05 asks for ADRIFT at its end. -/
def Claim.HoldoverLimitAsksForAdrift : Prop :=
  ∀ s : State, s.coreRuns = true → s.tick.on = true → s.tick.lock = .holdover → s.tick.lockNext = none →
    s.acfg 0x2000 5 ≠ 0 → s.acfg 0x2000 5 ≤ s.tick.holdover + 1 →
      Leaves .holdoverLimit s { s with tick := { s.tick with lockNext := some .adrift } }

/-- What reaches the lock loop between its evaluations (R20–R23, R30). -/
def Obligations.LockLoopInputs : Prop := Claim.ReferenceEventsEnterTheLoop ∧ Claim.HoldoverLimitAsksForAdrift

/-- R23, R25, R30: an anchor boundary without a usable event counts in 2001h.07 and moves the next anchor by the interval and a
stretch of the running tick; the third in a row of a locked loop that is anchored asks for HOLDOVER, cause 1. That the count of good
events begins again at a miss is the model's choice (DESIGN CHOICE, log entry 35). That lock fault 2 is reported in ACQUIRING only,
where no event at all has arrived, outliers included, is DEDUCED (log entry 35). -/
def Claim.MissingEventsAreCounted : Prop :=
  ∀ s : State, s.coreRuns = true → s.tick.on = true → s.acfg 0x2000 2 ≠ 0 → s.tick.events = [] →
    Reaches .lockLoopEvaluation s fun t =>
      t.tick.missing = satInc s.tick.missing ∧ t.tick.good = 0 ∧ t.tick.anchor = s.tick.nextAnchor (interval s.active) ∧
        t.tick.lock = s.tick.lock ∧ t.tick.f = s.tick.f ∧ t.tick.arrived = 0 ∧
        t.tick.fault = (if s.tick.lock = .acquiring ∧ s.tick.arrived = 0 then 2 else s.tick.fault) ∧
        (s.tick.lock = .locked → s.tick.anchored = true → 2 ≤ s.tick.unusable → s.tick.lockNext = none →
          t.tick.lockNext = some .holdover ∧ t.tick.holdCause = 1) ∧
        t.sameConfig s ∧ t.sameLanes s ∧ t.sameResults s ∧ t.sameIo s ∧ t.sameRest s ∧ t.clk = s.clk ∧ t.pow = s.pow

/-- R23, R24: with an anchored loop the first event of the window is usable, the others are outliers, and the correction stays
within 1000 ppm of the interval. -/
def Claim.UsableEventSteersWithinLimits : Prop :=
  ∀ (s : State) (x : Rat) (more : List Rat), s.coreRuns = true → s.tick.on = true → s.acfg 0x2000 2 ≠ 0 →
    s.tick.events = x :: more → s.tick.anchored = true → s.tick.lock = .acquiring ∨ s.tick.lock = .locked →
    Reaches .lockLoopEvaluation s fun t =>
      t.tick.events = [] ∧ t.tick.outliers = satAdd s.tick.outliers more.length ∧ t.tick.unusable = 0 ∧
        -(1 / 1000 : Rat) ≤ t.tick.f ∧ t.tick.f ≤ 1 / 1000 ∧ t.tick.missing = s.tick.missing ∧
        t.tick.anchor = s.tick.nextAnchor (interval s.active) ∧ t.sameConfig s ∧ t.sameLanes s ∧ t.sameResults s

/-- The evaluation at an anchor boundary (R23–R25, R30). -/
def Obligations.LockLoopEvaluates : Prop := Claim.MissingEventsAreCounted ∧ Claim.UsableEventSteersWithinLimits

/-- R144, R145: a pin outside its range enters pin fault, counts it with its tick, and every source with that pin opens; after
100 µs inside it waits for the boundary that closes its switches. Other pins stay. -/
def Claim.PinFaultIsolatesThePin : Prop :=
  ∀ (s : State) (x : Fin 40), s.coreRuns = true → s.boot ≠ .inReset →
    (∀ above : Bool, (s.pin x.val).fault = 0 → Reaches (.pinFaultEntry x above) s fun t =>
      t.pin x.val = { fault := if above then 1 else 2, left := false, entries := satInc (s.pin x.val).entries,
                      tick := s.tick.counter } ∧
        (∀ y, y ≠ x.val → t.pin y = s.pin y) ∧
        (∀ e ∈ sourcesOn s.active, x.val ∈ sourcePins s.active e → (t.source e).isOpen = true ∧ (t.source e).pinFault = true) ∧
        t.sameConfig s ∧ t.sameResults s ∧ t.sameTime s) ∧
    ((s.pin x.val).fault ≠ 0 →
      Leaves (.pinFaultExit x) s (s.updPin x.val (fun p => { p with left := true })))

/-- R152: a reading of a closed source judges CLIP in voltage mode, COMPLIANCE in current mode, and is kept. -/
def Claim.ExcitationReadingsAreJudged : Prop :=
  ∀ (s : State) (e : Fin 8) (i need avdd : Nat), s.coreRuns = true → s.tick.on = true → s.acfg (0x2140 + e.val) 1 ≠ 0 →
    (s.source e.val).isOpen = false →
    let volt := decide (s.acfg (0x2140 + e.val) 2 = 0)
    Reaches (.excitationReading e i need avdd) s fun t =>
      t.source e.val = { s.source e.val with
        clip := volt && (decide (avdd < need + 200000) || decide (30000000 ≤ i))
        compl := !volt && decide (avdd < need + 500000), currentNa := i } ∧
      (∀ k, k ≠ e.val → t.source k = s.source k) ∧ t.sameConfig s ∧ t.sameResults s ∧ t.sameTime s ∧ t.lanes = s.lanes

/-- R173, R514: a reading of VREFO sets 2210h.07 and its status bit outside 2.498–2.502 V. -/
def Claim.VrefoReadingIsJudged : Prop :=
  ∀ (s : State) (uv : BitVec 32), s.coreRuns = true → s.converterOn = true →
    Leaves (.vrefoReading uv) s { s with sense := { s.sense with
      vrefoUv := uv, vrefoOut := decide (uv.toNat < 2498000 ∨ 2502000 < uv.toNat) } }

/-- R142, R145, R173, R323, R491, R529: what pins do: with VIO below 2.5 V every logic output is high impedance; before tick 0 the
crosspoint pins, the outputs and VREFO are, and TICKOUT and MON are low; a pin in fault or without a role and an output in HIZ are high
impedance; VREFO is driven where 2210h.05 is 1. -/
def Claim.PinsFollowTheState : Prop :=
  ∀ (s : State) (sel : Bool) (x : Fin 40) (n k : Fin 4),
    (s.sup.vioMv < 2500 → ∀ p ∈ [OutPin.tickout, .mon k, .wake, .inta, .intb, .sdo, .ctxd, .svc], s.drive sel p = .highZ) ∧
    (s.boot ≠ .running → s.drive sel (.xp x) = .highZ ∧ s.drive sel (.out n) = .highZ ∧ s.drive sel .vrefo = .highZ ∧
      (2500 ≤ s.sup.vioMv → s.drive sel .tickout = .low ∧ s.drive sel (.mon k) = .low)) ∧
    ((s.pin x.val).fault ≠ 0 ∨ roleBits s.active x.val = 0 → s.drive sel (.xp x) = .highZ) ∧ ((s.output n.val).hiZ = true → s.drive sel (.out n) = .highZ) ∧
    (s.boot = .running → s.pow.state ≠ .standby → (s.drive sel .vrefo = .active ↔ s.acfg 0x2210 5 = 1))

/-- Events of the crosspoint and the excitation, and what pins do (R144, R145, R152, R173, R491, R529). -/
def Obligations.CrosspointEvents : Prop :=
  Claim.PinFaultIsolatesThePin ∧ Claim.ExcitationReadingsAreJudged ∧ Claim.VrefoReadingIsJudged ∧ Claim.PinsFollowTheState

/-- R177, R178: a measurement within its limits, of a point the phase measures, moves the point a quarter of the way from the
next boundary on. -/
def Claim.MeasurementMovesAPoint : Prop :=
  ∀ (s : State) (p : Fin 5) (j : Fin 27) (z sp : Int), s.coreRuns = true → s.tick.on = true → (s.lane p.val).faulted = false →
    s.windowOpen p.val = true → (pointsOf s.active (s.quad.phase / 2)).contains j.val = true → sp ≠ z →
    let m : Rat × Rat := ((z : Rat), (7864320 : Rat) / ((sp - z : Int) : Rat) - 1)
    let old := s.point p.val j.val
    withinLimits p.val j.val m = true →
    Leaves (.quadrilleMeasurement p j z sp) s (s.updLane p.val (fun r =>
      { r with newPoints := r.newPoints ++ [(j.val, old.1 + (m.1 - old.1) / 4, old.2 + (m.2 - old.2) / 4)] }))

/-- R350, R352: the points of a one-shot self-calibration are taken in ascending order; the last one, 26, is the verdict
ACCEPTED. -/
def Claim.SelfCalibrationTakesPointsInOrder : Prop :=
  ∀ (s : State) (z sp : Int), s.coreRuns = true → s.cal.run = some .self → s.cal.started = true → sp ≠ z →
    let m : Rat × Rat := ((z : Rat), (7864320 : Rat) / ((sp - z : Int) : Rat) - 1)
    withinLimits s.cal.lane s.cal.point m = true →
    (s.cal.point ≠ 26 → Leaves (.selfCalibrationPoint z sp) s
      { s.updLane s.cal.lane (fun r => { r with newPoints := r.newPoints ++ [(s.cal.point, m)] }) with
        cal := { s.cal with point := s.cal.point + 1 } }) ∧
    (s.cal.point = 26 → Reaches (.selfCalibrationPoint z sp) s fun t =>
      t.cal.run = none ∧ t.cal.result = 1 ∧ (t.lane s.cal.lane).newPoints = (s.lane s.cal.lane).newPoints ++ [(26, m)] ∧
        t.sameConfig s ∧ t.sameResults s ∧ t.sameTime s)

/-- R353: the timeout of a system calibration ends it ABORTED, cause 2. -/
def Claim.CalibrationTimeoutAborts : Prop :=
  ∀ s : State, s.coreRuns = true → s.cal.run = some .zero ∨ s.cal.run = some .span → s.cal.left = 0 →
    Reaches .calibrationTimeout s fun t =>
      t.cal.run = none ∧ t.cal.result = 6 ∧ t.cal.cause = 2 ∧ t.cal.tick = s.tick.counter ∧ t.sameConfig s ∧ t.sameResults s ∧
        t.sameTime s ∧ t.lanes = s.lanes

/-- Measured points and the timeout (R177, R178, R350, R353). -/
def Obligations.CalibrationPoints : Prop := Claim.MeasurementMovesAPoint ∧ Claim.SelfCalibrationTakesPointsInOrder ∧ Claim.CalibrationTimeoutAborts

/-- R188, R189, R194: a lane whose stability detector trips is faulted, cause 01h, and counts it; no other lane is. -/
def Obligations.LaneFaultLatches : Prop :=
  ∀ (s : State) (p : Fin 5), s.coreRuns = true → s.tick.on = true → s.lanesRun = true → (s.lane p.val).faulted = false →
    Reaches (.laneFault p) s fun t =>
      (t.lane p.val).faulted = true ∧ (t.lane p.val).cause = 1 ∧ (t.lane p.val).trips = satInc (s.lane p.val).trips ∧
        (t.lane p.val).conn = none ∧ (∀ q, q ≠ p.val → (t.lane q).faulted = (s.lane q).faulted) ∧ t.sameConfig s ∧
        t.formed = s.formed ∧ t.rings = s.rings ∧ t.sameTime s

/-- R181, R182: an overlap into E whose last two comparisons agree ends with E serving the lane; a handback with the lane serving
itself. Each counts as a handover done. -/
def Claim.OverlapEndsInAHandover : Prop :=
  ∀ (s : State) (o : Overlap) (rest : List Bool), s.coreRuns = true → s.tick.on = true → s.tick.part = .prologue →
    s.quad.overlap = some o → o.left = 0 → o.agree = true :: true :: rest →
    Reaches .overlapEnd s fun t =>
      t.quad.serving = (if o.intoE then some o.lane else none) ∧ t.quad.overlap = none ∧ t.quad.done = satInc s.quad.done ∧
        t.sameConfig s ∧ t.sameResults s ∧ t.sameTime s

/-- R179, R181: at the end of a phase of a rotation in mode ON that serves no lane the next phase not skipped begins, with the
length its lane and O call for. -/
def Claim.PhaseEndGoesToTheNextPhase : Prop :=
  ∀ s : State, s.coreRuns = true → s.tick.on = true → s.tick.part = .prologue → s.quad.active = true → s.rotates = true →
    s.quad.left = 0 → s.quad.overlap = none → s.quad.serving = none → s.acfg 0x2220 1 = 0 →
    let k := s.nextPhase 8 s.quad.phase
    Reaches .quadrillePhaseEnd s fun t =>
      t.quad.phase = k ∧ t.quad.left = phaseTicks s.active k ∧ t.quad.active = true ∧ t.quad.held = false ∧
        t.sameConfig s ∧ t.sameResults s ∧ t.sameTime s

/-- The rotation's handovers and phases (R179, R181, R182). -/
def Obligations.RotationMovesOn : Prop := Claim.OverlapEndsInAHandover ∧ Claim.PhaseEndGoesToTheNextPhase

/-- R277: a scan starts at t0 of a tick whose number is a multiple of S, with every enabled electrode whose pins are free of
fault, where none runs; while one runs, and in other ticks, none starts. -/
def Claim.ScansStartAtTheirTick : Prop :=
  ∀ s : State, s.coreRuns = true → s.tick.on = true → s.tick.part = .prologue → s.pow.state ≠ .standby → s.acfg 0x2720 1 ≠ 0 →
    let els := (electrodesOn s.active).filter (fun i => !s.electrodeFault i)
    (s.touch.scan = none → s.tick.counter.toNat % s.acfg 0x2720 2 = 0 → els ≠ [] →
      Leaves .scanStart s { s with touch := { s.touch with scan := some (s.tick.counter, els), dropped := [] } }) ∧
    (s.touch.scan ≠ none ∨ s.tick.counter.toNat % s.acfg 0x2720 2 ≠ 0 ∨ els = [] → Leaves .scanStart s s)

/-- R276, R278, R297: a scan that ends is counted with its duration, and evaluates each of its electrodes once, with its
measurement read to 2 fF and no higher than 200 000 fF, and marked over range above that; an electrode disabled, in pin fault or in
pin fault since the scan began is not evaluated, and no other element is. That a fault since the scan's start leaves an electrode out
is the model's choice (DESIGN CHOICE, log entry 71). That no scan ends in a clock fault is DEDUCED (log entry 67). -/
def Claim.ScansEndEvaluateTheirElectrodes : Prop :=
  ∀ (s : State) (ms : List Nat) (n : TickNo) (els : List Nat), s.coreRuns = true → s.touch.scan = some (n, els) → els.Nodup →
    let measured := fun (i : Nat) => (electrodesOn s.active).contains i && !s.electrodeFault i && !s.touch.dropped.contains i
    (s.clockFault = true → Leaves (.scanEnd ms) s s) ∧
    (s.clockFault = false → Reaches (.scanEnd ms) s fun t =>
      t.touch.scan = none ∧ t.touch.scans = satInc s.touch.scans ∧ t.touch.lastUs = (els.map (measureUs s.active)).sum ∧
        (∀ (k i c : Nat), els[k]? = some i → ms[k]? = some c → measured i = true →
          t.elem i = (({ s.elem i with overRng := decide (200000 < c) } : ElemRt).judge i (elemPar s.active i)
            (s.startBaseline i) ((if 200000 < c then 200000 else 2 * roundEven (mkRat c 2) : Int) : Rat)).1) ∧
        (∀ i, i ∉ els.take ms.length ∨ measured i = false → t.elem i = s.elem i) ∧
        t = { s with elems := t.elems, touch := t.touch, tick := t.tick, formed := t.formed, can := t.can, out := t.out } ∧
        t.tick.counter = s.tick.counter)

/-- R296, R297: in STANDBY with touch enabled there a wake scan measures every enabled electrode with its wake bit and no pin in
fault, to 50 fF: a change from its baseline of at least 2700h+i.0E is one hit more in a row, a smaller one ends the row. It
changes nothing else; in another power state it does nothing. -/
def Claim.WakeScansCountHits : Prop :=
  ∀ (s : State) (ms : List Nat), s.coreRuns = true →
    (s.pow.state ≠ .standby ∨ s.acfg 0x2720 1 ≠ 2 → Leaves (.wakeScan ms) s s) ∧
    (s.pow.state = .standby → s.acfg 0x2720 1 = 2 → s.wakeElectrodes.Nodup → Reaches (.wakeScan ms) s fun t =>
      (∀ (k i c : Nat), s.wakeElectrodes[k]? = some i → ms[k]? = some c →
        let m : Int := if 200000 < c then 200000 else 50 * roundEven (mkRat c 50)
        let hit := decide ((s.acfg (0x2700 + i) 14 : Rat) ≤ (m : Rat) - (s.elem i).b)
        t.elem i = { s.elem i with wakeHits := if hit then (s.elem i).wakeHits + 1 else 0 }) ∧
      (∀ i, i ∉ s.wakeElectrodes.take ms.length → t.elem i = s.elem i) ∧
      t = { s with elems := t.elems, can := t.can, out := t.out }) ∧
    (∀ i, i ∈ s.wakeElectrodes ↔ i ∈ electrodesOn s.active ∧ s.acfg (0x2700 + i) 12 / 8 % 2 = 1 ∧ s.electrodeFault i = false)

/-- Scans of the electrodes (R276–R278, R296, R297). -/
def Obligations.TouchScans : Prop :=
  Claim.ScansStartAtTheirTick ∧ Claim.ScansEndEvaluateTheirElectrodes ∧ Claim.WakeScansCountHits

/-- R281–R285: an element evaluated in IDLE is PRESSED when the debounce's last measurement reaches Ton, and its touch action is
due; one in PRESSED or STUCK is IDLE when the last of them falls below Toff. A state entered restarts counts and timer. -/
def Claim.DebounceDecidesTouchAndRelease : Prop :=
  ∀ (r : ElemRt) (i : Nat) (p : ElemPar) (b0 : Rat × Bool) (m : Rat), r.started = true →
    (r.state = .idle → p.ton ≤ m - r.b → p.deb ≤ r.count + 1 →
      (r.judge i p b0 m).2 = some 0x30 ∧ (r.judge i p b0 m).1.state = .pressed ∧ (r.judge i p b0 m).1.touchDue = true ∧
        (r.judge i p b0 m).1.count = 0 ∧ (r.judge i p b0 m).1.timerOn = false ∧ (r.judge i p b0 m).1.b = r.b) ∧
    (r.state = .pressed ∨ r.state = .stuck → m - r.b < p.toff → p.deb ≤ r.count + 1 →
      (r.judge i p b0 m).2 = some 0x31 ∧ (r.judge i p b0 m).1.state = .idle ∧ (r.judge i p b0 m).1.releaseDue = true ∧
        (r.judge i p b0 m).1.count = 0 ∧ (r.judge i p b0 m).1.b = r.b) ∧
    (r.state = .pressed ∨ r.state = .stuck → p.toff ≤ m - r.b →
      (r.judge i p b0 m).2 = none ∧ (r.judge i p b0 m).1.state = r.state ∧ (r.judge i p b0 m).1.count = 0)

/-- R283: REPEAT makes the repeat action of an element PRESSED with its touch action latched fall due; the t0 that latches it is one
of e + j·r at which the element is still PRESSED and no pin of it is in fault (R297). -/
def Claim.RepeatsFallOnTheirTicks : Prop :=
  ∀ (s : State) (el : Element), s.coreRuns = true →
    let i := elementNum el
    let r := s.elem i
    (r.state = .pressed → r.touchTick.isSome = true →
      Leaves (.repeatAction el) s (s.updElem i (fun r => { r with repeatDue := true }))) ∧
    (r.state ≠ .pressed ∨ r.touchTick = none → Leaves (.repeatAction el) s s) ∧
    (∀ e, r.touchTick = some e → (s.repeats i r = true ↔ r.repeatDue = true ∧ (elemPar s.active i).acts / 4 % 2 = 1 ∧
      r.state = .pressed ∧ s.tick.counter ≠ e ∧ (s.tick.counter - e).toNat % (elemPar s.active i).rep = 0 ∧
      s.muted i = false)) ∧
    (r.touchTick = none → s.repeats i r = false)

/-- R284: REST_LIMIT and START_LIMIT, sent before the boundary at which the timer reaches its limit, are taken there: the rest limit
makes PRESSED STUCK, the start limit ends START-HELD with b = m. Where the timer does not reach it they change nothing. -/
def Claim.ElementLimitsAct : Prop :=
  ∀ (s : State) (el : Element),
    let i := elementNum el
    let r := s.elem i
    let x := s.elemNext i
    let t := s.elemOpen i
    let opened := { x with touchDue := false, releaseDue := false, touchNow := r.touchDue, releaseNow := r.releaseDue
                           limitDue := false }
    (s.coreRuns = true →
      (s.restDue x = true → Leaves (.restLimit el) s (s.updElem i (fun r => { r with limitDue := true }))) ∧
      (s.restDue x = false → Leaves (.restLimit el) s s) ∧
      (s.startDue x = true → Leaves (.startLimit el) s (s.updElem i (fun r => { r with limitDue := true }))) ∧
      (s.startDue x = false → Leaves (.startLimit el) s s)) ∧
    (r.limitDue = true → s.restDue x = true →
      t.elem i = { opened with state := .stuck, count := 0, timerOn := false, timer := 0 }) ∧
    (r.limitDue = true → s.startDue x = true →
      t.elem i = { opened with state := .idle, count := 0, timerOn := false, timer := 0, b := r.m, d := 0 }) ∧
    (r.limitDue = false ∨ s.restDue x = false ∧ s.startDue x = false → t.elem i = opened) ∧
    (∀ k, k ≠ i → t.elem k = s.elem k) ∧ t.sameConfig s ∧ t.sameLanes s ∧ t.rings = s.rings

/-- The states of an element and what its timers bring (R281–R285). -/
def Obligations.TouchElements : Prop :=
  Claim.DebounceDecidesTouchAndRelease ∧ Claim.RepeatsFallOnTheirTicks ∧ Claim.ElementLimitsAct

/-- R290–R292: the d-th equal plug sample in a row of another class changes the state, counts it, and starts the settle hold on
PLUGGED; in STANDBY the change is kept as a wake source (R499). A hold that ends at the coming boundary ends. -/
def Obligations.PlugSamplesDecide : Prop :=
  ∀ (s : State) (g : Fin 8), s.coreRuns = true →
    (∀ mv : BitVec 16, s.boundaryDue = true ∨ s.pow.state = .standby → g.val ∈ plugsOn s.active →
      (s.pin (s.acfg (0x2740 + g.val) 2)).fault = 0 →
      let k := plugClass s.active g.val mv.toNat
      let r := s.plug g.val
      let run := if k = r.state then 0 else if k = r.cls then r.run + 1 else 1
      (k ≠ r.state → s.acfg (0x2740 + g.val) 6 ≤ run → Reaches (.plugSample g mv) s fun t =>
        t.plug g.val = { r with state := k, cls := k, run := 0, mv := mv, changes := satInc r.changes
                                hold := if k = .plugged then some (s.acfg (0x2740 + g.val) 8 + 1) else none
                                moved := r.moved || decide (s.pow.state = .standby) } ∧
          (∀ q, q ≠ g.val → t.plug q = s.plug q) ∧ t.sameConfig s ∧ t.sameLanes s ∧ t.rings = s.rings) ∧
      (k = r.state ∨ run < s.acfg (0x2740 + g.val) 6 → Leaves (.plugSample g mv) s
        (s.updPlug g.val (fun _ => { r with cls := k, run := run, mv := mv })))) ∧
    (s.boundaryDue = true → (s.plug g.val).hold = some 1 → Reaches (.settleHoldEnd g) s fun t =>
      t.plug g.val = { s.plug g.val with hold := none } ∧ (∀ q, q ≠ g.val → t.plug q = s.plug q) ∧ t.sameConfig s ∧
        t.sameLanes s ∧ t.rings = s.rings)

/-- R301–R304, R309: the comparator of a monitor that is powered and not held takes the state that the compared quantity and the
thresholds in effect give; a change of it is the comparator output's, with tick and offset, unless a fault forces that. A monitor
held keeps its state. The output follows only with MONITOR_OUTPUT_CHANGE. -/
def Claim.ComparatorEdgesAreStamped : Prop :=
  ∀ (s : State) (m : Fin 16) (v : Int) (vref cyc : Nat), s.coreRuns = true → s.monitorOn m.val = true →
    let h := s.begin.at cyc
    let on := h.compare302 m.val v vref
    let r := s.monitor m.val
    let moved := s.updMonitor m.val (fun r => { r with comp := on })
    (h.monHeld m.val cyc = true → Ends (.comparatorEdge m ⟨v, vref⟩ cyc) s h) ∧
    (h.monHeld m.val cyc = false → r.faulted = true ∨ r.comp = on →
      Ends (.comparatorEdge m ⟨v, vref⟩ cyc) s (h.updMonitor m.val (fun r => { r with analog := on }))) ∧
    (h.monHeld m.val cyc = false → r.faulted = false → r.comp ≠ on → Reaches (.comparatorEdge m ⟨v, vref⟩ cyc) s fun t =>
      t.monitor m.val = { r with
        analog := on, comp := on, edge := (s.tick.counter, cyc), since := (cyc : Int)
        loAt := if moved.thresholdCode m.val false = s.thresholdCode m.val false then r.loAt else (cyc : Int)
        hiAt := if moved.thresholdCode m.val true = s.thresholdCode m.val true then r.hiAt else (cyc : Int) } ∧
        (∀ q, q ≠ m.val → t.monitor q = s.monitor q) ∧ t.sameConfig s ∧ t.sameResults h ∧ t.sameLanes h ∧ t.tick = h.tick ∧
        t.mon = s.mon)

/-- R305–R307: the output takes the comparator output's state once that has been stable for Q cycles, at least 3 cycles after its
edge; an assertion counts and sets its pending bit, and with routing bit 8 is an event at its latch. -/
def Claim.MonitorOutputFollows : Prop :=
  ∀ (s : State) (m : Fin 16) (a : Bool) (cyc : Nat), s.coreRuns = true → s.monitorOn m.val = true → s.samplerOn = true →
    let h := s.begin.at cyc
    let r := s.monitor m.val
    let stable := decide (r.since + 3 + s.acfg (0x2800 + m.val) 7 ≤ (cyc : Int))
    (r.faulted = false → r.comp = a → r.out ≠ a → stable = true → Reaches (.monitorOutputChange m a cyc) s fun t =>
      t.monitor m.val = { r with out := a, asserts := if a then satInc r.asserts else r.asserts } ∧
        (∀ q, q ≠ m.val → t.monitor q = s.monitor q) ∧
        t.mon.pending = (if a then s.mon.pending ||| BitVec.ofNat 32 (2 ^ m.val) else s.mon.pending) ∧
        (a = true → s.routed 8 m.val = true → s.tick.on = true → (cyc + 3, 0x10 + m.val) ∈ t.tick.latches) ∧
        t.sameConfig s ∧ t.rings = s.rings ∧ t.caps = s.caps ∧ t.sameLanes h) ∧
    (r.faulted = true ∨ r.comp ≠ a ∨ r.out = a ∨ stable = false → Ends (.monitorOutputChange m a cyc) s h)

/-- R310: a threshold DAC that reads within 2 of the code in effect is kept as its reading; one beyond 2 latches a monitor fault,
counted and pending, with the cause of the DAC. A reading within 150 ns after a change of that DAC's code is dropped. -/
def Claim.ReadbackJudgesTheDac : Prop :=
  ∀ (s : State) (m : Fin 16) (high : Bool) (x : Fin 1024) (cyc : Nat), s.coreRuns = true → s.monitorOn m.val = true →
    s.samplerOn = true →
    let h := s.begin.at cyc
    let r := s.monitor m.val
    let d := ((x.val : Int) - (s.thresholdCode m.val high : Int)).natAbs
    let fresh := decide (((cyc : Int) - (if high then r.hiAt else r.loAt)) * 100000 < 737280)
    (fresh = true → Ends (.monitorReadback m high ⟨x, cyc⟩) s h) ∧
    (fresh = false → d ≤ 2 → Ends (.monitorReadback m high ⟨x, cyc⟩) s (h.updMonitor m.val (fun r =>
      if high then { r with rbHigh := x.val, okHigh := true } else { r with rbLow := x.val, okLow := true }))) ∧
    (fresh = false → 2 < d → r.faulted = true → Ends (.monitorReadback m high ⟨x, cyc⟩) s (h.updMonitor m.val (fun r =>
      if high then { r with rbHigh := x.val, okHigh := false } else { r with rbLow := x.val, okLow := false }))) ∧
    (fresh = false → 2 < d → r.faulted = false → Reaches (.monitorReadback m high ⟨x, cyc⟩) s fun t =>
      (t.monitor m.val).faulted = true ∧ (t.monitor m.val).cause = (if high then 2 else 1) ∧
        (t.monitor m.val).faults = satInc r.faults ∧ t.mon.pending.getLsbD (16 + m.val) = true ∧
        (t.monitor m.val).comp = (match s.acfg (0x2800 + m.val) 8 with
          | 0 => true
          | 1 => false
          | _ => r.comp) ∧
        (t.monitor m.val).out = (match s.acfg (0x2800 + m.val) 8 with
          | 0 => true
          | 1 => false
          | _ => r.out) ∧
        (∀ q, q ≠ m.val → t.monitor q = s.monitor q) ∧ t.sameConfig s ∧ t.rings = s.rings ∧ t.sameLanes h)

/-- Events of a window monitor (R303–R310). -/
def Obligations.MonitorEvents : Prop := Claim.ComparatorEdgesAreStamped ∧ Claim.MonitorOutputFollows ∧ Claim.ReadbackJudgesTheDac

/-- R325, R326, R331: a timer update event applies the last static code, phase increment and amplitude that a write completed at
least 2 µs before it, and leaves the later ones waiting; an output that does not follow its codes keeps its code, and every
other output and generator stays. The code in force at the boundary, 2900h+n.10, is formed anew by an event at t0 alone (DEDUCED,
log entry 72). -/
def Claim.UpdateEventAppliesCodesInTime : Prop :=
  ∀ (s : State) (n : Fin 4), s.coreRuns = true → s.tick.on = true → s.acfg (0x2900 + n.val) 7 = 1 → s.updateTick n.val = true →
    let e : Nat := 2 * (s.acfg (0x2900 + n.val) 8 % (4 * tickN s.active))
    let h := s.begin.at e
    let o := s.output n.val
    let g := s.gen n.val
    Reaches (.updateEvent n) s fun t =>
      t.output n.val = (if s.outFollows n.val then { o with
          code := ((o.fresh.filter (fun w => inTime e w.1)).map (·.2)).getLastD o.code
          driven := o.driven || o.fresh.any (fun w => inTime e w.1)
          fresh := o.fresh.filter (fun w => !inTime e w.1)
          sampled := (t.output n.val).sampled, inForce := (t.output n.val).inForce }
        else { o with sampled := (t.output n.val).sampled, inForce := (t.output n.val).inForce }) ∧
      (t.output n.val).inForce = (if e = 0 then BitVec.ofInt 16 (t.formedCode n.val) else o.inForce) ∧
      (t.gen n.val).f = ((g.fFresh.filter (fun w => inTime e w.1)).map (·.2)).getLastD g.f ∧
      (t.gen n.val).fFresh = g.fFresh.filter (fun w => !inTime e w.1) ∧
      (t.gen n.val).a = ((g.aFresh.filter (fun w => inTime e w.1)).map (·.2)).getLastD g.a ∧
      (t.gen n.val).aFresh = g.aFresh.filter (fun w => !inTime e w.1) ∧
      (∀ k, k ≠ n.val → t.output k = s.output k ∧ t.gen k = s.gen k) ∧ t.sameConfig s ∧ t.sameResults h ∧ t.sameLanes h ∧
        t.tick = h.tick

/-- R332: at t0 of its reset tick an armed generator takes P0 and 7FFF FFFFh, counts the reset, and stays armed where a repeat
interval is set, its next reset that many ticks on. Before that tick it does nothing. That the code in force at t0 is the one formed
there is DEDUCED (log entry 72). -/
def Claim.PhaseResetTakesP0 : Prop :=
  ∀ (s : State) (g : Fin 4), s.coreRuns = true → s.tick.on = true → s.tick.part = .prologue → (s.gen g.val).armed = true →
    let q := s.lcfg (0x2910 + g.val) 7
    let p0 := BitVec.ofNat 32 (s.lcfg (0x2910 + g.val) 5)
    let u := s.updGen g.val (fun r => { r with
      phi := p0, prbs := 0x7fffffff, adv := 0, resets := satInc r.resets, phiB := p0, again := true, armed := decide (q ≠ 0)
      next := s.tick.counter + BitVec.ofNat 32 q })
    ((s.gen g.val).next = s.tick.counter → Leaves (.phaseReset g) s
      (u.updOutput g.val (fun r => { r with inForce := BitVec.ofInt 16 (u.formedCode g.val) }))) ∧
    ((s.gen g.val).next ≠ s.tick.counter → Leaves (.phaseReset g) s s)

/-- Update events and phase resets (R325, R326, R332). -/
def Obligations.OutputEvents : Prop := Claim.UpdateEventAppliesCodesInTime ∧ Claim.PhaseResetTakesP0

/-- R334: a cause holds over D readings in a row where it holds at this one and held at the D − 1 before it; the first of
OPEN-LOAD, COMPLIANCE, OVERLOAD and READBACK is the one decided, and none is where none has held so long. -/
def Claim.CausesHoldOverReadings : Prop :=
  ∀ (r : OutRt) (x : Holds) (late : Bool) (d : Nat), 1 ≤ d →
    let y := r.reading x late
    let opens := x.openLoad && decide (d ≤ r.runOpen + 1)
    let compl := x.compl && decide (d ≤ r.runCompl + 1)
    let loads := x.overload && decide (d ≤ r.runOver + 1)
    let reads := x.readback && decide (d ≤ r.runRead + 1)
    (opens = true → y.decided d = some 3) ∧ (opens = false → compl = true → y.decided d = some 2) ∧
    (opens = false → compl = false → loads = true → y.decided d = some 4) ∧
    (opens = false → compl = false → loads = false → reads = true → y.decided d = some 1) ∧
    (opens = false → compl = false → loads = false → reads = false → y.decided d = none) ∧
    (late = true → (y.clearOk = true ↔ x.openLoad = false ∧ x.compl = false ∧ x.overload = false ∧ x.readback = false))

/-- R334, R335, R343: a reading of an output that drives is judged on what its generator's code is at the core; a cause decided over
the readings of 2920h.02 latches a fault where none is latched: the cause, the count, mid-scale, the held code not released, the
pending bit and an event. Without one, and with a fault latched, the reading is kept. In HIZ no cause holds. That 2900h+n.0B is the
event's subject is log entry 25, and that the code judged is the one formed three update cycles before log entry 72 (DEDUCED). -/
def Claim.ReadingsLatchFaults : Prop :=
  ∀ (s : State) (n : Fin 4) (v w i vm av : Int), s.coreRuns = true → s.converterOn = true →
    let o := s.output n.val
    let late := match o.clearReq with
      | some t => decide (t < (readCycle n.val : Int))
      | none => false
    let clamp := clampInt (-0x80000000) 0x7fffffff
    let s1 := if s.tick.on && o.sampled.isNone then s.begin.genAdvance n.val (formCycle n.val) else s.begin
    let x := s1.judgeOutput n.val v w i vm av
    let r : OutRt := { o.reading x late with vRead := clamp v, iRead := if s.outCurrent n.val then clamp i else o.iRead }
    (s.outMode n.val = 0 → Leaves (.outputReading n v w i vm av) s
      (s.updOutput n.val (fun r => { r.reading {} late with vRead := clamp v }))) ∧
    (s.outMode n.val ≠ 0 → o.fault = true ∨ r.decided (s.acfg 0x2920 2) = none →
      Ends (.outputReading n v w i vm av) s (s1.updOutput n.val (fun _ => r))) ∧
    (∀ c, s.outMode n.val ≠ 0 → o.fault = false → r.decided (s.acfg 0x2920 2) = some c →
      Reaches (.outputReading n v w i vm av) s fun t =>
        t.output n.val = { r.mid with fault := true, cause := BitVec.ofNat 8 c, faults := satInc o.faults
                                      clearReq := none, clearOk := false } ∧
          (t.output n.val).code = 0x8000 ∧ (t.output n.val).released = false ∧
          t.outPend = s.outPend ||| BitVec.ofNat 4 (2 ^ n.val) ∧
          t.diag.events = (⟨BitVec.ofNat 32 (key (0x2900 + n.val) 11), s.tick.counter, BitVec.ofNat 32 c⟩ :: s.diag.events).take 32 ∧
          (s.emcyOn = true → t.can.errs.head? = some (BitVec.ofNat 32 (0xff02 + 65536 * n.val))) ∧
          (∀ k, k ≠ n.val → t.output k = s.output k ∧ t.gen k = s.gen k) ∧ t.sameConfig s ∧ t.sameResults s ∧ t.sameLanes s ∧
          t.sameTime s)

/-- Readings of an output: how long a cause must hold, and what it latches (R334, R335, R343). -/
def Obligations.OutputReadingsAreJudged : Prop := Claim.CausesHoldOverReadings ∧ Claim.ReadingsLatchFaults

/-- R369: the image of a record: type, class, payload length, sequence, CRC-32, the payload, FFh up to a multiple of four bytes, and
the commit word; little-endian, 16 bytes more than the padded payload. -/
def Claim.RecordImageIsLaidOut : Prop :=
  ∀ (typ cls seq : Nat) (p : List Byte), typ < 256 → cls < 256 → seq < 2 ^ 32 → p.length ≤ 240 →
    let m := recordImage typ cls seq p
    let pad := (p.length + 3) / 4 * 4
    let field := fun (at_ n : Nat) => leNum ((m.drop at_).take n)
    m.length = 16 + pad ∧ field 0 1 = typ ∧ field 1 1 = cls ∧ field 2 2 = p.length ∧ field 4 4 = seq ∧
      field 8 4 = (crc32 (m.take 8 ++ p)).toNat ∧ (m.drop 12).take p.length = p ∧ field (12 + pad) 4 = 0xa5c33c5a ∧
      (∀ k, p.length ≤ k → k < pad → m.getD (12 + k) 0 = 0xff)

/-- R368, R370, R376, R378: the program of a record puts its whole image into the flash at its address and nothing elsewhere, its
sequence number is the last used, and one whose margin read fails is weak. -/
def Claim.ProgramsFillTheFlash : Prop :=
  ∀ (s : State) (weak : Bool), s.coreRuns = true →
    (s.jn.prog = none → Leaves (.recordProgram weak) s s) ∧
    (∀ p : Prog, s.jn.prog = some p → Reaches (.recordProgram weak) s fun t =>
      (∀ k, k < p.image.length → tget erased t.jn.flash (p.addr + k) = (p.image.getD k 0).toNat) ∧
        (∀ a, a < p.addr ∨ p.addr + p.image.length ≤ a → tget erased t.jn.flash a = tget erased s.jn.flash a) ∧
        t.jn.seq = p.seq ∧ t.jn.weak = (if weak then p.addr :: s.jn.weak else s.jn.weak) ∧
        t = { s with jn := t.jn, lock := t.lock, slots := t.slots, diag := t.diag, can := t.can, out := t.out } ∧
        t.lock.state = s.lock.state ∧ t.lock.fuse = s.lock.fuse)

/-- R372, R375, R378, R441: what a record brings once it is programmed: the close record of the last class of a request makes its
generation stand and ends the request with 01h; a third weak data or close record ends it with 03h; the device-state record of an
attempt raises the failed count, unless it is weak, and the attempt can be judged. -/
def Claim.ProgrammedRecordsTakeEffect : Prop :=
  ∀ (s : State) (weak : Bool) (p : Prog), s.coreRuns = true → s.jn.prog = some p → s.jn.compact = .idle → s.jn.cut = none →
    (∀ (x : Plan) (job : Job) (more : List Job), p.jr.typ = 2 → p.stray = false → weak = false → s.jn.plans = [x] → s.jn.queue = job :: more →
      Reaches (.recordProgram weak) s fun t =>
        t.jn.gen x.cls = some x.payloads ∧ t.jn.result = 1 ∧ t.jn.tick = s.tick.counter ∧ t.jn.queue = more) ∧
    (p.jr.typ = 1 ∨ p.jr.typ = 2 → p.stray = false → weak = true → s.jn.plans ≠ [] → s.sup.shutdown = false → s.jn.retries = 2 →
      Reaches (.recordProgram weak) s fun t =>
        t.jn.result = 3 ∧ t.jn.queue = s.jn.queue.drop 1 ∧ t.jn.gens = s.jn.gens ∧
          t.diag.events = (⟨BitVec.ofNat 32 (key 0x2b00 2), s.tick.counter, 3⟩ :: s.diag.events).take 32) ∧
    (p.jr.typ = 4 → p.jr.own = true → Reaches (.recordProgram weak) s fun t =>
      t.lock = { s.lock with
        attempt := s.lock.attempt.map (fun a => { a with verified := true })
        fails := if weak then s.lock.fails else min (s.lock.fails + 1) 65535
        verifyFailed := weak } ∧ t.jn.queue = s.jn.queue ∧ t.jn.gens = s.jn.gens)

/-- R380–R382, R498: an erase that ends leaves no byte of its sector programmed and counts; during a program, in a thermal shutdown, in
a clock fault 01h or 02h and in STANDBY it is suspended and does not end. -/
def Claim.ErasesClearTheirSector : Prop :=
  ∀ s : State, s.coreRuns = true →
    (s.jn.erase = none ∨ s.jn.prog ≠ none ∨ s.sup.shutdown = true ∨ s.netHalted = true ∨ s.pow.state = .standby →
      Leaves .eraseComplete s s) ∧
    (∀ sec : Nat, s.jn.erase = some sec → s.jn.prog = none → s.sup.shutdown = false → s.netHalted = false →
      s.pow.state ≠ .standby → Reaches .eraseComplete s fun t =>
        (∀ a, a / 32768 = sec → tget erased t.jn.flash a = 0xff) ∧
          (∀ a, a / 32768 ≠ sec → tget erased t.jn.flash a = tget erased s.jn.flash a) ∧
          t.jn.erases0 = (if sec = 0 then satInc s.jn.erases0 else s.jn.erases0) ∧
          t.jn.erases1 = (if sec = 0 then s.jn.erases1 else satInc s.jn.erases1) ∧
          t.jn.seq = s.jn.seq ∧ t.jn.gens = s.jn.gens ∧ t.jn.queue = s.jn.queue ∧ t.jn.dev = s.jn.dev ∧
          t = { s with jn := t.jn, can := t.can, out := t.out })

/-- Records and sectors of the journal (R368–R382, R441). -/
def Obligations.JournalProgramsAndErases : Prop :=
  Claim.RecordImageIsLaidOut ∧ Claim.ProgramsFillTheFlash ∧ Claim.ProgrammedRecordsTakeEffect ∧ Claim.ErasesClearTheirSector

/-- R422, R426: what the bytes of an SPI frame are: none, or op 00h, no request; more than 300 bytes, an op outside the table, too few
bytes for its op and count, or a count outside its range a form error; then a CRC error, or the request, whose CRC-8 follows it. On
the service port op 00h is a form error (R427). That form errors come before the CRC is DEDUCED (log entry 58). -/
def Claim.FramesAreJudged : Prop :=
  ∀ (b : List Byte) (o : Byte) (rest : List Byte),
    frameOf true [] = .none ∧ frameOf true (0 :: rest) = .none ∧ frameOf false (0 :: rest) = .form ∧
    (b = o :: rest → o ≠ 0 → frameOf false b = frameOf true b ∧
      (300 < b.length → frameOf true b = .form) ∧
      (opCounts o.toNat = none → frameOf true b = .form) ∧
      (∀ lo hi, b.length ≤ 300 → opCounts o.toNat = some (lo, hi) →
        let count := (b.getD 5 0).toNat
        let n := if o = 2 then 6 + count else 6
        (b.length < 6 ∨ count < lo ∨ hi < count → frameOf true b = .form) ∧
        (6 ≤ b.length → lo ≤ count → count ≤ hi →
          (b.length ≤ n → frameOf true b = .form) ∧
          (n < b.length → crc8 (b.take n) ≠ b.getD n 0 → frameOf true b = .crc) ∧
          (n < b.length → crc8 (b.take n) = b.getD n 0 → frameOf true b = .req
            { op := o.toNat, tag := b.getD 1 0, idx := leNum ((b.drop 2).take 2), sub := (b.getD 4 0).toNat, count := count
              data := (b.drop 6).take (if o = 2 then count else 0) }))))

/-- R424: what goes out on SPI in a frame of n bytes: the status byte, the held response where it is ready, FFh behind it; a response
is its tag, status, length, data and CRC-8. -/
def Claim.SpiAnswersByteForByte : Prop :=
  (∀ (s : State) (ready : Bool) (n : Nat), 0 < n →
    (s.sdo ready n).length = n ∧
    (s.sdo ready n).head? = some (s.portStatus (ready && s.spi.resp.isSome) (s.spi.resp.isSome && !ready) s.spi.rej) ∧
    (∀ (b : List Byte) (k : Nat), ready = true → s.spi.resp = some b → k + 1 < n → (s.sdo ready n).getD (k + 1) 0 = b.getD k 0xff) ∧
    (∀ k, ready = false ∨ s.spi.resp = none → k + 1 < n → (s.sdo ready n).getD (k + 1) 0 = 0xff)) ∧
  (∀ (tag : Byte) (status : Nat) (data : List Byte),
    let b := responseBytes tag status data
    b.head? = some tag ∧ (b.drop 1).take 2 = leBytes 2 status ∧ (b.drop 3).take 2 = leBytes 2 data.length ∧
      (b.drop 5).take data.length = data ∧ b.length = data.length + 6 ∧ b.getLast? = some (crc8 (b.take (data.length + 5))))

/-- R424–R426: a frame on SPI sends its answer, and consumes the held response where that has gone out whole; a frame that is no
request, has an error, or comes while a response is still held changes nothing but the port. -/
def Claim.SpiFramesMoveThePort : Prop :=
  ∀ (s : State) (sdi : List Byte) (cyc : Nat) (ready : Bool), s.coreRuns = true → s.begin.portServes .h = true → sdi ≠ [] →
    let h := s.begin.at cyc
    let u := h.sendLogic (.spi (h.sdo ready sdi.length))
    let gone := ready && h.spi.resp.isSome && decide ((h.spi.resp.getD []).length < sdi.length)
    let p := if gone then { h.spi with resp := none, last := h.spi.resp } else h.spi
    (frameOf true sdi = .none → Ends (.spiFrame sdi cyc ready) s
      { u with spi := { p with rej := false, frames := satInc p.frames } }) ∧
    (frameOf true sdi = .form → Ends (.spiFrame sdi cyc ready) s
      { u with spi := { p with rej := true, formErrs := satInc p.formErrs } }) ∧
    (frameOf true sdi = .crc → Ends (.spiFrame sdi cyc ready) s
      { u with spi := { p with rej := true, crcErrs := satInc p.crcErrs } }) ∧
    (∀ r : Req, frameOf true sdi = .req r → p.resp.isSome = true → Ends (.spiFrame sdi cyc ready) s
      { u with spi := { p with rej := true, formErrs := satInc p.formErrs } }) ∧
    (∀ r : Req, frameOf true sdi = .req r → p.resp = none →
      let q := { u with spi := { p with rej := false, frames := satInc p.frames } }
      let via : Via := { port := .h, cyc := cyc }
      let w := q.write via r.idx r.sub r.data false
      let d := q.read via r.idx r.sub (if r.op = 3 then r.count else 1) (decide (r.op = 3)) false
      (r.op = 2 → Ends (.spiFrame sdi cyc ready) s
        { w.2 with spi := { w.2.spi with resp := some (responseBytes r.tag w.1 []), last := none } }) ∧
      (r.op = 1 ∨ r.op = 3 → Ends (.spiFrame sdi cyc ready) s
        { d.2.2 with spi := { d.2.2.spi with resp := some (responseBytes r.tag d.1 d.2.1), last := none } }) ∧
      (r.op = 5 → Ends (.spiFrame sdi cyc ready) s { q with spi := { q.spi with resp := p.last } }))

/-- R427: a frame on the service port is answered at its end, with the status byte, and with the response where it is a request. -/
def Claim.ServiceFramesAreAnswered : Prop :=
  ∀ (s : State) (b : List Byte) (cyc : Nat), s.coreRuns = true → s.begin.portServes .s = true → b ≠ [] →
    let h := s.begin.at cyc
    let reply := fun (u : State) (resp : Option (List Byte)) =>
      u.sendLogic (.svc (u.portStatus resp.isSome false u.svc.rej :: resp.getD []))
    (frameOf false b = .form → Ends (.serviceFrame b cyc) s
      (reply { h with svc := { h.svc with rej := true, formErrs := satInc h.svc.formErrs } } none)) ∧
    (frameOf false b = .crc → Ends (.serviceFrame b cyc) s
      (reply { h with svc := { h.svc with rej := true, crcErrs := satInc h.svc.crcErrs } } none)) ∧
    (∀ r : Req, frameOf false b = .req r →
      let q := { h with svc := { h.svc with rej := false, frames := satInc h.svc.frames } }
      let via : Via := { port := .s, cyc := cyc }
      let w := q.write via r.idx r.sub r.data false
      let d := q.read via r.idx r.sub (if r.op = 3 then r.count else 1) (decide (r.op = 3)) false
      let wr := some (responseBytes r.tag w.1 [])
      let dr := some (responseBytes r.tag d.1 d.2.1)
      (r.op = 2 → Ends (.serviceFrame b cyc) s (reply { w.2 with svc := { w.2.svc with resp := none, last := wr } } wr)) ∧
      (r.op = 1 ∨ r.op = 3 → Ends (.serviceFrame b cyc) s
        (reply { d.2.2 with svc := { d.2.2.svc with resp := none, last := dr } } dr)) ∧
      (r.op = 5 → Ends (.serviceFrame b cyc) s (reply { q with svc := { q.svc with resp := none } } q.svc.last)))

/-- R425, R450: op 05h gives the last consumed response again and changes no entry: on SPI it is held, unless a response is held
already, where the request is rejected; on the service port it is sent. What it does with none consumed, or with one held, is DEDUCED
(log entry 57). -/
def Claim.RepeatGivesTheLastResponse : Prop :=
  ∀ (s : State) (v : Via) (tag : Byte), s.reached v →
    let h := s.heard v
    (v.port = .h → s.spi.resp = none → Leaves (.repeatLastResponse v tag) s { h with
      spi := { h.spi with rej := false, frames := satInc s.spi.frames, resp := s.spi.last } }) ∧
    (v.port = .h → s.spi.resp ≠ none → Leaves (.repeatLastResponse v tag) s { h with
      spi := { h.spi with rej := true, formErrs := satInc s.spi.formErrs } }) ∧
    (v.port = .s →
      let u := { h with svc := { h.svc with rej := false, frames := satInc s.svc.frames, resp := none } }
      Ends (.repeatLastResponse v tag) s
        (u.sendLogic (.svc (u.portStatus s.svc.last.isSome false false :: s.svc.last.getD []))))

/-- The SPI port and the service port (R422–R427, R450). -/
def Obligations.FramePorts : Prop :=
  Claim.FramesAreJudged ∧ Claim.SpiAnswersByteForByte ∧ Claim.SpiFramesMoveThePort ∧ Claim.ServiceFramesAreAnswered ∧
    Claim.RepeatGivesTheLastResponse

/-- R430: what the USDO server sends: it goes out where the port can, counted; a session that is closed is the node's only. -/
def Claim.UsdoFramesGoOut : Prop :=
  ∀ (s : State) (e : Emit) (node : Nat),
    (s.canOn = true → s.sendUsdo e =
      { s with out := s.out ++ [e], can := { s.can with txFrames := satInc s.can.txFrames } }) ∧
    (s.canOn = false → s.sendUsdo e = s) ∧
    (∀ x, x ∈ (s.closeUsdo node).can.sessions ↔ x ∈ s.can.sessions ∧ x ≠ node) ∧
    (∀ x, x ∈ (s.openUsdo node).can.sessions ↔ x = node ∨ x ∈ s.can.sessions)

/-- R398, R399, R430: an access to this node's USDO server is done as one from port N and answered with its data, or aborted with the
refusal's code; a request during an open session ends that first, aborted with 0504 0001h; data above 56 bytes leaves a session
open. The segments, a wrong toggle and a wrong command are served as R430 has them. That the segments of a transfer are one command,
each answer one frame counted, and what a session keeps, is DEDUCED (log entry 60). -/
def Claim.UsdoRequestsAreServed : Prop :=
  ∀ (s : State) (node : BitVec 7) (cyc : Nat), s.coreRuns = true → s.begin.portServes .n = true → node.toNat = s.nodeId →
    let h := (s.begin.at cyc).canRx
    let via : Via := { port := .n, cyc := cyc }
    let abort := fun (u : State) (code : Nat) =>
      (u.closeUsdo node.toNat).sendUsdo (.usdoAbort node (BitVec.ofNat 32 code) u.canBrs)
    let answer := fun (u : State) (data : List Byte) =>
      (if 56 < data.length then u.openUsdo node.toNat else u).sendUsdo (.usdoDone node data u.canBrs)
    let fresh := if node.toNat ∈ s.can.sessions then abort h 0x05040001 else h
    let writes := fun (u : State) (w : Nat × State) => if w.1 = 0 then answer w.2 [] = u else abort w.2 (abortCode w.1) = u
    (∀ (idx : BitVec 16) (sub : BitVec 8),
      let r := fresh.read via idx.toNat sub.toNat 1 false true
      (r.1 = 0 → Ends (.usdoRequest node (.read idx sub) cyc) s (answer r.2.2 r.2.1)) ∧
      (r.1 ≠ 0 → Ends (.usdoRequest node (.read idx sub) cyc) s (abort r.2.2 (abortCode r.1)))) ∧
    (∀ (idx : BitVec 16) (sub : BitVec 8) (data : List Byte) (u : State),
      (writes u (fresh.write via idx.toNat sub.toNat data true) → Ends (.usdoRequest node (.write idx sub data) cyc) s u) ∧
      (node.toNat ∈ s.can.sessions → writes u ((h.closeUsdo node.toNat).write via idx.toNat sub.toNat data true) →
        Ends (.usdoRequest node (.segmentedWrite idx sub data) cyc) s u) ∧
      (node.toNat ∉ s.can.sessions → Ends (.usdoRequest node (.segmentedWrite idx sub data) cyc) s (abort h 0x05040001))) ∧
    Ends (.usdoRequest node .openSegmented cyc) s (fresh.openUsdo node.toNat) ∧
    Ends (.usdoRequest node .endSegmented cyc) s (h.closeUsdo node.toNat) ∧
    Ends (.usdoRequest node .badToggle cyc) s (abort h 0x05030000) ∧
    Ends (.usdoRequest node .badCommand cyc) s (abort h 0x05040001)

/-- R399, R430: an abort of the client ends its session, with nothing sent or logged; a segment timeout ends an open session with
0504 0000h. -/
def Claim.UsdoSessionsEnd : Prop :=
  ∀ (s : State) (node : BitVec 7), s.coreRuns = true → s.begin.portServes .n = true → node.toNat = s.nodeId →
    Leaves (.usdoAbort node) s { s with can := { s.can with
      rxFrames := satInc s.can.rxFrames, sessions := s.can.sessions.filter (· ≠ node.toNat) } } ∧
    (node.toNat ∈ s.can.sessions → Ends (.usdoSegmentTimeout node) s
      ((s.begin.closeUsdo node.toNat).sendUsdo (.usdoAbort node 0x05040000 s.canBrs))) ∧
    (node.toNat ∉ s.can.sessions → Leaves (.usdoSegmentTimeout node) s s)

/-- The USDO server: requests, aborts, timeouts (R398, R399, R430). -/
def Obligations.UsdoServesTheNetwork : Prop :=
  Claim.UsdoFramesGoOut ∧ Claim.UsdoRequestsAreServed ∧ Claim.UsdoSessionsEnd

/-- R466: the master passes an NMT command to 0 on to every member, and one to a node it serves by proxy to that member; another
node passes none on. -/
def Claim.MasterPassesNmtOn : Prop :=
  ∀ (s : State) (command : Byte) (node : Nat),
    (s.role ≠ 1 → s.relayNmt node command = s) ∧
    (s.role = 1 → s.relayNmt 0 command = s.galtSend 0x0c 0xff [command]) ∧
    (∀ a, node ≠ 0 → s.proxied node = some a → s.relayNmt node command = s.galtSend 0x0c a [command]) ∧
    (node ≠ 0 → s.proxied node = none → s.relayNmt node command = s)

/-- R431, R488: an NMT command to this node or to all is a frame received and sets the NMT state; reset communication gives the live
communication entries their stored values or Defaults, clears the error counters and boots anew, with a boot-up message, into
PRE-OPERATIONAL; reset node resets the device but for fuse, flash and VIO. One to another node changes nothing here. That frames queued
stay over reset communication (DEDUCED, log entry 63) and that the flash keeps a free number of bytes of a record under program at
81h (DESIGN CHOICE, log entries 14 and 63) is the model's. -/
def Claim.NmtCommandsSetTheState : Prop :=
  ∀ (s : State) (node : Byte), s.coreRuns = true → s.canTakes = true →
    let rx := satInc s.can.rxFrames
    let relayed := fun (c : Byte) => s.begin.relayNmt node.toNat c
    let sets := fun (c : Byte) (n : Nmt) (held : Tbl (Option (List Byte))) =>
      { relayed c with can := { s.can with rxFrames := rx, nmt := n, held := held } }
    (node.toNat ≠ 0 → node.toNat ≠ s.nodeId →
      Ends (.nmtStart node) s (relayed 1) ∧ Ends (.nmtStop node) s (relayed 2) ∧
      Ends (.nmtEnterPreOperational node) s (relayed 0x80) ∧ Ends (.nmtResetNode node) s (relayed 0x81) ∧
      Ends (.nmtResetCommunication node) s (relayed 0x82)) ∧
    (node.toNat = 0 ∨ node.toNat = s.nodeId →
      Ends (.nmtStart node) s (sets 1 .operational s.can.held) ∧ Ends (.nmtStop node) s (sets 2 .stopped []) ∧
      Ends (.nmtEnterPreOperational node) s (sets 0x80 .preOperational []) ∧
      (∃ n, (s.jn.prog = none → n = 0) ∧ Ends (.nmtResetNode node) s
        { (relayed 0x81).deviceReset n with draws := s.draws + 1, out := (relayed 0x81).out }) ∧
      Reaches (.nmtResetCommunication node) s fun t =>
        t.can.nmt = .preOperational ∧ t.can.txErr = 0 ∧ t.can.rxErr = 0 ∧ t.can.busState = 0 ∧ t.can.sessions = [] ∧
          t.can.held = [] ∧ Emit.can (0x700 + s.nodeId) [0] s.canBrs ∈ t.out ∧
          (∀ k, liveComm k = false → s.jn.gen 1 = none → tget dflt t.live k = tget dflt s.live k) ∧
          (∀ k, liveComm k = true → s.jn.gen 1 = none → tget dflt t.live k = dflt k) ∧
          t = { s with live := s.commStored.live, can := t.can, out := t.out })

/-- R431, R428, R432, R458: a heartbeat carries the NMT state; bus-off recovery clears the error counters and reports 8140h; the error
counters and the bus state are those of the controller, error passive reports 8120h; a dominant level at CRXD is noted. -/
def Claim.CanControllerEventsAreKept : Prop :=
  ∀ s : State, s.coreRuns = true →
    (s.canTakes = true → s.lcfg 0x1017 0 ≠ 0 → Ends .heartbeat s { s with
      out := [.can (0x700 + s.nodeId) [BitVec.ofNat 8 s.can.nmt.code] s.canBrs]
      can := { s.can with txFrames := satInc s.can.txFrames } }) ∧
    (s.canTakes = false ∨ s.lcfg 0x1017 0 = 0 → Leaves .heartbeat s s) ∧
    (s.can.started = true → s.can.busState = 2 → s.netHalted = false → s.pow.state ≠ .standby →
      let u := { s.begin with can := { s.can with busState := 0, txErr := 0, rxErr := 0 } }
      Ends .busOffRecovery s (u.emcy 0x8140 (s.can.busOffs % 65536))) ∧
    (∀ (tec rec : Byte) (off : Bool), s.canTakes = true →
      let st : BitVec 8 := if off then 2 else if 128 ≤ tec.toNat ∨ 128 ≤ rec.toNat then 1 else 0
      let u := { s.begin with can := { s.can with
        txErr := tec, rxErr := rec, busState := st, busOffs := if off then satInc s.can.busOffs else s.can.busOffs } }
      (st = 1 → s.can.busState = 0 → Ends (.canErrorConfinement tec rec off) s (u.emcy 0x8120 (tec.toNat + 256 * rec.toNat))) ∧
      (st ≠ 1 ∨ s.can.busState ≠ 0 → Ends (.canErrorConfinement tec rec off) s u)) ∧
    (s.boot ≠ .inReset → Leaves .crxdDominant s { s with can := { s.can with crxDominant := true } })

/-- R432: an EMCY is entered first in 1003h and sent with its code, 1001h, its detail and the tick, where EMCYs are sent. That one that
is not sent is not entered either is DEDUCED (log entry 56). -/
def Claim.EmcyIsEnteredAndSent : Prop :=
  ∀ (s : State) (code detail : Nat),
    (s.emcyOn = false → s.emcy code detail = s) ∧
    (s.emcyOn = true →
      let t := s.emcy code detail
      t = { s with can := t.can, out := t.out } ∧
        t.can.errs = (BitVec.ofNat 32 (code % 65536 + 65536 * (detail % 65536)) :: s.can.errs).take 8 ∧
        t.out = s.out ++ (if s.canOn then [.can (s.liveVal 0x1014 0 % 2048)
          (leBytes 2 code ++ [s.errReg, 0] ++ leBytes 2 detail ++ leBytes 2 s.tick.counter.toNat) s.canBrs] else []))

/-- NMT, heartbeat, error confinement and EMCY (R428, R431, R432, R458, R466). -/
def Obligations.NmtAndController : Prop :=
  Claim.MasterPassesNmtOn ∧ Claim.NmtCommandsSetTheState ∧ Claim.CanControllerEventsAreKept ∧ Claim.EmcyIsEnteredAndSent

/-- R57, R433: a SYNC received outside STOPPED is one event for the next prologue and one frame received; in OPERATIONAL it counts for
the TPDOs, and every RPDO held is written and none waits any more. That the TPDOs come before the held RPDOs is DEDUCED (log entry
61). -/
def Claim.SyncFramesCount : Prop :=
  ∀ (s : State) (cyc : Nat), s.coreRuns = true →
    let h := (s.begin.at cyc).canRx
    let u := { h with tick := { h.tick with syncs := s.tick.syncs + 1 } }
    (s.canTakes = false ∨ s.can.nmt = .stopped → Leaves (.syncFrame cyc) s s) ∧
    (s.canTakes = true → s.can.nmt ≠ .stopped → s.can.nmt ≠ .operational → Ends (.syncFrame cyc) s u) ∧
    (s.canTakes = true → s.can.nmt = .operational →
      Ends (.syncFrame cyc) s (((List.range 8).foldl State.tpdoSync u).writeHeld cyc) ∧
      Reaches (.syncFrame cyc) s fun t => t.can.held = [])

/-- R433: a SYNC counts for a TPDO of type 01h–F0h that is exchanged, and every n-th is its transmission event. -/
def Claim.SyncsCountForTpdos : Prop :=
  ∀ (s : State) (k : Nat),
    let n := s.lcfg (0x1800 + k) 2
    let r := s.tpdoRt k
    (s.tpdoOn k = false ∨ 0xf0 < n → s.tpdoSync k = s) ∧
    (s.tpdoOn k = true → n ≤ 0xf0 → r.syncs + 1 < n → s.tpdoSync k = s.updTpdo k (fun r => { r with syncs := r.syncs + 1 })) ∧
    (s.tpdoOn k = true → n ≤ 0xf0 → n ≤ r.syncs + 1 →
      s.tpdoSync k = (s.updTpdo k (fun r => { r with syncs := 0 })).tpdoEvent k)

/-- R402, R433: an RPDO of type 00h–F0h waits for a SYNC, the latest frame of each; another is written at once. Outside OPERATIONAL,
and with an invalid COB-ID, none is taken. -/
def Claim.RpdosWaitOrAreWritten : Prop :=
  ∀ (s : State) (k : Fin 4) (data : List Byte) (cyc : Nat), s.coreRuns = true →
    let h := (s.begin.at cyc).canRx
    let takes := s.canTakes && decide (s.can.nmt = .operational) && s.pdoValid (0x1400 + k.val)
    (takes = false → Leaves (.rpdo k data cyc) s s) ∧
    (takes = true → s.lcfg (0x1400 + k.val) 2 ≤ 0xf0 →
      let held := tput (fun _ => none) s.can.held k.val (some data)
      Ends (.rpdo k data cyc) s { h with can := { h.can with held := held } } ∧ tget (fun _ => none) held k.val = some data) ∧
    (takes = true → 0xf0 < s.lcfg (0x1400 + k.val) 2 → Ends (.rpdo k data cyc) s (h.rpdoWrite k.val data cyc))

/-- R402, R432: what writing an RPDO does: one shorter than its mapping writes nothing, is refused with 0409h and reports 8210h; where
a mapped entry refuses its value, the first refusal in mapping order is logged and nothing is written; else every entry is
written, in mapping order. That each entry is judged with the values of those before it in place, that the subject of a short one is
1600h+k.00 with 8210h each time, and that the access counts as one, is DEDUCED (log entry 61). -/
def Claim.RpdosAreWrittenWhole : Prop :=
  ∀ (s : State) (k : Nat) (data : List Byte) (cyc : Nat),
    let ms := s.pdoMap (0x1600 + k)
    let via : Via := { port := .n, cyc := cyc }
    let parts := rpdoParts ms data
    let judged := fun (before : List (Nat × Nat × List Byte)) (p : Nat × Nat × List Byte) =>
      (before.foldl State.stage s).writeRefusal via p.1 p.2.1 p.2.2
    let accepts := fun (l : List (Nat × Nat × List Byte)) => ∀ a p b, l = a ++ p :: b → judged a p = 0
    let t := s.rpdoWrite k data cyc
    (data.length < (ms.map (· % 256)).sum / 8 →
      t.can.shortRpdo = true ∧ t.diag.refusals.head? = some ⟨0x409, .n, BitVec.ofNat 32 (key (0x1600 + k) 0), s.tick.counter⟩ ∧
        (s.emcyOn = true → t.can.errs.head? = some (BitVec.ofNat 32 (0x8210 + 65536 * ((k + 1) % 65536)))) ∧
        t = { s with can := t.can, diag := t.diag, out := t.out }) ∧
    ((ms.map (· % 256)).sum / 8 ≤ data.length →
      (∀ a p b, parts = a ++ p :: b → accepts a → judged a p ≠ 0 → t = s.refuse via p.1 p.2.1 (judged a p) false) ∧
      (accepts parts → t = (s.writeParts via parts).complete via)) ∧
    parts.length = ms.length ∧ (parts.map (fun p => (p.1, p.2.1))) = ms.map (fun m => (m / 65536, m / 256 % 256))

/-- SYNC and received PDOs (R57, R402, R432, R433). -/
def Obligations.SyncAndRpdos : Prop :=
  Claim.SyncFramesCount ∧ Claim.SyncsCountForTpdos ∧ Claim.RpdosWaitOrAreWritten ∧ Claim.RpdosAreWrittenWhole

/-- R401, R433: a transmission event of a TPDO that is exchanged queues one frame, unless its inhibit time runs, which defers it: of
its mapped entries at their full length, filled to a length of CAN FD; or of up to k unread records of its ring, which become
outstanding, none where none is unread. A ring with another consumer counts in 2F01h.0B (R401). -/
def Claim.TpdoEventsQueueFrames : Prop :=
  ∀ (s : State) (k : Nat),
    let t := s.tpdoEvent k
    (s.tpdoOn k = false → t = s) ∧
    (s.tpdoOn k = true → (s.tpdoRt k).inhibit = true → t = s.updTpdo k (fun r => { r with deferred := true })) ∧
    (s.tpdoOn k = true → (s.tpdoRt k).inhibit = false →
      (s.tpdoRing k = none →
        let b := (s.pdoMap (0x1a00 + k)).flatMap s.mappedBytes
        t = s.updTpdo k (fun r => { r with queued := r.queued ++ [(0, 0, padTo (fdLength b.length) b)] })) ∧
      (∀ r n, s.tpdoRing k = some (r, n) →
        let g := s.ring r
        let j := min n g.unread.length
        (s.acfg (0x2500 + r) 3 ≠ 1 → t = { s with diag := { s.diag with noConsumer := satInc s.diag.noConsumer } }) ∧
        (s.acfg (0x2500 + r) 3 = 1 → j = 0 → t = s) ∧
        (s.acfg (0x2500 + r) 3 = 1 → j ≠ 0 → t =
          (s.setRing r { g with outstanding := g.outstanding ++ g.unread.take j, unread := g.unread.drop j }).updTpdo k
            (fun x => { x with queued := x.queued ++ [(r, j, (g.unread.take j).flatMap Rec.bytes)] }))))

/-- R433: the event timer of an event-driven TPDO is a transmission event, for records only where one is unread; the end of the
inhibit time is one where an event was deferred. In STANDBY, whose network is stopped, no inhibit time ends (R498). -/
def Claim.TpdoTimersAreEvents : Prop :=
  ∀ (s : State) (k : Fin 8), s.coreRuns = true →
    let some' := match s.tpdoRing k.val with
      | some (r, _) => decide ((s.ring r).unread ≠ [])
      | none => true
    let due := s.canTakes && s.tpdoByEvent k.val && decide (s.lcfg (0x1800 + k.val) 5 ≠ 0) && some'
    let ended := s.begin.updTpdo k.val (fun r => { r with inhibit := false, deferred := false })
    (due = true → Ends (.tpdoEventTimer k) s (s.begin.tpdoEvent k.val)) ∧ (due = false → Leaves (.tpdoEventTimer k) s s) ∧
    ((s.tpdoRt k.val).inhibit = false ∨ s.pow.state = .standby → Leaves (.inhibitTimeEnd k) s s) ∧
    (s.pow.state ≠ .standby → (s.tpdoRt k.val).inhibit = true → (s.tpdoRt k.val).deferred = false →
      Ends (.inhibitTimeEnd k) s ended) ∧
    (s.pow.state ≠ .standby → (s.tpdoRt k.val).inhibit = true → (s.tpdoRt k.val).deferred = true → Ends (.inhibitTimeEnd k) s (ended.tpdoEvent k.val))

/-- R259, R267, R433: a transmitted frame leaves its queue and is sent, its inhibit time runs where 1800h+k.03 is not 0, and the
credit of its records returns to their ring within it; a ring that still holds k records is an event again (DEDUCED, log entry 61), and
records of a ring laid anew since return none (DEDUCED, log entry 62). -/
def Claim.TransmissionReturnsCredit : Prop :=
  ∀ (s : State) (k : Fin 8) (r j : Nat) (data : List Byte) (rest : List (Nat × Nat × List Byte)), s.coreRuns = true →
    s.canTakes = true → s.can.nmt = .operational → (s.tpdoRt k.val).queued = (r, j, data) :: rest →
    let sent := (s.begin.updTpdo k.val (fun x =>
      { x with queued := rest, inhibit := decide (s.lcfg (0x1800 + k.val) 3 ≠ 0) })).sendCan (s.liveVal (0x1800 + k.val) 1 % 2048) data
    let g := s.ring r
    let u := if j ≠ 0 ∧ s.acfg (0x2500 + r) 3 = 1 ∧ j ≤ g.outstanding.length then
        (sent.setRing r { g with free := g.free + j, outstanding := g.outstanding.drop j }).passCredits r (g.outstanding.take j)
      else sent
    let again := match s.tpdoRing k.val with
      | some (q, n) => s.tpdoByEvent k.val && decide (n ≤ (s.ring q).unread.length)
      | none => false
    Emit.can (s.liveVal (0x1800 + k.val) 1 % 2048) data s.canBrs ∈ sent.out ∧
    (again = false → Ends (.tpdoTransmitted k) s u) ∧ (again = true → Ends (.tpdoTransmitted k) s (u.tpdoEvent k.val))

/-- Transmitted PDOs (R259, R267, R401, R433). -/
def Obligations.Tpdos : Prop :=
  Claim.TpdoEventsQueueFrames ∧ Claim.TpdoTimersAreEvents ∧ Claim.TransmissionReturnsCredit

/-- R439–R442, R448: a verdict on a verified record accepts an attempt with the right secret: UNLOCKED-L1 by the password, UNLOCKED-L2
by the response, the failed count at 0, 600 s on the timer, and a device-state record; it refuses another with 0202h and a back-off
of 2^(f−1) s, at most 256; an attempt whose record failed verification is refused with 0205h. Before that it waits, and in STANDBY it
waits too, since the core stands (R498). That the password is compared at the verdict is DEDUCED (log entry 50). -/
def Claim.VerdictsUnlockOrBackOff : Prop :=
  ∀ (s : State) (a : Attempt), s.coreRuns = true → s.lock.attempt = some a →
    let judged := { s.begin with lock := { s.lock with attempt := none, verifyFailed := false } }
    let state := if a.response then FieldLock.unlockedL2 else .unlockedL1
    let refused := fun (u : State) (code : Nat) =>
      u.refusal code (if a.response then .s else .h) (key 0x2c10 (if a.response then 5 else 3)) 0
    (a.verified = false ∨ s.pow.state = .standby → Leaves .unlockVerdict s s) ∧
    (s.pow.state ≠ .standby → a.verified = true → s.lock.verifyFailed = true → Ends .unlockVerdict s (refused judged 0x205)) ∧
    (s.pow.state ≠ .standby → a.verified = true → s.lock.verifyFailed = false → s.accepts a = true → Ends .unlockVerdict s
      (({ judged with lock := { judged.lock with state := state, fails := 0, unlock := s.lockTimer 600 } } : State).devRecord
        state 0 false)) ∧
    (s.pow.state ≠ .standby → a.verified = true → s.lock.verifyFailed = false → s.accepts a = false → Ends .unlockVerdict s
      (refused { judged with lock := { judged.lock with
        backOff := s.lockTimer (if s.lock.fails = 0 then 0 else if 9 ≤ s.lock.fails then 256 else 2 ^ (s.lock.fails - 1)) } } 0x202))

/-- R439, R440: an attempt has the right secret where a password is the stored one, and where a response is the leftmost 128 bits of
HMAC-SHA-256 under the device key of the challenge it answers and the serial number. -/
def Claim.SecretsAreCompared : Prop :=
  ∀ (s : State) (a : Attempt),
    (a.response = false → (s.accepts a = true ↔ a.value.toNat = s.lcfg 0x2c10 9)) ∧
    (a.response = true → (s.accepts a = true ↔ leBytes 16 a.value.toNat =
      (hmac256 (beBytes 32 Config.deviceKey.toNat) (leBytes 16 a.chal.toNat ++ leBytes 4 serialNo)).take 16))

/-- R440, R442, R443: at the instant its time on the core clock has run, within the running tick or in a stop of the tick, the back-off
ends, a challenge is spent, and an unlock ends SEALED with its record; where that instant lies beyond the running tick, and in
STANDBY, none does. That these times are told on the core clock, which stands in STANDBY, is DEDUCED (log entry 49). -/
def Claim.LockTimersRunOut : Prop :=
  ∀ s : State, s.coreRuns = true →
    let h := fun (timer : Nat) => s.begin.at (8 * timer)
    let due := fun (timer : Nat) => decide (s.pow.state ≠ .standby) && (!s.tick.on || decide (8 * timer < s.tickCycles))
    (due s.lock.backOff = true → Ends .backOffEnd s { h s.lock.backOff with lock := { s.lock with backOff := 0 } }) ∧
    (due s.lock.backOff = false → Leaves .backOffEnd s s) ∧
    (due s.lock.chalLeft = true → Ends .challengeExpiry s
      { h s.lock.chalLeft with lock := { s.lock with chal := none, chalLeft := 0 } }) ∧
    (due s.lock.chalLeft = false → Leaves .challengeExpiry s s) ∧
    (due s.lock.unlock = true → s.lock.state = .unlockedL1 ∨ s.lock.state = .unlockedL2 → Ends .unlockExpiry s
      (({ h s.lock.unlock with lock := { s.lock with state := .isSealed, unlock := 0 } } : State).devRecord .isSealed s.lock.fails false)) ∧
    (due s.lock.unlock = false ∨ s.lock.state = .unsealed ∨ s.lock.state = .isSealed → Leaves .unlockExpiry s s)

/-- Verdicts on unlock attempts, back-off, expiries (R439–R443, R448). -/
def Obligations.LockVerdictsAndTimers : Prop :=
  Claim.VerdictsUnlockOrBackOff ∧ Claim.SecretsAreCompared ∧ Claim.LockTimersRunOut

/-- R1, R456: a frame is its type, destination, origin, payload length, payload and CRC-16, little-endian; a frame with that CRC and
clean characters stands, and one with another CRC, or with a code error or ABORT, does not. -/
def Claim.FramesCarryTheirCrc : Prop :=
  ∀ (typ : Nat) (dst org : BitVec 8) (p : List Byte) (crc : BitVec 16) (clean : Bool),
    let body : List Byte := [BitVec.ofNat 8 typ, dst, org] ++ leBytes 2 p.length ++ p
    galtFrameOf (BitVec.ofNat 8 typ) dst org p = .galt (body ++ leBytes 2 (crc16 body).toNat) ∧
    (headGood { dst := dst, org := org, crc := crc, clean := clean } typ p = true ↔ clean = true ∧ crc = crc16 body)

/-- R456, R472: every GaltLink frame that does not stand is discarded and counted, whatever its kind; nothing else changes. A node
that takes no part in the ring takes no frame. -/
def Claim.BrokenFramesAreOnlyCounted : Prop :=
  ∀ (s : State) (i : Instr) (hd : FrameHead) (typ : Nat) (p : List Byte), s.coreRuns = true → carries i = some (hd, typ, p) →
    (s.galtOn = true → headGood hd typ p = false →
      Leaves i s { s with galt := { s.galt with codeErrs := satInc s.galt.codeErrs } }) ∧
    (s.galtOn = false → Leaves i s s)

/-- R456, R472: a frame of another origin goes on whole, but for one addressed to this node alone; a frame that only an unbroken ring
passes on goes nowhere in ring state 03h. That ENUM, BREAK and RESTORED do go on there is the model's reading (DEDUCED, log entry
65). -/
def Claim.FramesGoOn : Prop :=
  ∀ (s : State) (typ : Nat) (hd : FrameHead) (p : List Byte),
    (s.galt.state = 3 → s.pass typ hd p = s) ∧ (s.galt.state ≠ 3 → s.pass typ hd p = s.forward typ hd p) ∧
    (s.ownFrame hd = true ∨ s.netHalted = true ∨ (s.mine hd = true ∧ hd.dst ≠ 0xff) → s.forward typ hd p = s) ∧
    (s.ownFrame hd = false → s.netHalted = false → s.mine hd = false ∨ hd.dst = 0xff →
      s.forward typ hd p = { s with out := s.out ++ [galtFrameOf (BitVec.ofNat 8 typ) hd.dst hd.org p] })

/-- R472: a node that detects a break is in ring state 03h and counts it once, with an event; a node told of one by BREAK is in state
03h and passes BREAK on, but for the node that sent it. The event's subject is the model's (DEDUCED, log entry 25). -/
def Claim.BreaksAreCountedOnce : Prop :=
  ∀ s : State, s.coreRuns = true → s.galtOn = true →
    (s.galt.detected = false → Leaves .breakDetected s
      (({ s with galt := { s.galt with
          state := 3, detected := true, broke := true, locked := false, breaks := satInc s.galt.breaks } } : State).event 0x2d00 7
        (satInc s.galt.breaks))) ∧
    (s.galt.detected = true → Leaves .breakDetected s s) ∧
    (∀ (hd : FrameHead) (a : Byte), headGood hd 0x0a [a] = true →
      (s.ownFrame hd = true → Leaves (.breakFrame hd a) s s) ∧
      (s.ownFrame hd = false → Ends (.breakFrame hd a) s
        (({ s.begin with galt := { s.galt with state := 3 } } : State).forward 0x0a hd [a])))

/-- Frames that do not stand, frames that go on, and breaks (R1, R456, R472). -/
def Obligations.GaltLinkBreaks : Prop :=
  Claim.FramesCarryTheirCrc ∧ Claim.BrokenFramesAreOnlyCounted ∧ Claim.FramesGoOn ∧ Claim.BreaksAreCountedOnce

/-- R457, R458: a member takes the count of ENUM as its address and sends ENUM on with its own entry and the count raised by one;
beyond 63 it adds no entry (R459) and has address 0 (DEDUCED, log entry 65). -/
def Claim.EnumGivesTheAddress : Prop :=
  ∀ (s : State) (hd : FrameHead) (count : BitVec 8) (l : List EnumEntry), s.coreRuns = true → s.galtOn = true →
    headGood hd 1 (enumPayload count l) = true → s.role = 2 → s.netHalted = false → s.mine hd = true →
    let u := { s with galt := { s.galt with state := 1, table := none, gotDelay := false, gotTime := false } }
    let v := { u with galt := { u.galt with addr := count, fresh := false } }
    let next : BitVec 8 := if count = 255 then 255 else count + 1
    (count.toNat ≤ 63 → Ends (.enumFrame hd count l) s
      { v with out := [galtFrameOf 1 hd.dst hd.org (next :: (l ++ [s.ownEntry]).flatMap EnumEntry.bytes)] }) ∧
    (63 < count.toNat → Ends (.enumFrame hd count l) s { u with
      galt := { u.galt with addr := 0 }
      out := [galtFrameOf 1 hd.dst hd.org (next :: l.flatMap EnumEntry.bytes)] })

/-- R457, R459, R469, R470: ENUM that has returned to node 0 is followed by TABLE, and a sounding is due; with a count above 64 the ring
does not close, node 0 will enumerate again, and an event is written. What node 0 keeps for origins that were reset is dropped. ENUM of
another origin goes on. -/
def Claim.EnumReturnsToNodeZero : Prop :=
  ∀ (s : State) (hd : FrameHead) (count : BitVec 8) (l : List EnumEntry), s.coreRuns = true → s.galtOn = true →
    headGood hd 1 (enumPayload count l) = true → s.role = 1 →
    let u := ((l.filter (·.fresh)).map (·.serial)).foldl State.freshOrigin s.begin
    (hd.org ≠ 0 → Ends (.enumFrame hd count l) s (s.begin.forward 1 hd (enumPayload count l))) ∧
    (hd.org = 0 → count.toNat ≤ 64 → Ends (.enumFrame hd count l) s
      (({ u with galt := { u.galt with count := count, soundDue := true } } : State).galtSend 2 0xff (enumPayload count l))) ∧
    (hd.org = 0 → 64 < count.toNat → Ends (.enumFrame hd count l) s
      (({ u with galt := { u.galt with retry := true } } : State).event 0x2d00 0 0))

/-- R457, R459, R474: node 0 enumerates again where an enumeration gave too many nodes, when the ring first locks, and when a break is
restored: the ring state is 01h, and ENUM goes out with node 0's own entry. A member that has detected the break sends RESTORED
when its receiver locks, and passes on another's, in ring state 03h too (DEDUCED, log entry 65). -/
def Claim.MasterEnumerates : Prop :=
  ∀ s : State, s.coreRuns = true → s.galtOn = true →
    let started := fun (u : State) =>
      let v := { u with galt := { u.galt with
        state := 1, addr := 0, broke := false, table := none, gotDelay := false, gotTime := false, soundDue := false
        retry := false, fresh := false } }
      v.galtSend 1 0xff (enumPayload 1 [u.ownEntry])
    let locked := { s.begin with galt := { s.galt with locked := true, detected := false } }
    (s.role = 1 → s.galt.retry = true → Ends .enumerationRetry s (started s.begin)) ∧
    (s.role ≠ 1 ∨ s.galt.retry = false → Leaves .enumerationRetry s s) ∧
    (s.galt.locked = true → Leaves .characterLock s s) ∧
    (s.galt.locked = false → s.role = 1 → Ends .characterLock s (started locked)) ∧
    (s.galt.locked = false → s.role ≠ 1 → Ends .characterLock s
      (if s.galt.detected then locked.galtSend 0x0b 0xff [s.galt.addr] else locked)) ∧
    (∀ (hd : FrameHead) (a : Byte), headGood hd 0x0b [a] = true → Ends (.restoredFrame hd a) s
      (if s.role = 1 then started (s.begin.forward 0x0b hd [a]) else s.begin.forward 0x0b hd [a]))

/-- R457, R463, R474: a node closes the ring once it has TABLE, DELAY and TIME of the enumeration: ring state 02h, the node count, the
nodes with the delays of TIME; its streams go on from the oldest record not acknowledged. Before that nothing closes. -/
def Claim.RingClosesWithItsThreeFrames : Prop :=
  ∀ s : State,
    (∀ l, s.galt.table = some l → s.galt.state = 1 → s.galt.gotDelay = true → s.galt.gotTime = true →
      let t := s.tryClose
      t = { s with galt := t.galt } ∧ t.galt.state = 2 ∧ t.galt.broke = false ∧ t.galt.count = BitVec.ofNat 8 l.length ∧
        (∀ a e, l[a]? = some e → t.node a = { present := true, product := e.product, revision := e.revision, serial := e.serial
                                              offBus := e.offBus, delay := s.galt.advances.getD a 0 }) ∧
        (∀ a, l.length ≤ a → t.node a = {}) ∧
        (∀ r, t.stream r = { s.stream r with sent := 0 }) ∧
        t.galt.addr = s.galt.addr ∧ t.galt.advance = s.galt.advance ∧ t.galt.origins = s.galt.origins) ∧
    (s.galt.table = none ∨ s.galt.state ≠ 1 ∨ s.galt.gotDelay = false ∨ s.galt.gotTime = false → s.tryClose = s)

/-- R456, R457, R462: TABLE and DELAY go on, but for one addressed to this node alone. For this node, or for all, TABLE is kept and
DELAY gives the cable delay that the next boundary takes into h; each closes the ring where it is the last of the three to arrive. -/
def Claim.TableAndDelayAreTaken : Prop :=
  ∀ (s : State) (hd : FrameHead), s.coreRuns = true → s.galtOn = true →
    (∀ l : List EnumEntry, let p := enumPayload (BitVec.ofNat 8 l.length) l
      headGood hd 2 p = true →
        (s.mine hd = true → Ends (.tableFrame hd l) s
          ({ s.begin.pass 2 hd p with galt := { s.galt with table := some l } } : State).tryClose) ∧
        (s.mine hd = false → Ends (.tableFrame hd l) s (s.begin.pass 2 hd p))) ∧
    (∀ c : BitVec 32, headGood hd 4 (leBytes 4 c.toNat) = true →
      (s.mine hd = true → Ends (.delayFrame hd c) s
        ({ s.begin.pass 4 hd (leBytes 4 c.toNat) with galt := { s.galt with cableNext := some c, gotDelay := true } } : State).tryClose) ∧
      (s.mine hd = false → Ends (.delayFrame hd c) s (s.begin.pass 4 hd (leBytes 4 c.toNat))))

/-- The enumeration of the ring (R457–R459, R474). -/
def Obligations.GaltLinkEnumeration : Prop :=
  Claim.EnumGivesTheAddress ∧ Claim.EnumReturnsToNodeZero ∧ Claim.MasterEnumerates ∧ Claim.RingClosesWithItsThreeFrames ∧
    Claim.TableAndDelayAreTaken

/-- R460–R462: at its boundaries node 0 sends TICK, whose offset is the time to the next start of a 50 ns character; a member whose
cable delay has been sounded anew takes h = that delay and its factory receive path. A node that has detected a break sends BREAK with
its address at its boundaries (R472). That the offset is a free value below 50 ns is the model's choice (DESIGN CHOICE, log entries 14
and 87). -/
def Claim.BoundariesSendTick : Prop :=
  ∀ s : State, s.galtOn = true →
    let t := s.galtBoundary
    let brk := if s.galt.detected = true ∧ s.netHalted = false then [galtFrameOf 0x0a 0xff s.galt.addr [s.galt.addr]] else []
    (s.role = 1 → s.netHalted = false → ∃ off : BitVec 32, off.toNat < 50000 ∧ t.out = s.out ++ .galtTick off :: brk) ∧
    (s.role ≠ 1 ∨ s.netHalted = true → t.out = s.out ++ brk) ∧
    (∀ c, s.galt.cableNext = some c → t.galt = { s.galt with cableNext := none, hop := c + BitVec.ofNat 32 Config.receivePathPs }) ∧
    (s.galt.cableNext = none → t.galt = s.galt) ∧ t = { s with galt := t.galt, draws := t.draws, out := t.out }

/-- R460, R461, R463: a member forwards TICK with the offset raised by h + r, unless the ring is broken, keeps the advance
h + offset where the TICK counts: on a closed ring, and in ring state 03h on a LOCKED node whose receiver is in order (R473; DEDUCED,
log entry 65). -/
def Claim.TicksTravel : Prop :=
  ∀ (s : State) (off : BitVec 32) (r : Nat), s.coreRuns = true → s.galtOn = true →
    (s.role ≠ 2 → Leaves (.tickSymbol off r) s s) ∧
    (s.role = 2 → Ends (.tickSymbol off r) s { s with
      galt := { s.galt with
        advance := if s.galt.state = 2 ∨ (s.galt.state = 3 ∧ s.galt.broke = false ∧ s.tick.lock = .locked)
          then s.galt.hop + off else s.galt.advance }
      out := if s.galt.state = 3 ∨ s.netHalted = true then [] else [.galtTick (off + s.galt.hop + BitVec.ofNat 32 r)] })

/-- R462: a segment is sounded by SOUND and then DELAY to the neighbour with the cable delay: half the mean of the 16 round trips less
the transmit path. A member is asked by SOUND, unless the ring is broken; node 0 starts in every tick n with n mod 1024 = 512 and in
an enumeration, whose TIME follows. -/
def Claim.SegmentsAreSounded : Prop :=
  ∀ (s : State) (trips : List Nat), s.coreRuns = true → s.galtOn = true →
    let heard := [.galtSound, galtFrameOf 4 (BitVec.ofNat 8 s.downstream) s.galt.addr (leBytes 4 (cableDelay trips).toNat)]
    let due := s.tick.on && decide (s.tick.counter.toNat % 1024 = 512)
    (∀ c : Nat, trips.length = 16 → trips.sum = 32 * c →
      cableDelay trips = BitVec.ofInt 32 ((c : Int) - (Config.transmitPathPs : Int))) ∧
    (s.netHalted = false → s.role = 2 → s.galt.state ≠ 3 → Ends (.sound trips) s { s with out := heard }) ∧
    (s.role ≠ 2 ∨ s.galt.state = 3 ∨ s.netHalted = true → Leaves (.sound trips) s s) ∧
    (s.netHalted = false → s.role = 1 → s.galt.soundDue = false → due = true →
      Ends (.soundingStart trips) s { s with out := heard }) ∧
    (s.netHalted = false → s.role = 1 → s.galt.soundDue = true → Ends (.soundingStart trips) s
      ({ s with galt := { s.galt with soundDue := false }, out := heard } : State).sendTime) ∧
    (s.role ≠ 1 ∨ (s.galt.soundDue = false ∧ due = false) → Leaves (.soundingStart trips) s s)

/-- R463, R465, R470: TIME carries the number and the epoch of the running tick and one delay for each node, 0 for node 0, and every
CREDIT goes out again behind it. Node 0 sends it in every tick n with n mod 1024 = 0. -/
def Claim.TimeIsSent : Prop :=
  ∀ s : State, s.coreRuns = true →
    let n := s.galt.count.toNat
    let delay := fun (a : Nat) => if a = 0 then 0 else (s.galt.advances.getD a 0).toNat
    let time := leBytes 4 s.tick.counter.toNat ++ leBytes 2 s.tick.epoch.toNat ++ [BitVec.ofNat 8 n] ++
      (List.range n).flatMap (fun a => leBytes 4 (delay a))
    let due := s.galtOn && decide (s.role = 1) && s.tick.on && decide (s.tick.counter.toNat % 1024 = 0)
    s.sendTime = s.galt.origins.foldl State.sendCredit (s.galtSend 3 0xff time) ∧
    (∀ o : OriginRt, (∀ a, s.addressOf o.serial = some a →
        s.sendCredit o = s.galtSend 9 a (leBytes 1 o.ring ++ leBytes 2 o.credits.toNat)) ∧
      (s.addressOf o.serial = none → s.sendCredit o = s)) ∧
    (due = true → Ends .timeSend s s.begin.sendTime) ∧ (due = false → Leaves .timeSend s s)

/-- R456, R463: TIME goes on with the member's own advance in its place, and its delays are kept; node 0 keeps what returns to it. One
that is not node 0's own, or is addressed to another node, only goes on. -/
def Claim.TimeIsTaken : Prop :=
  ∀ (s : State) (hd : FrameHead) (n : TickNo) (inst : Int) (e : BitVec 16) (adv : List (BitVec 32)), s.coreRuns = true → s.galtOn = true →
    headGood hd 3 (timePayload n e adv) = true →
    let own := if s.galt.addr ≠ 0 then adv.set s.galt.addr.toNat s.galt.advance else adv
    let kept := fun (u : State) (l : List (BitVec 32)) => ({ u with galt := { u.galt with
      advances := l, gotTime := true, nodes := u.galt.nodes.map (fun x => (x.1, { x.2 with delay := l.getD x.1 0 })) } } : State).tryClose
    (s.role = 1 → hd.org = 0 → Ends (.timeFrame hd ⟨n, inst⟩ e adv) s (kept s.begin adv)) ∧
    (s.role = 1 ∧ hd.org ≠ 0 ∨ s.role ≠ 1 ∧ s.mine hd = false →
      Ends (.timeFrame hd ⟨n, inst⟩ e adv) s (s.begin.pass 3 hd (timePayload n e adv))) ∧
    (s.role ≠ 1 → s.mine hd = true → Ends (.timeFrame hd ⟨n, inst⟩ e adv) s
      ((kept (s.begin.pass 3 hd (timePayload n e own)) own).adoptCounter n inst e))

/-- R465: a member in LOCKED or ACQUIRING whose own number of the boundary differs from TIME's takes the master's number and epoch, from
which its next boundary counts on; where a boundary of its own lies between that one and the running tick, one more or one less. The
running tick keeps its number. In another lock state, and where the numbers agree, nothing changes. Its own number of that boundary is
the one of its boundary nearest in time (DEDUCED, log entry 87). -/
def Claim.TimeSetsTheNextNumber : Prop :=
  ∀ (s : State) (n : TickNo) (inst : Int) (e : BitVec 16),
    let own := s.boundaryNumber inst
    let follows := decide (s.tick.lock = .locked ∨ s.tick.lock = .acquiring)
    let steps := fun (next : TickNo × BitVec 16) => s.adoptCounter n inst e = { s with galt := { s.galt with counterNext := some next } }
    (2 * ratAbs (psCycles inst) < s.tickLen → own = s.tick.counter) ∧
    ((s.tickLen : Rat) < 2 * psCycles inst → 2 * psCycles inst < 3 * s.tickLen → own = s.openNumber.1) ∧
    (follows = false ∨ n = own → s.adoptCounter n inst e = s) ∧
    (follows = true → n ≠ own → s.tick.counter = own → steps (n, e)) ∧
    (follows = true → n ≠ own → s.tick.counter = own + 1 → steps (n + 1, if n = 0xffffffff then e + 1 else e)) ∧
    (follows = true → n ≠ own → s.tick.counter + 1 = own → steps (n - 1, if n = 0 then e - 1 else e))

/-- Tick distribution and sounding (R460–R465). -/
def Obligations.GaltLinkTime : Prop :=
  Claim.BoundariesSendTick ∧ Claim.TicksTravel ∧ Claim.SegmentsAreSounded ∧ Claim.TimeIsSent ∧ Claim.TimeIsTaken ∧
    Claim.TimeSetsTheNextNumber

/-- R435, R456: an access relayed to this node is served as one from port G and answered to its origin with its status, then its
data or the abort code of its refusal; one to another node, or to all, goes on. The operation bytes and the layout of the status are
PRESUMED (log entry 64). -/
def Claim.RelayedAccessesAreAnswered : Prop :=
  ∀ (s : State) (hd : FrameHead) (session op : Byte) (write : Bool) (idx : BitVec 16) (sub : BitVec 8) (data : List Byte) (cyc : Nat),
    let named := [if write then (2 : Byte) else 1] ++ leBytes 2 idx.toNat ++ [sub]
    let p := session :: op :: (named ++ data)
    s.coreRuns = true → s.galtOn = true → headGood hd 5 p = true →
    let via : Via := { port := .g, cyc := cyc, origin := op.toNat, node := hd.org.toNat }
    let passed := s.begin.pass 5 hd p
    let h := passed.at cyc
    let w := h.write via idx.toNat sub.toNat data false
    let d := h.read via idx.toNat sub.toNat 1 false false
    let answer := fun (u : State) (code : Nat) (value : List Byte) => u.galtSend 6 hd.org.toNat
      (session :: (named ++ leBytes 2 code ++ if code = 0 then value else leBytes 4 (abortCode code)))
    let here := s.mine hd && !s.ownFrame hd
    (here = false ∨ s.begin.portServes .g = false → Ends (.accessFrame hd session op write idx sub data cyc) s passed) ∧
    (here = true → s.begin.portServes .g = true → write = true → w.1 < 65536 →
      Ends (.accessFrame hd session op write idx sub data cyc) s (answer w.2 w.1 [])) ∧
    (here = true → s.begin.portServes .g = true → write = false → d.1 < 65536 →
      Ends (.accessFrame hd session op write idx sub data cyc) s (answer d.2.2 d.1 d.2.1))

/-- R466, R467: the response of a relayed access ends its session and is passed to the network, its data or its abort code; without
one within the timeout the session ends with an event and the abort 0504 0000h; a late response is discarded, and one for another
node goes on. -/
def Claim.RelaySessionsEnd : Prop :=
  ∀ (s : State) (hd : FrameHead) (id : Byte) (write : Bool) (idx : BitVec 16) (sub : BitVec 8), s.coreRuns = true →
    let ended := fun (u : State) => { u with galt := { s.galt with sessions := s.galt.sessions.filter (fun q => q.id ≠ id) } }
    let found := s.galt.sessions.find? (fun q => q.id = id)
    let here := s.mine hd && !s.ownFrame hd
    (∀ (st : BitVec 16) (abort : BitVec 32) (data : List Byte),
      let i := Instr.responseFrame hd ⟨id, write, idx, sub⟩ st abort data
      let p := responsePayload id write idx sub st abort data
      s.galtOn = true → headGood hd 6 p = true →
      let passed := s.begin.pass 6 hd p
      (here = false ∨ found = none → Ends i s passed) ∧
      (∀ q, here = true → found = some q → st = 0 →
        Ends i s ((ended passed).answerUsdo q.node.toNat (if q.write then [] else data))) ∧
      (∀ q, here = true → found = some q → st ≠ 0 → Ends i s ((ended passed).abortUsdo q.node.toNat abort.toNat))) ∧
    (∀ q, found = some q → Ends (.accessTimeout id) s (((ended s.begin).event 0x2d00 0 0).abortUsdo q.node.toNat 0x05040000)) ∧
    (found = none → Leaves (.accessTimeout id) s s)

/-- R431, R466: an NMT command from the master goes on, and sets the NMT state of the member it is addressed to, as one from the
network would. -/
def Claim.MasterCommandsNmt : Prop :=
  ∀ (s : State) (hd : FrameHead) (c : Byte), s.coreRuns = true → s.galtOn = true → headGood hd 0x0c [c] = true →
    let u := s.begin.pass 0x0c hd [c]
    let takes := decide (s.role = 2) && s.mine hd && s.can.started
    (takes = false → Ends (.galtlinkNmtFrame hd c) s u) ∧
    (takes = true →
      (c = 1 → Ends (.galtlinkNmtFrame hd c) s { u with can := { s.can with nmt := .operational } }) ∧
      (c = 2 → Ends (.galtlinkNmtFrame hd c) s { u with can := { s.can with nmt := .stopped, held := [] } }) ∧
      (c = 0x80 → Ends (.galtlinkNmtFrame hd c) s { u with can := { s.can with nmt := .preOperational, held := [] } }) ∧
      (c = 0x81 → Reaches (.galtlinkNmtFrame hd c) s fun t => t.boot = .inReset ∧ t.lock.fuse = s.lock.fuse ∧ t.rings = [] ∧
        t.active = [] ∧ t.live = [] ∧ t.pending = s.pending) ∧
      (c = 0x82 → Reaches (.galtlinkNmtFrame hd c) s fun t => t.can.nmt = .preOperational ∧ t.can.txErr = 0 ∧ t.can.rxErr = 0 ∧
        t.can.busState = 0 ∧ t.live = s.commStored.live ∧ t.active = s.active ∧ t.sameLanes s ∧ t.sameResults s) ∧
      (c ∉ [1, 2, 0x80, 0x81, 0x82] → Ends (.galtlinkNmtFrame hd c) s u))

/-- Accesses and NMT commands through the ring (R431, R435, R456, R466, R467). -/
def Obligations.GaltLinkRelay : Prop := Claim.RelayedAccessesAreAnswered ∧ Claim.RelaySessionsEnd ∧ Claim.MasterCommandsNmt

/-- R468: a member on a closed ring sends the next unread records of a stream, up to four at a time and at most 16 unacknowledged, with
the origin SEQ of the first, and on a resend from the oldest unacknowledged; sending takes no record from the ring. -/
def Claim.StreamsSendWithinTheWindow : Prop :=
  ∀ (s : State) (r : BitVec 8), s.coreRuns = true →
    let x := s.stream r.toNat
    let unread := (s.ring r.toNat).unread
    let sends := fun (i : Instr) (from_ : Nat) =>
      let n := min 4 (min (unread.length - from_) (16 - from_))
      let u := s.begin.setStream r.toNat { x with sent := from_ + n, taken := max x.taken (from_ + n) }
      (n = 0 → Leaves i s (s.setStream r.toNat { x with sent := from_ })) ∧
      (n ≠ 0 → Ends i s (u.galtSend 7 0 (leBytes 1 r.toNat ++ leBytes 2 (x.seq + BitVec.ofNat 16 from_).toNat ++
        ((unread.drop from_).take n).flatMap (fun q => (q.relay s.galt.addr).bytes)))) ∧
      n ≤ 4 ∧ (from_ ≤ 16 → from_ + n ≤ 16) ∧ (from_ ≤ unread.length → from_ + n ≤ unread.length)
    (s.streams r.toNat = true → (min 4 (min (unread.length - x.sent) (16 - x.sent)) ≠ 0 → sends (.streamSend r) x.sent) ∧
      (min 4 (min (unread.length - x.sent) (16 - x.sent)) = 0 → Leaves (.streamSend r) s s)) ∧
    (s.streams r.toNat = true → x.sent ≠ 0 → sends (.streamResend r) 0) ∧
    (s.streams r.toNat = true → x.sent = 0 → Leaves (.streamResend r) s s) ∧
    (s.streams r.toNat = false → Leaves (.streamSend r) s s ∧ Leaves (.streamResend r) s s) ∧
    (s.streams r.toNat = true ↔ s.galtOn = true ∧ s.role = 2 ∧ s.galt.state = 2 ∧ s.netHalted = false ∧
      s.acfg (0x2500 + r.toNat) 3 = 2)

/-- R469, R477: node 0 stores a streamed record that is the next in order of its origin in a free place of an open ring that is not
G's own, keeps its SEQ and acknowledges it; for one stored before, the last SEQ stored is acknowledged again; one out of order, and one
that finds no place, is dropped unacknowledged. -/
def Claim.StreamedRecordsAreJudged : Prop :=
  ∀ (s : State) (org : BitVec 8) (serial : BitVec 32) (r : Nat) (q : BitVec 16) (b : BitVec 128),
    let o := s.origin serial r
    let place := decide (s.acfg (0x2500 + r) 1 ≠ 0) && decide (s.acfg (0x2500 + r) 3 ≠ 2) && (s.ring r).takes
    let ack := fun (u : State) (n : BitVec 16) => u.galtSend 8 org.toNat (leBytes 1 r ++ leBytes 2 n.toNat)
    let t := s.judge org serial r q b
    (o.last = none ∨ o.last = some (q - 1) → place = true →
      t = ack ((s.setRing r ((s.ring r).put (recOfRelayed b serial))).setOrigin { o with last := some q }) q) ∧
    (o.last = none ∨ o.last = some (q - 1) → place = false → t = s) ∧
    (∀ l, o.last = some l → q ≠ l + 1 → (l - q).toNat < 32768 → t = ack s l) ∧
    (∀ l, o.last = some l → q ≠ l + 1 → 32768 ≤ (l - q).toNat → t = s)

/-- R469: node 0 judges the records of a STREAM frame of a node that is present, in order, with rising SEQ; another node's frame is
dropped, and a frame not for node 0 goes on. -/
def Claim.StreamFramesAreTaken : Prop :=
  ∀ (s : State) (hd : FrameHead) (r : BitVec 8) (q : BitVec 16) (recs : List (BitVec 128)), s.coreRuns = true → s.galtOn = true →
    let p := streamPayload r.toNat q recs
    headGood hd 7 p = true →
    let here := decide (s.role = 1) && s.mine hd && !s.ownFrame hd
    let x := s.node hd.org.toNat
    let judged := recs.foldl (fun acc b => ((acc.1.judge hd.org x.serial r.toNat acc.2 b), acc.2 + 1)) (s.begin.pass 7 hd p, q)
    (here = false ∨ x.present = false → Ends (.streamFrame hd r q recs) s (s.begin.pass 7 hd p)) ∧
    (here = true → x.present = true → Ends (.streamFrame hd r q recs) s (judged.1.ringEvents s.begin))

/-- R469: an ACK makes a member's records up to its sequence outstanding, where all of them have been sent; that it does nothing else is
the model's choice (DEDUCED, log entry 65). One to all goes on as well. -/
def Claim.AcksTakeSentRecords : Prop :=
  ∀ (s : State) (hd : FrameHead) (r : BitVec 8) (q : BitVec 16), s.coreRuns = true → s.galtOn = true →
    let p := leBytes 1 r.toNat ++ leBytes 2 q.toNat
    headGood hd 8 p = true →
    let here := decide (s.role = 2) && s.mine hd && !s.ownFrame hd
    let g := s.ring r.toNat
    let x := s.stream r.toNat
    let n := (q - x.seq).toNat + 1
    let passed := s.begin.pass 8 hd p
    (here = true → s.acfg (0x2500 + r.toNat) 3 = 2 → n ≤ x.taken → Ends (.ackFrame hd r q) s
      ((passed.setRing r.toNat { g with outstanding := g.outstanding ++ g.unread.take n, unread := g.unread.drop n }).setStream r.toNat
        { x with seq := q + 1, sent := x.sent - n, taken := x.taken - n })) ∧
    (here = false ∨ s.acfg (0x2500 + r.toNat) 3 ≠ 2 ∨ x.taken < n → Ends (.ackFrame hd r q) s passed)

/-- R258, R470: the increase of a CREDIT's cumulative count is a credit return by G: it frees that many places; beyond the outstanding
count it is refused with 0601h and counted in 2600h.07, on a ring of another consumer with 0602h (DEDUCED, log entry 65); the count is
kept in each case. -/
def Claim.CreditsFreePlaces : Prop :=
  ∀ (s : State) (hd : FrameHead) (r : BitVec 8) (c : BitVec 16), s.coreRuns = true → s.galtOn = true →
    let p := leBytes 1 r.toNat ++ leBytes 2 c.toNat
    headGood hd 9 p = true →
    let here := decide (s.role = 2) && s.mine hd && !s.ownFrame hd
    let g := s.ring r.toNat
    let x := s.stream r.toNat
    let n := (c - x.credit).toNat
    let u := (s.begin.pass 9 hd p).setStream r.toNat { x with credit := c }
    let mineToo := decide (s.acfg (0x2500 + r.toNat) 3 = 2)
    (here = false → Ends (.creditFrame hd r c) s (s.begin.pass 9 hd p)) ∧
    (here = true → n = 0 → Ends (.creditFrame hd r c) s u) ∧
    (here = true → n ≠ 0 → mineToo = false → Ends (.creditFrame hd r c) s (u.refusal 0x602 .g (key (0x2500 + r.toNat) 7) 0)) ∧
    (here = true → n ≠ 0 → mineToo = true → g.outstanding.length < n → Ends (.creditFrame hd r c) s
      { u.refusal 0x601 .g (key (0x2500 + r.toNat) 7) 0 with
        ledger := { s.ledger with overReturn := satInc s.ledger.overReturn } }) ∧
    (here = true → n ≠ 0 → mineToo = true → n ≤ g.outstanding.length → Ends (.creditFrame hd r c) s
      ((u.setRing r.toNat { g with free := g.free + n, outstanding := g.outstanding.drop n }).passCredits r.toNat
        (g.outstanding.take n)))

/-- Result streams (R468–R470, R477). -/
def Obligations.GaltLinkStreams : Prop :=
  Claim.StreamsSendWithinTheWindow ∧ Claim.StreamedRecordsAreJudged ∧ Claim.StreamFramesAreTaken ∧ Claim.AcksTakeSentRecords ∧
    Claim.CreditsFreePlaces

/-- R487, R498: a sweep that finds no mismatch makes the clear due at the next boundary; one that finds one is counted, with an event of
2E00h.05, and the stop stays. None ends in a clock fault or in STANDBY, or where none runs. -/
def Claim.SweepDecidesTheClear : Prop :=
  ∀ (s : State) (m : Bool) (cyc : Nat), s.coreRuns = true →
    let h := s.begin.at cyc
    let runs := s.sup.sweeping && decide (s.sup.stopCause ≠ 0) && !s.clockFault && decide (s.pow.state ≠ .standby)
    (runs = false → Ends (.sweepComplete ⟨m, cyc⟩) s h) ∧
    (runs = true → Ends (.sweepComplete ⟨false, cyc⟩) s { h with sup := { s.sup with sweeping := false, clearDue := true } }) ∧
    (runs = true → Ends (.sweepComplete ⟨true, cyc⟩) s
      (({ h with sup := { s.sup with sweeping := false, mismatches := satInc s.sup.mismatches } } : State).event 0x2e00 5
        (satInc s.sup.mismatches)))

/-- R487, R494: a clear that is due ends its stop at the boundary; an INTEGRITY-STOP ends with filters, pairing and event counts anew;
a stop of which no clear is due stays. -/
def Claim.ClearsEndTheirStop : Prop :=
  ∀ s : State,
    let t := s.clearStops
    t.sup = { s.sup with
      clearDue := false, stopCause := if s.sup.clearDue then 0 else s.sup.stopCause
      shutClear := false, shutdown := s.sup.shutdown && !s.sup.shutClear } ∧
    (s.sup.clearDue = true → ∀ n, t.slot n = { s.slot n with filt := {}, prev := none, events := 0 }) ∧
    (s.sup.clearDue = true → ∀ l, t.lane l = { s.lane l with filt := {} }) ∧
    (s.sup.clearDue = false → t.slots = s.slots ∧ t.lanes = s.lanes) ∧
    t.sameConfig s ∧ t.sameResults s ∧ t.sameTime s ∧ t.sameIo s ∧ t.jn.flash = s.jn.flash

/-- R492: a die reading is kept within 16 bits with its maximum; the warning begins at 150 °C, with an event and 4200h, and ends below
145 °C. -/
def Claim.DieReadingsWarn : Prop :=
  ∀ (s : State) (c : Int), s.coreRuns = true → s.converterOn = true →
    let v := clampInt (-32768) 32767 c
    Reaches (.dieTemperatureReading c) s fun t =>
      t.sup.die = v ∧ t.sup.dieMax = some (match s.sup.dieMax with
        | some m => max m v
        | none => v) ∧
        (t.sup.warning = true ↔ 15000 ≤ v ∨ s.sup.warning = true ∧ 14500 ≤ v) ∧
        (s.sup.warning = false → 15000 ≤ v → t.diag.eventN = satInc s.diag.eventN ∧
          (s.emcyOn = true → t.can.errs.head? = some 0x00014200)) ∧
        (s.sup.warning = true ∨ v < 15000 → t.diag = s.diag) ∧
        t = { s with sup := { s.sup with die := t.sup.die, dieMax := t.sup.dieMax, warning := t.sup.warning }
                     diag := t.diag, can := t.can, out := t.out }

/-- R493: a thermal shutdown latches, counts, reports 4200h, and stops outputs, sources and lanes, with every trigger in flight
resolved, a calibration ended and queued stores discarded; a shutdown latched in STANDBY stops nothing yet. That a detection while one
is latched does nothing is DEDUCED (log entry 68). -/
def Claim.ThermalShutdownLatches : Prop :=
  ∀ s : State, s.coreRuns = true →
    (s.sup.shutdown = true ∨ s.boot = .inReset → Leaves .thermalShutdown s s) ∧
    (s.sup.shutdown = false → s.boot ≠ .inReset → s.pow.state ≠ .standby → Reaches .thermalShutdown s fun t =>
      t.sup.shutdown = true ∧ t.sup.shutdowns = satInc s.sup.shutdowns ∧ t.stopState = 2 ∧ t.lanesRun = false ∧
        (∀ n, n < 4 → s.outMode n ≠ 0 → (t.output n).held = 0x8000) ∧ (∀ e ∈ t.sources, e.2.isOpen = true) ∧
        (∀ n, (t.slot n).run = none ∧ (t.slot n).pend = none) ∧ (∀ l, (t.lane l).conv = none) ∧ t.cal.run = none ∧
        t.jn.queue.length ≤ 1 ∧ (s.emcyOn = true → t.can.errs.head? = some 0x00024200) ∧ t.sameConfig s ∧ t.sameTime s) ∧
    (s.sup.shutdown = false → s.boot ≠ .inReset → s.pow.state = .standby →
      Leaves .thermalShutdown s { s with sup := { s.sup with shutdown := true, shutClear := false, shutDue := true } })

/-- The sweep of a stop clear, what a clear ends, and heat (R487, R492–R494). -/
def Obligations.HeatAndSweep : Prop :=
  Claim.SweepDecidesTheClear ∧ Claim.ClearsEndTheirStop ∧ Claim.DieReadingsWarn ∧ Claim.ThermalShutdownLatches

/-- R493, R500: with a thermal shutdown and an integrity stop in force together 2004h.07 reads 02h, and lanes run only when both have
been cleared, outside STANDBY, where a shutdown is only latched. -/
def Obligations.BothStopsMustClear : Prop :=
  ∀ s : State, s.pow.state ≠ .standby →
    (s.sup.shutdown = true → s.sup.stopCause ≠ 0 → s.readDevice 7 = 2) ∧
    (s.lanesRun = true → s.sup.shutdown = false ∧ s.sup.stopCause = 0)

/-- R487, R494–R498: a stop clear starts the sweep, a shutdown clear waits for the boundary, and a power state is requested with
its instant. -/
def Claim.PowerRequestsWait : Prop :=
  ∀ (s : State) (v : Via),
    let h := s.heard v
    let req := fun (p : Power) (x : BitVec 8) =>
      ({ h with pow := { h.pow with request := some p, reqAt := v.cyc, lastReq := x } } : State).complete v
    (s.admits v 0x2e00 7 [1] → Ends (.stopClear v) s (({ h with sup := { h.sup with sweeping := true } } : State).complete v)) ∧
    (s.admits v 0x2e01 3 [1] → Ends (.shutdownClear v) s (({ h with sup := { h.sup with shutClear := true } } : State).complete v)) ∧
    (s.admits v 0x2e02 1 [0] → Ends (.runRequest v) s (req .run 0)) ∧
    (s.admits v 0x2e02 1 [1] → Ends (.dozeRequest v) s (req .doze 1)) ∧
    (s.admits v 0x2e02 1 [2] → Ends (.standbyRequest v) s (req .standby 2))

/-- R496: at the boundary at which no trigger is in flight a drained device leaves its lanes, which stop, with their sources open and a
calibration ended, and is in DOZE where that is requested; while a trigger is in flight it waits. -/
def Claim.DozeIsEntered : Prop :=
  ∀ s : State, s.coreRuns = true → s.tick.on = true → s.tick.part = .prologue → s.pow.due = true → s.pow.noTrig = true →
    (s.anyTrigger = true → Leaves .dozeEntry s s) ∧
    (s.anyTrigger = false → s.pow.request ≠ none → Reaches .dozeEntry s fun t =>
      t.pow.state = (if s.pow.request = some .doze then .doze else s.pow.state) ∧
        t.pow.request = (if s.pow.request = some .doze then none else s.pow.request) ∧
        t.pow.lanesOff = true ∧ t.lanesRun = false ∧
        (s.pow.lanesOff = false → (∀ e ∈ t.sources, e.2.isOpen = true) ∧ (∀ l, (t.lane l).conv = none ∧ (t.lane l).conn = none) ∧
          t.quad.overlap = none ∧ t.cal.run = none) ∧
        t.sameConfig s ∧ t.sameResults s ∧ t.sameIo s ∧ t.tick = s.tick ∧ t.clk = s.clk ∧ t.jn = s.jn ∧ t.lock = s.lock)

/-- R296, R313, R338, R498: STANDBY is entered at a boundary from a device that has left its lanes and whose journal is quiet: the tick
and the system clock stop, every output is high impedance with its held code kept, every monitor output is released, a scan ends,
and nothing has woken it yet. -/
def Claim.StandbyIsEntered : Prop :=
  ∀ s : State, s.coreRuns = true → s.tick.on = true → s.tick.part = .prologue → s.pow.due = true →
    s.pow.request = some .standby →
    (s.pow.lanesOff = false ∨ s.jn.quiet = false → Leaves .standbyEntry s s) ∧
    (s.pow.lanesOff = true → s.jn.quiet = true → Reaches .standbyEntry s fun t =>
      t.pow.state = .standby ∧ t.pow.request = none ∧ t.pow.resume = (if s.pow.state = .doze then .doze else .run) ∧
        t.pow.wakeSrc = 0 ∧ t.pow.wakePin = false ∧ t.tick.on = false ∧ t.clk.pll = 0 ∧ t.touch.scan = none ∧
        (∀ n, n < 4 → (t.output n).hiZ = true ∧ (t.output n).held = (s.output n).held) ∧
        (∀ m, m < 16 → (t.monitor m).out = false) ∧ (∀ i, t.elem i = { s.elem i with wakeHits := 0 }) ∧
        (∀ g, t.plug g = { s.plug g with moved := false }) ∧ t.sameConfig s ∧ t.sameResults s ∧
        t.tick.counter = s.tick.counter ∧ t.lock = s.lock ∧ t.jn = s.jn ∧ t.sameLanes s)

/-- R296, R313, R499: what each wake source needs: two wake scans in a row that reach an electrode's threshold, a change of a plug group
with its wake bit, a monitor with its wake bit asserted on two always-on cycles in a row, nothing for the last. -/
def Claim.WakeSourcesNeedTheirEvent : Prop :=
  ∀ (s : State) (cycles : Nat),
    (s.wakeReady 0 cycles = true ↔ ∃ e ∈ s.elems, 2 ≤ e.2.wakeHits) ∧
    (s.wakeReady 1 cycles = true ↔ ∃ g ∈ plugsOn s.active, s.acfg (0x2740 + g) 9 / 8 % 2 = 1 ∧ (s.plug g).moved = true) ∧
    (s.wakeReady 2 cycles = true ↔ 2 ≤ cycles ∧ ∃ m ∈ monitorsOn s.active, s.routed 7 m = true ∧ (s.monitor m).comp = true) ∧
    s.wakeReady 3 cycles = true

/-- R498, R499: in STANDBY an enabled wake source that has what it needs raises WAKE and restarts the XO; another does nothing. The
return opens the next tick in the state that STANDBY left, with 2E02h.03 the sources. -/
def Claim.WakingOpensTheNextTick : Prop :=
  ∀ s : State, s.coreRuns = true →
    (∀ (k : Fin 4) (cycles : Nat),
      let wakes := decide (s.pow.state = .standby) && decide (s.acfg 0x2e02 2 / 2 ^ k.val % 2 = 1) && s.wakeReady k.val cycles
      (wakes = true → Leaves (.wakeRequest ⟨k, cycles⟩) s { s with
        pow := { s.pow with wakeSrc := s.pow.wakeSrc ||| BitVec.ofNat 8 (2 ^ k.val), wakePin := true }
        clk := { s.clk with pll := 1 } }) ∧
      (wakes = false → Leaves (.wakeRequest ⟨k, cycles⟩) s s)) ∧
    (s.pow.state ≠ .standby ∨ s.pow.wakePin = false → Leaves .wakeReturn s s) ∧
    (s.pow.state = .standby → s.pow.wakePin = true → s.galt.counterNext = none → s.pow.request = none → Reaches .wakeReturn s fun t =>
      t.tick.on = true ∧ t.tick.part = .prologue ∧ t.tick.counter = s.tick.counter + 1 ∧ t.clk.pll = 2 ∧
        t.pow.state = s.pow.resume ∧ t.pow.wakePin = false ∧ t.pow.lastWake = s.pow.wakeSrc)

/-- Power states (R494–R499). -/
def Obligations.PowerStates : Prop :=
  Claim.PowerRequestsWait ∧ Claim.DozeIsEntered ∧ Claim.StandbyIsEntered ∧ Claim.WakeSourcesNeedTheirEvent ∧
    Claim.WakingOpensTheNextTick
end

