-- ==== Sys2Proof/Laws/State.lean ====
section
/-! SUPPORT. What a command's start and end do, and what reading a table after a write gives. -/
namespace Sys2Proof.Machine
open Sys2Proof

/-- Reading a key that has been deleted gives what an unlisted key reads as. -/
theorem tget_tdel_same {α : Type} (d : Nat → α) (t : Tbl α) (k : Nat) : tget d (tdel t k) k = d k := by
  induction t with
  | nil => rfl
  | cons e t ih =>
    obtain ⟨j, w⟩ := e
    simp only [tdel]
    split
    · exact ih
    · rename_i h; simp [tget, h, ih]

/-- Deleting a key leaves every other key. -/
theorem tget_tdel_other {α : Type} (d : Nat → α) (t : Tbl α) (k j : Nat) (h : j ≠ k) : tget d (tdel t k) j = tget d t j := by
  induction t with
  | nil => rfl
  | cons e t ih =>
    obtain ⟨i, w⟩ := e
    simp only [tdel]
    split
    · rename_i hk; subst hk; simp [tget, h, ih]
    · simp only [tget]; split <;> simp_all

/-- A deleted key is not listed. -/
theorem tdel_absent {α : Type} (t : Tbl α) (k : Nat) : ∀ e ∈ tdel t k, e.1 ≠ k := by
  induction t with
  | nil => intro e h; cases h
  | cons e t ih =>
    obtain ⟨j, v⟩ := e
    intro x hx
    simp only [tdel] at hx
    split at hx
    · exact ih x hx
    · rename_i hk
      cases hx with
      | head => exact fun h => hk h.symm
      | tail _ h => exact ih x h

/-- Reading a key inserted into a table without it. -/
theorem tget_tins_same {α : Type} (d : Nat → α) (k : Nat) (v : α) (t : Tbl α) (ha : ∀ e ∈ t, e.1 ≠ k) :
    tget d (tins k v t) k = v := by
  induction t with
  | nil => simp [tins, tget]
  | cons e t ih =>
    obtain ⟨j, w⟩ := e
    have hj : j ≠ k := ha (j, w) (List.mem_cons_self ..)
    simp only [tins]
    split
    · simp [tget]
    · simp only [tget]
      split
      · omega
      · exact ih (fun x hx => ha x (List.mem_cons_of_mem _ hx))

/-- An insertion leaves every other key. -/
theorem tget_tins_other {α : Type} (d : Nat → α) (k : Nat) (v : α) (t : Tbl α) (j : Nat) (h : j ≠ k) :
    tget d (tins k v t) j = tget d t j := by
  induction t with
  | nil => simp [tins, tget, h]
  | cons e t ih =>
    obtain ⟨i, w⟩ := e
    simp only [tins]
    split
    · simp [tget, h]
    · simp only [tget]; split <;> simp_all

/-- A read after a write to the same key gives what was written. -/
@[simp] theorem tget_tput_same {α : Type} [DecidableEq α] (d : Nat → α) (t : Tbl α) (k : Nat) (v : α) :
    tget d (tput d t k v) k = v := by
  unfold tput
  split
  · rename_i h; rw [tget_tdel_same, h]
  · exact tget_tins_same d k v _ (tdel_absent t k)

/-- A write leaves every other key alone. -/
theorem tget_tput_other {α : Type} [DecidableEq α] (d : Nat → α) (t : Tbl α) (k j : Nat) (v : α) (h : j ≠ k) :
    tget d (tput d t k v) j = tget d t j := by
  unfold tput
  split
  · exact tget_tdel_other d t k j h
  · rw [tget_tins_other d k v _ j h, tget_tdel_other d t k j h]

/-- Keys listed in order from a bound up stay so from any lower bound. -/
theorem twfAbove_mono {α : Type} [DecidableEq α] (d : Nat → α) (lo hi : Nat) (t : Tbl α) (h : lo ≤ hi)
    (w : twfAbove d hi t = true) : twfAbove d lo t = true := by
  cases t with
  | nil => rfl
  | cons e t => simp only [twfAbove, Bool.and_eq_true, decide_eq_true_eq] at w ⊢; exact ⟨⟨by omega, w.1.2⟩, w.2⟩

/-- A deletion keeps the canonical form. -/
theorem twfAbove_tdel {α : Type} [DecidableEq α] (d : Nat → α) (lo k : Nat) (t : Tbl α) (w : twfAbove d lo t = true) :
    twfAbove d lo (tdel t k) = true := by
  induction t generalizing lo with
  | nil => rfl
  | cons e t ih =>
    obtain ⟨j, v⟩ := e
    simp only [twfAbove, Bool.and_eq_true, decide_eq_true_eq] at w
    simp only [tdel]
    split
    · exact twfAbove_mono d lo (j + 1) _ (by omega) (ih _ w.2)
    · simp only [twfAbove, Bool.and_eq_true, decide_eq_true_eq]; exact ⟨w.1, ih _ w.2⟩

/-- An insertion of an absent key with a value that is not the unlisted one keeps the canonical form. -/
theorem twfAbove_tins {α : Type} [DecidableEq α] (d : Nat → α) (lo k : Nat) (v : α) (t : Tbl α) (hv : v ≠ d k) (hk : lo ≤ k)
    (ha : ∀ e ∈ t, e.1 ≠ k) (w : twfAbove d lo t = true) : twfAbove d lo (tins k v t) = true := by
  induction t generalizing lo with
  | nil => simp [tins, twfAbove, hk, hv]
  | cons e t ih =>
    obtain ⟨j, u⟩ := e
    have hj : j ≠ k := ha (j, u) (List.mem_cons_self ..)
    simp only [twfAbove, Bool.and_eq_true, decide_eq_true_eq] at w
    simp only [tins]
    split
    · simp only [twfAbove, Bool.and_eq_true, decide_eq_true_eq]
      exact ⟨⟨hk, hv⟩, ⟨by omega, w.1.2⟩, w.2⟩
    · simp only [twfAbove, Bool.and_eq_true, decide_eq_true_eq]
      exact ⟨w.1, ih (j + 1) (by omega) (fun x hx => ha x (List.mem_cons_of_mem _ hx)) w.2⟩

/-- Every write keeps a table's canonical form. -/
theorem twf_tput {α : Type} [DecidableEq α] (d : Nat → α) (t : Tbl α) (k : Nat) (v : α) (w : twf d t = true) :
    twf d (tput d t k v) = true := by
  unfold tput twf
  split
  · exact twfAbove_tdel d 0 k t w
  · rename_i h
    exact twfAbove_tins d 0 k v _ h (Nat.zero_le _) (tdel_absent t k) (twfAbove_tdel d 0 k t w)

/-- A map over the listed values keeps a table's canonical form. -/
theorem twf_tmapVals {α : Type} [DecidableEq α] (d : Nat → α) (f : Nat → α → α) (t : Tbl α) (w : twf d t = true) :
    twf d (tmapVals d f t) = true := by
  unfold tmapVals
  suffices h : ∀ l : Tbl α, twf d (l.foldr (fun e acc => tput d acc e.1 (f e.1 e.2)) t) = true from h t
  intro l
  induction l with
  | nil => exact w
  | cons e l ih => exact twf_tput d _ e.1 _ ih

/-- What a key reads as after a map over the listed values, where the map keeps what an unlisted key reads as. -/
theorem tget_tmapVals {α : Type} [DecidableEq α] (d : Nat → α) (f : Nat → α → α) (t : Tbl α) (k : Nat) (hf : f k (d k) = d k) :
    tget d (tmapVals d f t) k = f k (tget d t k) := by
  unfold tmapVals
  suffices h : ∀ l acc : Tbl α, tget d (l.foldr (fun e acc => tput d acc e.1 (f e.1 e.2)) acc) k =
      if ∃ e ∈ l, e.1 = k then f k (tget d l k) else tget d acc k by
    rw [h]
    split
    · rfl
    · rename_i hn
      have hu : ∀ l : Tbl α, (¬ ∃ e ∈ l, e.1 = k) → tget d l k = d k := by
        intro l
        induction l with
        | nil => intro _; rfl
        | cons e l ih =>
          intro hl
          have he : k ≠ e.1 := fun h => hl ⟨e, List.mem_cons_self .., h.symm⟩
          simp only [tget, if_neg he]
          exact ih fun ⟨x, hx, hk⟩ => hl ⟨x, List.mem_cons_of_mem _ hx, hk⟩
      rw [hu t hn, hf]
  intro l acc
  induction l with
  | nil => simp
  | cons e l ih =>
    simp only [List.foldr_cons]
    by_cases he : k = e.1
    · subst he
      rw [tget_tput_same, if_pos ⟨e, List.mem_cons_self .., rfl⟩]
      simp [tget]
    · rw [tget_tput_other _ _ _ _ _ he, ih]
      have hk : ¬ e.1 = k := fun h => he h.symm
      simp only [tget, if_neg he, List.mem_cons, exists_eq_or_imp, hk, false_or]

/-- Removing a key that no entry has changes nothing. -/
theorem tdel_of_absent {α : Type} (k : Nat) (t : Tbl α) (ha : ∀ e ∈ t, e.1 ≠ k) : tdel t k = t := by
  induction t with
  | nil => rfl
  | cons e t ih =>
    have he : ¬ k = e.1 := fun h => ha e (List.mem_cons_self ..) h.symm
    simp only [tdel, if_neg he, ih fun x hx => ha x (List.mem_cons_of_mem _ hx)]

/-- Removing a key just inserted gives the table that had no entry of it. -/
theorem tdel_tins {α : Type} (k : Nat) (v : α) (t : Tbl α) (ha : ∀ e ∈ t, e.1 ≠ k) : tdel (tins k v t) k = t := by
  induction t with
  | nil => simp [tins, tdel]
  | cons e t ih =>
    have he : ¬ k = e.1 := fun h => ha e (List.mem_cons_self ..) h.symm
    have ht := fun x hx => ha x (List.mem_cons_of_mem _ hx)
    unfold tins
    split
    · simp only [tdel, if_true, if_neg he, tdel_of_absent k t ht]
    · simp only [tdel, if_neg he, ih ht]

/-- Writing a key twice is writing it once, in canonical form or not. -/
@[simp] theorem tput_tput {α : Type} [DecidableEq α] (d : Nat → α) (t : Tbl α) (k : Nat) (v w : α) :
    tput d (tput d t k v) k w = tput d t k w := by
  have h : tdel (tput d t k v) k = tdel t k := by
    unfold tput
    split
    · exact tdel_of_absent k _ (tdel_absent t k)
    · exact tdel_tins k v _ (tdel_absent t k)
  show (if w = d k then tdel (tput d t k v) k else tins k w (tdel (tput d t k v) k)) = tput d t k w
  rw [h]
  rfl

/-- A slot read after a write to it. -/
@[simp] theorem State.slot_setSlot (s : State) (n : Nat) (r : SlotRt) : (s.setSlot n r).slot n = r := by
  simp [State.slot, State.setSlot]
/-- A slot read after a change of it. -/
@[simp] theorem State.slot_updSlot (s : State) (n : Nat) (f : SlotRt → SlotRt) : (s.updSlot n f).slot n = f (s.slot n) := by
  simp [State.updSlot]
/-- A ring read after a write to it. -/
@[simp] theorem State.ring_setRing (s : State) (r : Nat) (g : Ring) : (s.setRing r g).ring r = g := by
  simp [State.ring, State.setRing]
/-- A lane read after a change of it. -/
@[simp] theorem State.lane_updLane (s : State) (l : Nat) (f : LaneRt → LaneRt) : (s.updLane l f).lane l = f (s.lane l) := by
  simp [State.lane, State.updLane]
/-- A pin read after a change of it. -/
@[simp] theorem State.pin_updPin (s : State) (x : Nat) (f : PinRt → PinRt) : (s.updPin x f).pin x = f (s.pin x) := by
  simp [State.pin, State.updPin]
/-- A monitor read after a change of it. -/
@[simp] theorem State.monitor_updMonitor (s : State) (m : Nat) (f : MonRt → MonRt) :
    (s.updMonitor m f).monitor m = f (s.monitor m) := by
  simp [State.monitor, State.updMonitor]
/-- An output read after a change of it. -/
@[simp] theorem State.output_updOutput (s : State) (n : Nat) (f : OutRt → OutRt) : (s.updOutput n f).output n = f (s.output n) := by
  simp [State.output, State.updOutput]
/-- A generator read after a change of it. -/
@[simp] theorem State.gen_updGen (s : State) (g : Nat) (f : GenRt → GenRt) : (s.updGen g f).gen g = f (s.gen g) := by
  simp [State.gen, State.updGen]
/-- An element read after a change of it. -/
@[simp] theorem State.elem_updElem (s : State) (i : Nat) (f : ElemRt → ElemRt) : (s.updElem i f).elem i = f (s.elem i) := by
  simp [State.elem, State.updElem]
/-- A plug group read after a change of it. -/
@[simp] theorem State.plug_updPlug (s : State) (g : Nat) (f : PlugRt → PlugRt) : (s.updPlug g f).plug g = f (s.plug g) := by
  simp [State.plug, State.updPlug]
/-- A TPDO read after a change of it. -/
@[simp] theorem State.tpdoRt_updTpdo (s : State) (k : Nat) (f : TpdoRt → TpdoRt) : (s.updTpdo k f).tpdoRt k = f (s.tpdoRt k) := by
  simp [State.tpdoRt, State.updTpdo]

/-- A command that sends no EMCY by itself leaves the CAN port's own state alone, but for 1001h and its list; all else stays. -/
@[simp] theorem State.apart_emcy (s : State) (c d : Nat) : (s.emcy c d).apart = s.apart := by
  unfold State.emcy; split
  · unfold State.sendCan; split <;> rfl
  · rfl
/-- The end of a command touches the CAN port only. -/
@[simp] theorem State.apart_settle (s : State) : s.settle.apart = s.apart := by
  unfold State.settle
  dsimp only
  split
  · exact State.apart_emcy s 0 0
  · rfl
/-- The start of a command clears what was sent. -/
@[simp] theorem State.apart_begin (s : State) : s.begin.apart = s.apart := rfl

/-- What a command that goes through `run` answers while the core runs. -/
theorem State.run_next (s : State) (f : State → State) (h : s.coreRuns = true) : s.run f = .next (f s.begin).settle := by
  unfold State.coreRuns at h
  unfold State.run
  cases hc : s.clk.coreStopped <;> simp_all

/-- A stopped core keeps its state. -/
theorem State.run_stopped (s : State) (f : State → State) (h : s.coreRuns = false) : s.run f = .next s.begin := by
  unfold State.coreRuns at h
  unfold State.run
  cases hc : s.clk.coreStopped <;> simp_all

end Sys2Proof.Machine
end

