-- ==== Sys2Proof/Laws/Exec.lean ====
section
/-! SUPPORT. What every command is: a reset, or an effect between the start and the end of a command. -/
namespace Sys2Proof.Machine
open Sys2Proof

/-- Every command but the two resets goes through `run`. -/
theorem exec_eq_run (i : Instr) : (∃ b, ∀ s, exec i s = s.resetNow b) ∨ (∃ f, ∀ s, exec i s = s.run f) := by
  cases i <;> first
    | exact .inl ⟨_, fun s => by unfold exec; rfl⟩
    | exact .inr ⟨_, fun s => by unfold exec; rfl⟩

/-- What `run` can answer: the state as it was, with nothing sent, or the effect brought to its end. -/
theorem State.run_cases {s t : State} {f : State → State} (h : s.run f = .next t) :
    (s.coreRuns = false ∧ t = s.begin) ∨ (s.coreRuns = true ∧ t = (f s.begin).settle) := by
  cases hc : s.coreRuns
  · rw [State.run_stopped s f hc] at h; injection h with h; exact .inl ⟨rfl, h.symm⟩
  · rw [State.run_next s f hc] at h; injection h with h; exact .inr ⟨rfl, h.symm⟩

/-- After the end of a command 1001h holds what the state calls for (R432). -/
theorem State.settle_err (s : State) : s.settle.can.err = s.settle.errReg := by
  unfold State.settle
  dsimp only
  split
  · unfold State.emcy
    split
    · unfold State.sendCan; split <;> rfl
    · rfl
  · rfl

/-- A command that goes through `run` ends in its effect, brought to its end. -/
theorem State.ends_of_run {i : Instr} {s u : State} {f : State → State} (hr : s.coreRuns = true) (he : exec i s = s.run f)
    (hu : f s.begin = u) : Ends i s u := by
  subst hu; exact he.trans (State.run_next s f hr)

/-- A command that goes through `run` reaches what its effect, brought to its end, meets. -/
theorem State.reaches_of_run {i : Instr} {s : State} {p : State → Prop} {f : State → State} (hr : s.coreRuns = true)
    (he : exec i s = s.run f) (hp : p (f s.begin).settle) : Reaches i s p := ⟨_, he.trans (State.run_next s f hr), hp⟩

end Sys2Proof.Machine
end

