-- ==== Sys2Proof/Laws/Access.lean ====
section
/-! SUPPORT. What an accepted write does, little-endian numbers, and the journal's flash under its two operations. -/
namespace Sys2Proof.Machine
open Sys2Proof

/-- A write that is admitted has the effect of its entry and completes the access; nothing else (R392, R393). -/
theorem State.portWrite_of_admits {s : State} {v : Via} {idx sub : Nat} {data : List Byte} {e : Entry}
    (h : s.admits v idx sub data) (he : entryOf idx sub = some e) :
    s.begin.portWrite v idx sub data = ((s.heard v).writeEffect v idx sub e (leNum data)).complete v := by
  obtain ⟨_, h2, h3⟩ := h
  unfold State.portWrite
  rw [if_pos h2]
  unfold State.heard at *
  unfold State.write
  dsimp only
  rw [if_neg (by simpa using h3)]
  rw [he]

/-- The number that the little-endian bytes of a number spell. -/
theorem leNum_leBytes (n v : Nat) (h : v < 256 ^ n) : leNum (leBytes n v) = v := by
  induction n generalizing v with
  | zero => simp at h; subst h; rfl
  | succ n ih =>
    have h1 : leBytes (n + 1) v = BitVec.ofNat 8 v :: leBytes n (v / 256) := by
      unfold leBytes
      rw [List.range_succ_eq_map]
      simp [Nat.pow_succ', Nat.div_div_eq_div_mul, Function.comp_def]
    rw [h1]
    simp only [leNum]
    rw [ih]
    · simp; omega
    · rw [Nat.pow_succ] at h; omega

/-- Programming leaves every byte below its address. -/
theorem tget_burn_below (flash : Tbl Nat) (addr : Nat) (l : List Byte) (a : Nat) (h : a < addr) :
    tget erased (burn flash addr l) a = tget erased flash a := by
  induction l generalizing flash addr with
  | nil => rfl
  | cons b t ih => rw [burn, ih _ _ (by omega), tget_tput_other _ _ _ _ _ (by omega)]

/-- Programming leaves every byte behind its last one. -/
theorem tget_burn_above (flash : Tbl Nat) (addr : Nat) (l : List Byte) (a : Nat) (h : addr + l.length ≤ a) :
    tget erased (burn flash addr l) a = tget erased flash a := by
  induction l generalizing flash addr with
  | nil => rfl
  | cons b t ih =>
    simp only [List.length_cons] at h
    rw [burn, ih _ _ (by omega), tget_tput_other _ _ _ _ _ (by omega)]

/-- Programming makes each of its addresses read as the byte programmed there. -/
theorem tget_burn_inside (flash : Tbl Nat) (addr : Nat) (l : List Byte) (k : Nat) (h : k < l.length) :
    tget erased (burn flash addr l) (addr + k) = (l.getD k 0).toNat := by
  induction l generalizing flash addr k with
  | nil => cases h
  | cons b t ih =>
    cases k with
    | zero => rw [burn, tget_burn_below _ _ _ _ (by omega)]; simp
    | succ k =>
      have := ih (tput erased flash addr b.toNat) (addr + 1) k (by simpa using h)
      rw [burn, show addr + (k + 1) = addr + 1 + k by omega, this]; simp

/-- Programming keeps the flash in its canonical form. -/
theorem twf_burn (flash : Tbl Nat) (addr : Nat) (l : List Byte) (w : twf erased flash = true) :
    twf erased (burn flash addr l) = true := by
  induction l generalizing flash addr with
  | nil => exact w
  | cons b t ih => exact ih _ _ (twf_tput _ _ _ _ w)

/-- Dropping entries keeps a table in its canonical form: so an erase keeps the flash in it. -/
theorem twfAbove_filter {α : Type} [DecidableEq α] (d : Nat → α) (p : Nat × α → Bool) (lo : Nat) (t : Tbl α)
    (w : twfAbove d lo t = true) : twfAbove d lo (t.filter p) = true := by
  induction t generalizing lo with
  | nil => rfl
  | cons e t ih =>
    obtain ⟨j, v⟩ := e
    simp only [twfAbove, Bool.and_eq_true, decide_eq_true_eq] at w
    obtain ⟨⟨h1, h2⟩, h3⟩ := w
    simp only [List.filter]
    split
    · simp only [twfAbove, Bool.and_eq_true, decide_eq_true_eq]
      exact ⟨⟨h1, h2⟩, ih _ h3⟩
    · exact twfAbove_mono d lo (j + 1) _ (by omega) (ih _ h3)

/-- The flash at reset is in its canonical form. -/
theorem twf_flash_reset : twf erased State.reset.jn.flash = true := rfl

end Sys2Proof.Machine
end

