-- ==== Sys2Proof/Laws/Keeps.lean ====
section
/-! SUPPORT. What each operation on the state leaves alone: boot, pending, lock.fuse, active, tick.counter, tick.on, tick.part, where it leaves them alone. One lemma an operation. -/
namespace Sys2Proof.Machine
open Sys2Proof
@[simp] theorem foldl_keeps_boot {α : Type} (f : State → α → State) (l : List α) (s : State)
    (h : ∀ s a, (f s a).boot = s.boot) : (l.foldl f s).boot = s.boot := by
  induction l generalizing s with
  | nil => rfl
  | cons a t ih => simp [ih, h]
@[simp] theorem foldl_keeps_pending {α : Type} (f : State → α → State) (l : List α) (s : State)
    (h : ∀ s a, (f s a).pending = s.pending) : (l.foldl f s).pending = s.pending := by
  induction l generalizing s with
  | nil => rfl
  | cons a t ih => simp [ih, h]
@[simp] theorem foldl_keeps_lock_fuse {α : Type} (f : State → α → State) (l : List α) (s : State)
    (h : ∀ s a, (f s a).lock.fuse = s.lock.fuse) : (l.foldl f s).lock.fuse = s.lock.fuse := by
  induction l generalizing s with
  | nil => rfl
  | cons a t ih => simp [ih, h]
@[simp] theorem foldl_keeps_active {α : Type} (f : State → α → State) (l : List α) (s : State)
    (h : ∀ s a, (f s a).active = s.active) : (l.foldl f s).active = s.active := by
  induction l generalizing s with
  | nil => rfl
  | cons a t ih => simp [ih, h]
@[simp] theorem foldl_keeps_tick_counter {α : Type} (f : State → α → State) (l : List α) (s : State)
    (h : ∀ s a, (f s a).tick.counter = s.tick.counter) : (l.foldl f s).tick.counter = s.tick.counter := by
  induction l generalizing s with
  | nil => rfl
  | cons a t ih => simp [ih, h]
@[simp] theorem foldl_keeps_tick_on {α : Type} (f : State → α → State) (l : List α) (s : State)
    (h : ∀ s a, (f s a).tick.on = s.tick.on) : (l.foldl f s).tick.on = s.tick.on := by
  induction l generalizing s with
  | nil => rfl
  | cons a t ih => simp [ih, h]
@[simp] theorem foldl_keeps_tick_part {α : Type} (f : State → α → State) (l : List α) (s : State)
    (h : ∀ s a, (f s a).tick.part = s.tick.part) : (l.foldl f s).tick.part = s.tick.part := by
  induction l generalizing s with
  | nil => rfl
  | cons a t ih => simp [ih, h]
theorem foldl_keeps_all {α : Type} (f : State → α → State) (l : List α) (s : State)
    (h : ∀ s a, (f s a).boot = s.boot ∧ (f s a).pending = s.pending ∧ (f s a).lock.fuse = s.lock.fuse ∧ (f s a).active = s.active ∧ (f s a).tick.counter = s.tick.counter ∧ (f s a).tick.on = s.tick.on ∧ (f s a).tick.part = s.tick.part) :
    (l.foldl f s).boot = s.boot ∧ (l.foldl f s).pending = s.pending ∧ (l.foldl f s).lock.fuse = s.lock.fuse ∧ (l.foldl f s).active = s.active ∧ (l.foldl f s).tick.counter = s.tick.counter ∧ (l.foldl f s).tick.on = s.tick.on ∧ (l.foldl f s).tick.part = s.tick.part := by
  induction l generalizing s with
  | nil => simp
  | cons a t ih => simp [ih, h]
theorem ite_keeps_live (c : Prop) [Decidable c] (a b s : State) (ha : (a).boot = s.boot ∧ (a).pending = s.pending ∧ (a).active = s.active ∧ (a).tick.counter = s.tick.counter ∧ (a).tick.on = s.tick.on ∧ (a).tick.part = s.tick.part)
    (hb : (b).boot = s.boot ∧ (b).pending = s.pending ∧ (b).active = s.active ∧ (b).tick.counter = s.tick.counter ∧ (b).tick.on = s.tick.on ∧ (b).tick.part = s.tick.part) : ((if c then a else b)).boot = s.boot ∧ ((if c then a else b)).pending = s.pending ∧ ((if c then a else b)).active = s.active ∧ ((if c then a else b)).tick.counter = s.tick.counter ∧ ((if c then a else b)).tick.on = s.tick.on ∧ ((if c then a else b)).tick.part = s.tick.part := by
  split <;> assumption
@[simp] theorem TickSt.takeTouch_keeps (t : TickSt) (n next : TickNo) :
    (TickSt.takeTouch t n next).2.counter = t.counter ∧ (TickSt.takeTouch t n next).2.on = t.on ∧ (TickSt.takeTouch t n next).2.part = t.part := by
  unfold TickSt.takeTouch; (try dsimp only); all_goals ((repeat' split) <;> simp)
@[simp] theorem TickSt.dropLatches_keeps (t : TickSt) :
    (TickSt.dropLatches t).counter = t.counter ∧ (TickSt.dropLatches t).on = t.on ∧ (TickSt.dropLatches t).part = t.part := by
  unfold TickSt.dropLatches; (try dsimp only); all_goals ((repeat' split) <;> simp)
@[simp] theorem TickSt.takeMonitor_keeps (t : TickSt) (n : TickNo) :
    (TickSt.takeMonitor t n).2.counter = t.counter ∧ (TickSt.takeMonitor t n).2.on = t.on ∧ (TickSt.takeMonitor t n).2.part = t.part := by
  unfold TickSt.takeMonitor; (try dsimp only); all_goals ((repeat' split) <;> simp)
@[simp] theorem TickSt.blockEvent_keeps (t : TickSt) (x : Rat) (back : Nat) :
    (TickSt.blockEvent t x back).counter = t.counter ∧ (TickSt.blockEvent t x back).on = t.on ∧ (TickSt.blockEvent t x back).part = t.part := by
  unfold TickSt.blockEvent; (try dsimp only); all_goals ((repeat' split) <;> simp)
@[simp] theorem TickSt.steer_keeps (t : TickSt) (src i : Nat) (e : Rat) :
    (TickSt.steer t src i e).counter = t.counter ∧ (TickSt.steer t src i e).on = t.on ∧ (TickSt.steer t src i e).part = t.part := by
  unfold TickSt.steer; (try dsimp only); all_goals ((repeat' split) <;> simp)
@[simp] theorem TickSt.afterEvent_keeps (t : TickSt) :
    (TickSt.afterEvent t).counter = t.counter ∧ (TickSt.afterEvent t).on = t.on ∧ (TickSt.afterEvent t).part = t.part := by
  unfold TickSt.afterEvent; (try dsimp only); all_goals ((repeat' split) <;> simp)
@[simp] theorem TickSt.miss_keeps (t : TickSt) :
    (TickSt.miss t).counter = t.counter ∧ (TickSt.miss t).on = t.on ∧ (TickSt.miss t).part = t.part := by
  unfold TickSt.miss; (try dsimp only); all_goals ((repeat' split) <;> simp)
@[simp] theorem TickSt.noBlock_keeps (t : TickSt) :
    (TickSt.noBlock t).counter = t.counter ∧ (TickSt.noBlock t).on = t.on ∧ (TickSt.noBlock t).part = t.part := by
  unfold TickSt.noBlock; (try dsimp only); all_goals ((repeat' split) <;> simp)
@[simp] theorem TickSt.restart_keeps (t : TickSt) (a : Tbl Nat) :
    (TickSt.restart t a).counter = t.counter ∧ (TickSt.restart t a).on = t.on ∧ (TickSt.restart t a).part = t.part := by
  unfold TickSt.restart; (try dsimp only); all_goals ((repeat' split) <;> simp)
@[simp] theorem TickSt.toFree_keeps (t : TickSt) :
    (TickSt.toFree t).counter = t.counter ∧ (TickSt.toFree t).on = t.on ∧ (TickSt.toFree t).part = t.part := by
  unfold TickSt.toFree; (try dsimp only); all_goals ((repeat' split) <;> simp)
@[simp] theorem TickSt.transition_keeps (t : TickSt) (a : Tbl Nat) :
    (TickSt.transition t a).counter = t.counter ∧ (TickSt.transition t a).on = t.on ∧ (TickSt.transition t a).part = t.part := by
  unfold TickSt.transition; (try dsimp only); all_goals ((repeat' split) <;> simp)
@[simp] theorem TickSt.activation_keeps (t : TickSt) (old new : Tbl Nat) :
    (TickSt.activation t old new).counter = t.counter ∧ (TickSt.activation t old new).on = t.on ∧ (TickSt.activation t old new).part = t.part := by
  unfold TickSt.activation; (try dsimp only); all_goals ((repeat' split) <;> simp)
@[simp] theorem TickSt.resume_keeps (t : TickSt) (a : Tbl Nat) :
    (TickSt.resume t a).counter = t.counter ∧ (TickSt.resume t a).on = t.on ∧ (TickSt.resume t a).part = t.part := by
  unfold TickSt.resume; (try dsimp only); all_goals ((repeat' split) <;> simp)
@[simp] theorem TickSt.shift_keeps (t : TickSt) (len : Rat) (i : Nat) :
    (TickSt.shift t len i).counter = t.counter ∧ (TickSt.shift t len i).on = t.on ∧ (TickSt.shift t len i).part = t.part := by
  unfold TickSt.shift; (try dsimp only); all_goals ((repeat' split) <;> simp)
@[simp] theorem TickSt.openStretch_keeps (t : TickSt) :
    (TickSt.openStretch t).counter = t.counter ∧ (TickSt.openStretch t).on = t.on ∧ (TickSt.openStretch t).part = t.part := by
  unfold TickSt.openStretch; (try dsimp only); all_goals ((repeat' split) <;> simp)
@[simp] theorem TickSt.countHold_keeps (t : TickSt) (was : Bool) :
    (TickSt.countHold t was).counter = t.counter ∧ (TickSt.countHold t was).on = t.on ∧ (TickSt.countHold t was).part = t.part := by
  unfold TickSt.countHold; (try dsimp only); all_goals ((repeat' split) <;> simp)
@[simp] theorem TickSt.stampTick_keeps (t : TickSt) (sup : Bool) (code : BitVec 8) :
    (TickSt.stampTick t sup code).counter = t.counter ∧ (TickSt.stampTick t sup code).on = t.on ∧ (TickSt.stampTick t sup code).part = t.part := by
  unfold TickSt.stampTick; (try dsimp only); all_goals ((repeat' split) <;> simp)
@[simp] theorem TickSt.enter_keeps (t : TickSt) :
    (TickSt.enter t).counter = t.counter ∧ (TickSt.enter t).on = t.on ∧ (TickSt.enter t).part = t.part := by
  unfold TickSt.enter; (try dsimp only); all_goals ((repeat' split) <;> simp)
@[simp] theorem State.clockAt_keeps (s : State) (cyc : Nat) :
    (State.clockAt s cyc).boot = s.boot ∧ (State.clockAt s cyc).pending = s.pending ∧ (State.clockAt s cyc).lock.fuse = s.lock.fuse ∧ (State.clockAt s cyc).active = s.active ∧ (State.clockAt s cyc).tick.counter = s.tick.counter ∧ (State.clockAt s cyc).tick.on = s.tick.on ∧ (State.clockAt s cyc).tick.part = s.tick.part := by
  unfold State.clockAt; (try dsimp only); all_goals ((repeat' split) <;> simp)
@[simp] theorem State.setSlot_keeps (s : State) (n : Nat) (r : SlotRt) :
    (State.setSlot s n r).boot = s.boot ∧ (State.setSlot s n r).pending = s.pending ∧ (State.setSlot s n r).lock.fuse = s.lock.fuse ∧ (State.setSlot s n r).active = s.active ∧ (State.setSlot s n r).tick.counter = s.tick.counter ∧ (State.setSlot s n r).tick.on = s.tick.on ∧ (State.setSlot s n r).tick.part = s.tick.part := by
  unfold State.setSlot; (try dsimp only); all_goals ((repeat' split) <;> simp)
@[simp] theorem State.updSlot_keeps (s : State) (n : Nat) (f : SlotRt → SlotRt) :
    (State.updSlot s n f).boot = s.boot ∧ (State.updSlot s n f).pending = s.pending ∧ (State.updSlot s n f).lock.fuse = s.lock.fuse ∧ (State.updSlot s n f).active = s.active ∧ (State.updSlot s n f).tick.counter = s.tick.counter ∧ (State.updSlot s n f).tick.on = s.tick.on ∧ (State.updSlot s n f).tick.part = s.tick.part := by
  unfold State.updSlot; (try dsimp only); all_goals ((repeat' split) <;> simp)
@[simp] theorem State.updLane_keeps (s : State) (l : Nat) (f : LaneRt → LaneRt) :
    (State.updLane s l f).boot = s.boot ∧ (State.updLane s l f).pending = s.pending ∧ (State.updLane s l f).lock.fuse = s.lock.fuse ∧ (State.updLane s l f).active = s.active ∧ (State.updLane s l f).tick.counter = s.tick.counter ∧ (State.updLane s l f).tick.on = s.tick.on ∧ (State.updLane s l f).tick.part = s.tick.part := by
  unfold State.updLane; (try dsimp only); all_goals ((repeat' split) <;> simp)
@[simp] theorem State.setRing_keeps (s : State) (r : Nat) (g : Ring) :
    (State.setRing s r g).boot = s.boot ∧ (State.setRing s r g).pending = s.pending ∧ (State.setRing s r g).lock.fuse = s.lock.fuse ∧ (State.setRing s r g).active = s.active ∧ (State.setRing s r g).tick.counter = s.tick.counter ∧ (State.setRing s r g).tick.on = s.tick.on ∧ (State.setRing s r g).tick.part = s.tick.part := by
  unfold State.setRing; (try dsimp only); all_goals ((repeat' split) <;> simp)
@[simp] theorem State.updPin_keeps (s : State) (x : Nat) (f : PinRt → PinRt) :
    (State.updPin s x f).boot = s.boot ∧ (State.updPin s x f).pending = s.pending ∧ (State.updPin s x f).lock.fuse = s.lock.fuse ∧ (State.updPin s x f).active = s.active ∧ (State.updPin s x f).tick.counter = s.tick.counter ∧ (State.updPin s x f).tick.on = s.tick.on ∧ (State.updPin s x f).tick.part = s.tick.part := by
  unfold State.updPin; (try dsimp only); all_goals ((repeat' split) <;> simp)
@[simp] theorem State.updSource_keeps (s : State) (e : Nat) (f : SourceRt → SourceRt) :
    (State.updSource s e f).boot = s.boot ∧ (State.updSource s e f).pending = s.pending ∧ (State.updSource s e f).lock.fuse = s.lock.fuse ∧ (State.updSource s e f).active = s.active ∧ (State.updSource s e f).tick.counter = s.tick.counter ∧ (State.updSource s e f).tick.on = s.tick.on ∧ (State.updSource s e f).tick.part = s.tick.part := by
  unfold State.updSource; (try dsimp only); all_goals ((repeat' split) <;> simp)
@[simp] theorem State.updElem_keeps (s : State) (i : Nat) (f : ElemRt → ElemRt) :
    (State.updElem s i f).boot = s.boot ∧ (State.updElem s i f).pending = s.pending ∧ (State.updElem s i f).lock.fuse = s.lock.fuse ∧ (State.updElem s i f).active = s.active ∧ (State.updElem s i f).tick.counter = s.tick.counter ∧ (State.updElem s i f).tick.on = s.tick.on ∧ (State.updElem s i f).tick.part = s.tick.part := by
  unfold State.updElem; (try dsimp only); all_goals ((repeat' split) <;> simp)
@[simp] theorem State.updPlug_keeps (s : State) (g : Nat) (f : PlugRt → PlugRt) :
    (State.updPlug s g f).boot = s.boot ∧ (State.updPlug s g f).pending = s.pending ∧ (State.updPlug s g f).lock.fuse = s.lock.fuse ∧ (State.updPlug s g f).active = s.active ∧ (State.updPlug s g f).tick.counter = s.tick.counter ∧ (State.updPlug s g f).tick.on = s.tick.on ∧ (State.updPlug s g f).tick.part = s.tick.part := by
  unfold State.updPlug; (try dsimp only); all_goals ((repeat' split) <;> simp)
@[simp] theorem State.updMonitor_keeps (s : State) (m : Nat) (f : MonRt → MonRt) :
    (State.updMonitor s m f).boot = s.boot ∧ (State.updMonitor s m f).pending = s.pending ∧ (State.updMonitor s m f).lock.fuse = s.lock.fuse ∧ (State.updMonitor s m f).active = s.active ∧ (State.updMonitor s m f).tick.counter = s.tick.counter ∧ (State.updMonitor s m f).tick.on = s.tick.on ∧ (State.updMonitor s m f).tick.part = s.tick.part := by
  unfold State.updMonitor; (try dsimp only); all_goals ((repeat' split) <;> simp)
@[simp] theorem State.updOutput_keeps (s : State) (n : Nat) (f : OutRt → OutRt) :
    (State.updOutput s n f).boot = s.boot ∧ (State.updOutput s n f).pending = s.pending ∧ (State.updOutput s n f).lock.fuse = s.lock.fuse ∧ (State.updOutput s n f).active = s.active ∧ (State.updOutput s n f).tick.counter = s.tick.counter ∧ (State.updOutput s n f).tick.on = s.tick.on ∧ (State.updOutput s n f).tick.part = s.tick.part := by
  unfold State.updOutput; (try dsimp only); all_goals ((repeat' split) <;> simp)
@[simp] theorem State.updGen_keeps (s : State) (g : Nat) (f : GenRt → GenRt) :
    (State.updGen s g f).boot = s.boot ∧ (State.updGen s g f).pending = s.pending ∧ (State.updGen s g f).lock.fuse = s.lock.fuse ∧ (State.updGen s g f).active = s.active ∧ (State.updGen s g f).tick.counter = s.tick.counter ∧ (State.updGen s g f).tick.on = s.tick.on ∧ (State.updGen s g f).tick.part = s.tick.part := by
  unfold State.updGen; (try dsimp only); all_goals ((repeat' split) <;> simp)
@[simp] theorem State.updTpdo_keeps (s : State) (k : Nat) (f : TpdoRt → TpdoRt) :
    (State.updTpdo s k f).boot = s.boot ∧ (State.updTpdo s k f).pending = s.pending ∧ (State.updTpdo s k f).lock.fuse = s.lock.fuse ∧ (State.updTpdo s k f).active = s.active ∧ (State.updTpdo s k f).tick.counter = s.tick.counter ∧ (State.updTpdo s k f).tick.on = s.tick.on ∧ (State.updTpdo s k f).tick.part = s.tick.part := by
  unfold State.updTpdo; (try dsimp only); all_goals ((repeat' split) <;> simp)
@[simp] theorem State.event_keeps (s : State) (idx sub detail : Nat) :
    (State.event s idx sub detail).boot = s.boot ∧ (State.event s idx sub detail).pending = s.pending ∧ (State.event s idx sub detail).lock.fuse = s.lock.fuse ∧ (State.event s idx sub detail).active = s.active ∧ (State.event s idx sub detail).tick.counter = s.tick.counter ∧ (State.event s idx sub detail).tick.on = s.tick.on ∧ (State.event s idx sub detail).tick.part = s.tick.part := by
  unfold State.event; (try dsimp only); all_goals ((repeat' split) <;> simp)
@[simp] theorem State.refusal_keeps (s : State) (code : Nat) (port : Port) (subject abort : Nat) :
    (State.refusal s code port subject abort).boot = s.boot ∧ (State.refusal s code port subject abort).pending = s.pending ∧ (State.refusal s code port subject abort).lock.fuse = s.lock.fuse ∧ (State.refusal s code port subject abort).active = s.active ∧ (State.refusal s code port subject abort).tick.counter = s.tick.counter ∧ (State.refusal s code port subject abort).tick.on = s.tick.on ∧ (State.refusal s code port subject abort).tick.part = s.tick.part := by
  unfold State.refusal; (try dsimp only); all_goals ((repeat' split) <;> simp)
@[simp] theorem State.send_keeps (s : State) (e : Emit) :
    (State.send s e).boot = s.boot ∧ (State.send s e).pending = s.pending ∧ (State.send s e).lock.fuse = s.lock.fuse ∧ (State.send s e).active = s.active ∧ (State.send s e).tick.counter = s.tick.counter ∧ (State.send s e).tick.on = s.tick.on ∧ (State.send s e).tick.part = s.tick.part := by
  unfold State.send; (try dsimp only); all_goals ((repeat' split) <;> simp)
@[simp] theorem State.sendLogic_keeps (s : State) (e : Emit) :
    (State.sendLogic s e).boot = s.boot ∧ (State.sendLogic s e).pending = s.pending ∧ (State.sendLogic s e).lock.fuse = s.lock.fuse ∧ (State.sendLogic s e).active = s.active ∧ (State.sendLogic s e).tick.counter = s.tick.counter ∧ (State.sendLogic s e).tick.on = s.tick.on ∧ (State.sendLogic s e).tick.part = s.tick.part := by
  unfold State.sendLogic; (try dsimp only); all_goals ((repeat' split) <;> simp)
@[simp] theorem State.sendCan_keeps (s : State) (cob : Nat) (data : List Byte) :
    (State.sendCan s cob data).boot = s.boot ∧ (State.sendCan s cob data).pending = s.pending ∧ (State.sendCan s cob data).lock.fuse = s.lock.fuse ∧ (State.sendCan s cob data).active = s.active ∧ (State.sendCan s cob data).tick.counter = s.tick.counter ∧ (State.sendCan s cob data).tick.on = s.tick.on ∧ (State.sendCan s cob data).tick.part = s.tick.part := by
  unfold State.sendCan; (try dsimp only); all_goals ((repeat' split) <;> simp)
@[simp] theorem State.emcy_keeps (s : State) (code detail : Nat) :
    (State.emcy s code detail).boot = s.boot ∧ (State.emcy s code detail).pending = s.pending ∧ (State.emcy s code detail).lock.fuse = s.lock.fuse ∧ (State.emcy s code detail).active = s.active ∧ (State.emcy s code detail).tick.counter = s.tick.counter ∧ (State.emcy s code detail).tick.on = s.tick.on ∧ (State.emcy s code detail).tick.part = s.tick.part := by
  unfold State.emcy; (try dsimp only); all_goals ((repeat' split) <;> simp)
@[simp] theorem State.begin_keeps (s : State) :
    (State.begin s).boot = s.boot ∧ (State.begin s).pending = s.pending ∧ (State.begin s).lock.fuse = s.lock.fuse ∧ (State.begin s).active = s.active ∧ (State.begin s).tick.counter = s.tick.counter ∧ (State.begin s).tick.on = s.tick.on ∧ (State.begin s).tick.part = s.tick.part := by
  unfold State.begin; (try dsimp only); all_goals ((repeat' split) <;> simp)
@[simp] theorem State.settle_keeps (s : State) :
    (State.settle s).boot = s.boot ∧ (State.settle s).pending = s.pending ∧ (State.settle s).lock.fuse = s.lock.fuse ∧ (State.settle s).active = s.active ∧ (State.settle s).tick.counter = s.tick.counter ∧ (State.settle s).tick.on = s.tick.on ∧ (State.settle s).tick.part = s.tick.part := by
  unfold State.settle; (try dsimp only); all_goals ((repeat' split) <;> simp)
@[simp] theorem State.recordDue_keeps (s : State) (g : Nat) (r0 : Rec) :
    (State.recordDue s g r0).boot = s.boot ∧ (State.recordDue s g r0).pending = s.pending ∧ (State.recordDue s g r0).lock.fuse = s.lock.fuse ∧ (State.recordDue s g r0).active = s.active ∧ (State.recordDue s g r0).tick.counter = s.tick.counter ∧ (State.recordDue s g r0).tick.on = s.tick.on ∧ (State.recordDue s g r0).tick.part = s.tick.part := by
  unfold State.recordDue; (try dsimp only); all_goals ((repeat' split) <;> simp)
@[simp] theorem State.ringFull_keeps (s : State) (g : Nat) :
    (State.ringFull s g).boot = s.boot ∧ (State.ringFull s g).pending = s.pending ∧ (State.ringFull s g).lock.fuse = s.lock.fuse ∧ (State.ringFull s g).active = s.active ∧ (State.ringFull s g).tick.counter = s.tick.counter ∧ (State.ringFull s g).tick.on = s.tick.on ∧ (State.ringFull s g).tick.part = s.tick.part := by
  unfold State.ringFull; (try dsimp only); all_goals ((repeat' split) <;> simp)
@[simp] theorem State.resolve_keeps (s : State) (slot : Nat) (reason : Reason) (tick : TickNo) (n : Nat) (dly : BitVec 4) (stl : Bool) (ring : Option Nat) :
    (State.resolve s slot reason tick n dly stl ring).boot = s.boot ∧ (State.resolve s slot reason tick n dly stl ring).pending = s.pending ∧ (State.resolve s slot reason tick n dly stl ring).lock.fuse = s.lock.fuse ∧ (State.resolve s slot reason tick n dly stl ring).active = s.active ∧ (State.resolve s slot reason tick n dly stl ring).tick.counter = s.tick.counter ∧ (State.resolve s slot reason tick n dly stl ring).tick.on = s.tick.on ∧ (State.resolve s slot reason tick n dly stl ring).tick.part = s.tick.part := by
  unfold State.resolve; (try dsimp only); all_goals ((repeat' split) <;> simp)
@[simp] theorem State.writeWhey_keeps (s : State) (w : Whey) :
    (State.writeWhey s w).boot = s.boot ∧ (State.writeWhey s w).pending = s.pending ∧ (State.writeWhey s w).lock.fuse = s.lock.fuse ∧ (State.writeWhey s w).active = s.active ∧ (State.writeWhey s w).tick.counter = s.tick.counter ∧ (State.writeWhey s w).tick.on = s.tick.on ∧ (State.writeWhey s w).tick.part = s.tick.part := by
  unfold State.writeWhey; (try dsimp only); all_goals ((repeat' split) <;> simp)
@[simp] theorem State.epilogue_keeps (s : State) :
    (State.epilogue s).boot = s.boot ∧ (State.epilogue s).pending = s.pending ∧ (State.epilogue s).lock.fuse = s.lock.fuse ∧ (State.epilogue s).active = s.active ∧ (State.epilogue s).tick.counter = s.tick.counter ∧ (State.epilogue s).tick.on = s.tick.on ∧ (State.epilogue s).tick.part = s.tick.part := by
  unfold State.epilogue; (try dsimp only); all_goals ((repeat' split) <;> simp)
@[simp] theorem State.marker_keeps (s : State) (code : Nat) (value : BitVec 32) :
    (State.marker s code value).boot = s.boot ∧ (State.marker s code value).pending = s.pending ∧ (State.marker s code value).lock.fuse = s.lock.fuse ∧ (State.marker s code value).active = s.active ∧ (State.marker s code value).tick.counter = s.tick.counter ∧ (State.marker s code value).tick.on = s.tick.on ∧ (State.marker s code value).tick.part = s.tick.part := by
  unfold State.marker; (try dsimp only); all_goals ((repeat' split) <;> simp)
@[simp] theorem State.ledgerSnapshot_keeps (s : State) :
    (State.ledgerSnapshot s).boot = s.boot ∧ (State.ledgerSnapshot s).pending = s.pending ∧ (State.ledgerSnapshot s).lock.fuse = s.lock.fuse ∧ (State.ledgerSnapshot s).active = s.active ∧ (State.ledgerSnapshot s).tick.counter = s.tick.counter ∧ (State.ledgerSnapshot s).tick.on = s.tick.on ∧ (State.ledgerSnapshot s).tick.part = s.tick.part := by
  unfold State.ledgerSnapshot; (try dsimp only); all_goals ((repeat' split) <;> simp)
@[simp] theorem State.form_keeps (s : State) (ring : Nat) (r : Rec) :
    (State.form s ring r).boot = s.boot ∧ (State.form s ring r).pending = s.pending ∧ (State.form s ring r).lock.fuse = s.lock.fuse ∧ (State.form s ring r).active = s.active ∧ (State.form s ring r).tick.counter = s.tick.counter ∧ (State.form s ring r).tick.on = s.tick.on ∧ (State.form s ring r).tick.part = s.tick.part := by
  unfold State.form; (try dsimp only); all_goals ((repeat' split) <;> simp)
@[simp] theorem State.storeOldest_keeps (s : State) :
    (State.storeOldest s).boot = s.boot ∧ (State.storeOldest s).pending = s.pending ∧ (State.storeOldest s).lock.fuse = s.lock.fuse ∧ (State.storeOldest s).active = s.active ∧ (State.storeOldest s).tick.counter = s.tick.counter ∧ (State.storeOldest s).tick.on = s.tick.on ∧ (State.storeOldest s).tick.part = s.tick.part := by
  unfold State.storeOldest; (try dsimp only); all_goals ((repeat' split) <;> simp)
@[simp] theorem State.flush_keeps (s : State) :
    (State.flush s).boot = s.boot ∧ (State.flush s).pending = s.pending ∧ (State.flush s).lock.fuse = s.lock.fuse ∧ (State.flush s).active = s.active ∧ (State.flush s).tick.counter = s.tick.counter ∧ (State.flush s).tick.on = s.tick.on ∧ (State.flush s).tick.part = s.tick.part := by
  unfold State.flush; (try dsimp only); all_goals ((repeat' split) <;> simp)
@[simp] theorem State.ringReset_keeps (s : State) (r : Nat) :
    (State.ringReset s r).boot = s.boot ∧ (State.ringReset s r).pending = s.pending ∧ (State.ringReset s r).lock.fuse = s.lock.fuse ∧ (State.ringReset s r).active = s.active ∧ (State.ringReset s r).tick.counter = s.tick.counter ∧ (State.ringReset s r).tick.on = s.tick.on ∧ (State.ringReset s r).tick.part = s.tick.part := by
  unfold State.ringReset; (try dsimp only); all_goals ((repeat' split) <;> simp)
@[simp] theorem State.addSat_keeps (s : State) (p n : Nat) :
    (State.addSat s p n).boot = s.boot ∧ (State.addSat s p n).pending = s.pending ∧ (State.addSat s p n).lock.fuse = s.lock.fuse ∧ (State.addSat s p n).active = s.active ∧ (State.addSat s p n).tick.counter = s.tick.counter ∧ (State.addSat s p n).tick.on = s.tick.on ∧ (State.addSat s p n).tick.part = s.tick.part := by
  unfold State.addSat; (try dsimp only); all_goals ((repeat' split) <;> simp)
@[simp] theorem State.totalise_keeps (s : State) (n cyc period : Nat) (y : Int) :
    (State.totalise s n cyc period y).boot = s.boot ∧ (State.totalise s n cyc period y).pending = s.pending ∧ (State.totalise s n cyc period y).lock.fuse = s.lock.fuse ∧ (State.totalise s n cyc period y).active = s.active ∧ (State.totalise s n cyc period y).tick.counter = s.tick.counter ∧ (State.totalise s n cyc period y).tick.on = s.tick.on ∧ (State.totalise s n cyc period y).tick.part = s.tick.part := by
  unfold State.totalise; (try dsimp only); all_goals ((repeat' split) <;> simp)
@[simp] theorem State.noteFormation_keeps (s : State) (a : Tbl Nat) (n : Nat) (t : TickNo) (c : Nat) (f : Formation) (ovr : Bool) :
    (State.noteFormation s a n t c f ovr).boot = s.boot ∧ (State.noteFormation s a n t c f ovr).pending = s.pending ∧ (State.noteFormation s a n t c f ovr).lock.fuse = s.lock.fuse ∧ (State.noteFormation s a n t c f ovr).active = s.active ∧ (State.noteFormation s a n t c f ovr).tick.counter = s.tick.counter ∧ (State.noteFormation s a n t c f ovr).tick.on = s.tick.on ∧ (State.noteFormation s a n t c f ovr).tick.part = s.tick.part := by
  unfold State.noteFormation; (try dsimp only); all_goals ((repeat' split) <;> simp)
@[simp] theorem State.startConv_keeps (s : State) (l n : Nat) (t : Trig) (e : Nat) :
    (State.startConv s l n t e).boot = s.boot ∧ (State.startConv s l n t e).pending = s.pending ∧ (State.startConv s l n t e).lock.fuse = s.lock.fuse ∧ (State.startConv s l n t e).active = s.active ∧ (State.startConv s l n t e).tick.counter = s.tick.counter ∧ (State.startConv s l n t e).tick.on = s.tick.on ∧ (State.startConv s l n t e).tick.part = s.tick.part := by
  unfold State.startConv; (try dsimp only); all_goals ((repeat' split) <;> simp)
@[simp] theorem State.startLane_keeps (e : Nat) (s : State) (l : Nat) :
    (State.startLane e s l).boot = s.boot ∧ (State.startLane e s l).pending = s.pending ∧ (State.startLane e s l).lock.fuse = s.lock.fuse ∧ (State.startLane e s l).active = s.active ∧ (State.startLane e s l).tick.counter = s.tick.counter ∧ (State.startLane e s l).tick.on = s.tick.on ∧ (State.startLane e s l).tick.part = s.tick.part := by
  unfold State.startLane; (try dsimp only); all_goals ((repeat' split) <;> simp)
@[simp] theorem State.startAll_keeps (s : State) (e : Nat) :
    (State.startAll s e).boot = s.boot ∧ (State.startAll s e).pending = s.pending ∧ (State.startAll s e).lock.fuse = s.lock.fuse ∧ (State.startAll s e).active = s.active ∧ (State.startAll s e).tick.counter = s.tick.counter ∧ (State.startAll s e).tick.on = s.tick.on ∧ (State.startAll s e).tick.part = s.tick.part := by
  unfold State.startAll; (try dsimp only); all_goals ((repeat' split) <;> simp)
@[simp] theorem State.abort_keeps (s : State) (n : Nat) :
    (State.abort s n).boot = s.boot ∧ (State.abort s n).pending = s.pending ∧ (State.abort s n).lock.fuse = s.lock.fuse ∧ (State.abort s n).active = s.active ∧ (State.abort s n).tick.counter = s.tick.counter ∧ (State.abort s n).tick.on = s.tick.on ∧ (State.abort s n).tick.part = s.tick.part := by
  unfold State.abort; (try dsimp only); all_goals ((repeat' split) <;> simp)
@[simp] theorem State.accept_keeps (s : State) (n : Nat) (t : TickNo) :
    (State.accept s n t).boot = s.boot ∧ (State.accept s n t).pending = s.pending ∧ (State.accept s n t).lock.fuse = s.lock.fuse ∧ (State.accept s n t).active = s.active ∧ (State.accept s n t).tick.counter = s.tick.counter ∧ (State.accept s n t).tick.on = s.tick.on ∧ (State.accept s n t).tick.part = s.tick.part := by
  unfold State.accept; (try dsimp only); all_goals ((repeat' split) <;> simp)
@[simp] theorem State.slotEvent_keeps (s : State) (t : TickNo) (n : Nat) :
    (State.slotEvent s t n).boot = s.boot ∧ (State.slotEvent s t n).pending = s.pending ∧ (State.slotEvent s t n).lock.fuse = s.lock.fuse ∧ (State.slotEvent s t n).active = s.active ∧ (State.slotEvent s t n).tick.counter = s.tick.counter ∧ (State.slotEvent s t n).tick.on = s.tick.on ∧ (State.slotEvent s t n).tick.part = s.tick.part := by
  unfold State.slotEvent; (try dsimp only); all_goals ((repeat' split) <;> simp)
@[simp] theorem State.expire_keeps (s : State) (n : Nat) (t : TickNo) (why : Reason) :
    (State.expire s n t why).boot = s.boot ∧ (State.expire s n t why).pending = s.pending ∧ (State.expire s n t why).lock.fuse = s.lock.fuse ∧ (State.expire s n t why).active = s.active ∧ (State.expire s n t why).tick.counter = s.tick.counter ∧ (State.expire s n t why).tick.on = s.tick.on ∧ (State.expire s n t why).tick.part = s.tick.part := by
  unfold State.expire; (try dsimp only); all_goals ((repeat' split) <;> simp)
@[simp] theorem State.expireSlot_keeps (s : State) (n : Nat) :
    (State.expireSlot s n).boot = s.boot ∧ (State.expireSlot s n).pending = s.pending ∧ (State.expireSlot s n).lock.fuse = s.lock.fuse ∧ (State.expireSlot s n).active = s.active ∧ (State.expireSlot s n).tick.counter = s.tick.counter ∧ (State.expireSlot s n).tick.on = s.tick.on ∧ (State.expireSlot s n).tick.part = s.tick.part := by
  unfold State.expireSlot; (try dsimp only); all_goals ((repeat' split) <;> simp)
@[simp] theorem State.resolveSlot_keeps (s : State) (n : Nat) (why : Reason) (tickFor : TickNo → TickNo) (ring : Option Nat) :
    (State.resolveSlot s n why tickFor ring).boot = s.boot ∧ (State.resolveSlot s n why tickFor ring).pending = s.pending ∧ (State.resolveSlot s n why tickFor ring).lock.fuse = s.lock.fuse ∧ (State.resolveSlot s n why tickFor ring).active = s.active ∧ (State.resolveSlot s n why tickFor ring).tick.counter = s.tick.counter ∧ (State.resolveSlot s n why tickFor ring).tick.on = s.tick.on ∧ (State.resolveSlot s n why tickFor ring).tick.part = s.tick.part := by
  unfold State.resolveSlot; (try dsimp only); all_goals ((repeat' split) <;> simp)
@[simp] theorem State.touchEvent_keeps (s : State) (route bit code source : Nat) (value : BitVec 32) (t : TickNo) (slot : Nat) :
    (State.touchEvent s route bit code source value t slot).boot = s.boot ∧ (State.touchEvent s route bit code source value t slot).pending = s.pending ∧ (State.touchEvent s route bit code source value t slot).lock.fuse = s.lock.fuse ∧ (State.touchEvent s route bit code source value t slot).active = s.active ∧ (State.touchEvent s route bit code source value t slot).tick.counter = s.tick.counter ∧ (State.touchEvent s route bit code source value t slot).tick.on = s.tick.on ∧ (State.touchEvent s route bit code source value t slot).tick.part = s.tick.part := by
  unfold State.touchEvent; (try dsimp only); all_goals ((repeat' split) <;> simp)
@[simp] theorem State.elemEvent_keeps (s : State) (i code : Nat) (t : TickNo) (d : Rat) :
    (State.elemEvent s i code t d).boot = s.boot ∧ (State.elemEvent s i code t d).pending = s.pending ∧ (State.elemEvent s i code t d).lock.fuse = s.lock.fuse ∧ (State.elemEvent s i code t d).active = s.active ∧ (State.elemEvent s i code t d).tick.counter = s.tick.counter ∧ (State.elemEvent s i code t d).tick.on = s.tick.on ∧ (State.elemEvent s i code t d).tick.part = s.tick.part := by
  unfold State.elemEvent; (try dsimp only); all_goals ((repeat' split) <;> simp)
@[simp] theorem State.evaluate_keeps (s : State) (i : Nat) (m : Rat) (t : TickNo) :
    (State.evaluate s i m t).boot = s.boot ∧ (State.evaluate s i m t).pending = s.pending ∧ (State.evaluate s i m t).lock.fuse = s.lock.fuse ∧ (State.evaluate s i m t).active = s.active ∧ (State.evaluate s i m t).tick.counter = s.tick.counter ∧ (State.evaluate s i m t).tick.on = s.tick.on ∧ (State.evaluate s i m t).tick.part = s.tick.part := by
  unfold State.evaluate; (try dsimp only); all_goals ((repeat' split) <;> simp)
@[simp] theorem State.scanStart_keeps (s : State) :
    (State.scanStart s).boot = s.boot ∧ (State.scanStart s).pending = s.pending ∧ (State.scanStart s).lock.fuse = s.lock.fuse ∧ (State.scanStart s).active = s.active ∧ (State.scanStart s).tick.counter = s.tick.counter ∧ (State.scanStart s).tick.on = s.tick.on ∧ (State.scanStart s).tick.part = s.tick.part := by
  unfold State.scanStart; (try dsimp only); all_goals ((repeat' split) <;> simp)
@[simp] theorem State.measured_keeps (t : TickNo) (s : State) (im : Nat × Nat) :
    (State.measured t s im).boot = s.boot ∧ (State.measured t s im).pending = s.pending ∧ (State.measured t s im).lock.fuse = s.lock.fuse ∧ (State.measured t s im).active = s.active ∧ (State.measured t s im).tick.counter = s.tick.counter ∧ (State.measured t s im).tick.on = s.tick.on ∧ (State.measured t s im).tick.part = s.tick.part := by
  unfold State.measured; (try dsimp only); all_goals ((repeat' split) <;> simp)
@[simp] theorem State.scanEnd_keeps (s : State) (ms : List Nat) :
    (State.scanEnd s ms).boot = s.boot ∧ (State.scanEnd s ms).pending = s.pending ∧ (State.scanEnd s ms).lock.fuse = s.lock.fuse ∧ (State.scanEnd s ms).active = s.active ∧ (State.scanEnd s ms).tick.counter = s.tick.counter ∧ (State.scanEnd s ms).tick.on = s.tick.on ∧ (State.scanEnd s ms).tick.part = s.tick.part := by
  unfold State.scanEnd; (try dsimp only); all_goals ((repeat' split) <;> simp)
@[simp] theorem State.elemAction_keeps (s : State) (i : Nat) :
    (State.elemAction s i).boot = s.boot ∧ (State.elemAction s i).pending = s.pending ∧ (State.elemAction s i).lock.fuse = s.lock.fuse ∧ (State.elemAction s i).active = s.active ∧ (State.elemAction s i).tick.counter = s.tick.counter ∧ (State.elemAction s i).tick.on = s.tick.on ∧ (State.elemAction s i).tick.part = s.tick.part := by
  unfold State.elemAction; (try dsimp only); all_goals ((repeat' split) <;> simp)
@[simp] theorem State.repeatAction_keeps (s : State) (i : Nat) :
    (State.repeatAction s i).boot = s.boot ∧ (State.repeatAction s i).pending = s.pending ∧ (State.repeatAction s i).lock.fuse = s.lock.fuse ∧ (State.repeatAction s i).active = s.active ∧ (State.repeatAction s i).tick.counter = s.tick.counter ∧ (State.repeatAction s i).tick.on = s.tick.on ∧ (State.repeatAction s i).tick.part = s.tick.part := by
  unfold State.repeatAction; (try dsimp only); all_goals ((repeat' split) <;> simp)
@[simp] theorem State.restLimit_keeps (s : State) (i : Nat) :
    (State.restLimit s i).boot = s.boot ∧ (State.restLimit s i).pending = s.pending ∧ (State.restLimit s i).lock.fuse = s.lock.fuse ∧ (State.restLimit s i).active = s.active ∧ (State.restLimit s i).tick.counter = s.tick.counter ∧ (State.restLimit s i).tick.on = s.tick.on ∧ (State.restLimit s i).tick.part = s.tick.part := by
  unfold State.restLimit; (try dsimp only); all_goals ((repeat' split) <;> simp)
@[simp] theorem State.startLimit_keeps (s : State) (i : Nat) :
    (State.startLimit s i).boot = s.boot ∧ (State.startLimit s i).pending = s.pending ∧ (State.startLimit s i).lock.fuse = s.lock.fuse ∧ (State.startLimit s i).active = s.active ∧ (State.startLimit s i).tick.counter = s.tick.counter ∧ (State.startLimit s i).tick.on = s.tick.on ∧ (State.startLimit s i).tick.part = s.tick.part := by
  unfold State.startLimit; (try dsimp only); all_goals ((repeat' split) <;> simp)
@[simp] theorem State.elemLimit_keeps (s : State) (i : Nat) :
    (State.elemLimit s i).boot = s.boot ∧ (State.elemLimit s i).pending = s.pending ∧ (State.elemLimit s i).lock.fuse = s.lock.fuse ∧ (State.elemLimit s i).active = s.active ∧ (State.elemLimit s i).tick.counter = s.tick.counter ∧ (State.elemLimit s i).tick.on = s.tick.on ∧ (State.elemLimit s i).tick.part = s.tick.part := by
  unfold State.elemLimit; (try dsimp only); all_goals ((repeat' split) <;> simp)
@[simp] theorem State.elemOpen_keeps (s : State) (i : Nat) :
    (State.elemOpen s i).boot = s.boot ∧ (State.elemOpen s i).pending = s.pending ∧ (State.elemOpen s i).lock.fuse = s.lock.fuse ∧ (State.elemOpen s i).active = s.active ∧ (State.elemOpen s i).tick.counter = s.tick.counter ∧ (State.elemOpen s i).tick.on = s.tick.on ∧ (State.elemOpen s i).tick.part = s.tick.part := by
  unfold State.elemOpen; (try dsimp only); all_goals ((repeat' split) <;> simp)
@[simp] theorem State.elemBoundary_keeps (s : State) (i : Nat) :
    (State.elemBoundary s i).boot = s.boot ∧ (State.elemBoundary s i).pending = s.pending ∧ (State.elemBoundary s i).lock.fuse = s.lock.fuse ∧ (State.elemBoundary s i).active = s.active ∧ (State.elemBoundary s i).tick.counter = s.tick.counter ∧ (State.elemBoundary s i).tick.on = s.tick.on ∧ (State.elemBoundary s i).tick.part = s.tick.part := by
  unfold State.elemBoundary; (try dsimp only); all_goals ((repeat' split) <;> simp)
@[simp] theorem State.wakeScan_keeps (s : State) (ms : List Nat) :
    (State.wakeScan s ms).boot = s.boot ∧ (State.wakeScan s ms).pending = s.pending ∧ (State.wakeScan s ms).lock.fuse = s.lock.fuse ∧ (State.wakeScan s ms).active = s.active ∧ (State.wakeScan s ms).tick.counter = s.tick.counter ∧ (State.wakeScan s ms).tick.on = s.tick.on ∧ (State.wakeScan s ms).tick.part = s.tick.part := by
  unfold State.wakeScan; (try dsimp only); all_goals ((repeat' split) <;> simp)
@[simp] theorem State.pressEvaluate_keeps (s : State) (n : Nat) (t : TickNo) (value : BitVec 32) (raw undef : Bool) :
    (State.pressEvaluate s n t value raw undef).boot = s.boot ∧ (State.pressEvaluate s n t value raw undef).pending = s.pending ∧ (State.pressEvaluate s n t value raw undef).lock.fuse = s.lock.fuse ∧ (State.pressEvaluate s n t value raw undef).active = s.active ∧ (State.pressEvaluate s n t value raw undef).tick.counter = s.tick.counter ∧ (State.pressEvaluate s n t value raw undef).tick.on = s.tick.on ∧ (State.pressEvaluate s n t value raw undef).tick.part = s.tick.part := by
  unfold State.pressEvaluate; (try dsimp only); all_goals ((repeat' split) <;> simp)
@[simp] theorem State.plugEvent_keeps (s : State) (g code : Nat) (t : TickNo) (mv : BitVec 16) :
    (State.plugEvent s g code t mv).boot = s.boot ∧ (State.plugEvent s g code t mv).pending = s.pending ∧ (State.plugEvent s g code t mv).lock.fuse = s.lock.fuse ∧ (State.plugEvent s g code t mv).active = s.active ∧ (State.plugEvent s g code t mv).tick.counter = s.tick.counter ∧ (State.plugEvent s g code t mv).tick.on = s.tick.on ∧ (State.plugEvent s g code t mv).tick.part = s.tick.part := by
  unfold State.plugEvent; (try dsimp only); all_goals ((repeat' split) <;> simp)
@[simp] theorem State.plugSample_keeps (s : State) (g : Nat) (mv : BitVec 16) :
    (State.plugSample s g mv).boot = s.boot ∧ (State.plugSample s g mv).pending = s.pending ∧ (State.plugSample s g mv).lock.fuse = s.lock.fuse ∧ (State.plugSample s g mv).active = s.active ∧ (State.plugSample s g mv).tick.counter = s.tick.counter ∧ (State.plugSample s g mv).tick.on = s.tick.on ∧ (State.plugSample s g mv).tick.part = s.tick.part := by
  unfold State.plugSample; (try dsimp only); all_goals ((repeat' split) <;> simp)
@[simp] theorem State.settleHoldEnd_keeps (s : State) (g : Nat) :
    (State.settleHoldEnd s g).boot = s.boot ∧ (State.settleHoldEnd s g).pending = s.pending ∧ (State.settleHoldEnd s g).lock.fuse = s.lock.fuse ∧ (State.settleHoldEnd s g).active = s.active ∧ (State.settleHoldEnd s g).tick.counter = s.tick.counter ∧ (State.settleHoldEnd s g).tick.on = s.tick.on ∧ (State.settleHoldEnd s g).tick.part = s.tick.part := by
  unfold State.settleHoldEnd; (try dsimp only); all_goals ((repeat' split) <;> simp)
@[simp] theorem State.plugBoundary_keeps (s : State) (g : Nat) :
    (State.plugBoundary s g).boot = s.boot ∧ (State.plugBoundary s g).pending = s.pending ∧ (State.plugBoundary s g).lock.fuse = s.lock.fuse ∧ (State.plugBoundary s g).active = s.active ∧ (State.plugBoundary s g).tick.counter = s.tick.counter ∧ (State.plugBoundary s g).tick.on = s.tick.on ∧ (State.plugBoundary s g).tick.part = s.tick.part := by
  unfold State.plugBoundary; (try dsimp only); all_goals ((repeat' split) <;> simp)
@[simp] theorem State.emptyFilter_keeps (s : State) (n : Nat) :
    (State.emptyFilter s n).boot = s.boot ∧ (State.emptyFilter s n).pending = s.pending ∧ (State.emptyFilter s n).lock.fuse = s.lock.fuse ∧ (State.emptyFilter s n).active = s.active ∧ (State.emptyFilter s n).tick.counter = s.tick.counter ∧ (State.emptyFilter s n).tick.on = s.tick.on ∧ (State.emptyFilter s n).tick.part = s.tick.part := by
  unfold State.emptyFilter; (try dsimp only); all_goals ((repeat' split) <;> simp)
@[simp] theorem State.absenceBoundary_keeps (s : State) (n : Nat) :
    (State.absenceBoundary s n).boot = s.boot ∧ (State.absenceBoundary s n).pending = s.pending ∧ (State.absenceBoundary s n).lock.fuse = s.lock.fuse ∧ (State.absenceBoundary s n).active = s.active ∧ (State.absenceBoundary s n).tick.counter = s.tick.counter ∧ (State.absenceBoundary s n).tick.on = s.tick.on ∧ (State.absenceBoundary s n).tick.part = s.tick.part := by
  unfold State.absenceBoundary; (try dsimp only); all_goals ((repeat' split) <;> simp)
@[simp] theorem State.verdict_keeps (s : State) (v : Verdict) (cause : Nat) :
    (State.verdict s v cause).boot = s.boot ∧ (State.verdict s v cause).pending = s.pending ∧ (State.verdict s v cause).lock.fuse = s.lock.fuse ∧ (State.verdict s v cause).active = s.active ∧ (State.verdict s v cause).tick.counter = s.tick.counter ∧ (State.verdict s v cause).tick.on = s.tick.on ∧ (State.verdict s v cause).tick.part = s.tick.part := by
  unfold State.verdict; (try dsimp only); all_goals ((repeat' split) <;> simp)
@[simp] theorem State.calLanesStopped_keeps (s : State) :
    (State.calLanesStopped s).boot = s.boot ∧ (State.calLanesStopped s).pending = s.pending ∧ (State.calLanesStopped s).lock.fuse = s.lock.fuse ∧ (State.calLanesStopped s).active = s.active ∧ (State.calLanesStopped s).tick.counter = s.tick.counter ∧ (State.calLanesStopped s).tick.on = s.tick.on ∧ (State.calLanesStopped s).tick.part = s.tick.part := by
  unfold State.calLanesStopped; (try dsimp only); all_goals ((repeat' split) <;> simp)
@[simp] theorem State.calOpen_keeps (s : State) (n : Nat) :
    (State.calOpen s n).boot = s.boot ∧ (State.calOpen s n).pending = s.pending ∧ (State.calOpen s n).lock.fuse = s.lock.fuse ∧ (State.calOpen s n).active = s.active ∧ (State.calOpen s n).tick.counter = s.tick.counter ∧ (State.calOpen s n).tick.on = s.tick.on ∧ (State.calOpen s n).tick.part = s.tick.part := by
  unfold State.calOpen; (try dsimp only); all_goals ((repeat' split) <;> simp)
@[simp] theorem State.calLaneFault_keeps (s : State) (n : Nat) :
    (State.calLaneFault s n).boot = s.boot ∧ (State.calLaneFault s n).pending = s.pending ∧ (State.calLaneFault s n).lock.fuse = s.lock.fuse ∧ (State.calLaneFault s n).active = s.active ∧ (State.calLaneFault s n).tick.counter = s.tick.counter ∧ (State.calLaneFault s n).tick.on = s.tick.on ∧ (State.calLaneFault s n).tick.part = s.tick.part := by
  unfold State.calLaneFault; (try dsimp only); all_goals ((repeat' split) <;> simp)
@[simp] theorem State.calWhey_keeps (s : State) :
    (State.calWhey s).boot = s.boot ∧ (State.calWhey s).pending = s.pending ∧ (State.calWhey s).lock.fuse = s.lock.fuse ∧ (State.calWhey s).active = s.active ∧ (State.calWhey s).tick.counter = s.tick.counter ∧ (State.calWhey s).tick.on = s.tick.on ∧ (State.calWhey s).tick.part = s.tick.part := by
  unfold State.calWhey; (try dsimp only); all_goals ((repeat' split) <;> simp)
@[simp] theorem State.calCollect_keeps (s : State) (n : Nat) (x : Int) (ovr : Bool) :
    (State.calCollect s n x ovr).boot = s.boot ∧ (State.calCollect s n x ovr).pending = s.pending ∧ (State.calCollect s n x ovr).lock.fuse = s.lock.fuse ∧ (State.calCollect s n x ovr).active = s.active ∧ (State.calCollect s n x ovr).tick.counter = s.tick.counter ∧ (State.calCollect s n x ovr).tick.on = s.tick.on ∧ (State.calCollect s n x ovr).tick.part = s.tick.part := by
  unfold State.calCollect; (try dsimp only); all_goals ((repeat' split) <;> simp)
@[simp] theorem State.applyCoef_keeps (s : State) (k : Nat × Bool × Nat) :
    (State.applyCoef s k).boot = s.boot ∧ (State.applyCoef s k).pending = s.pending ∧ (State.applyCoef s k).lock.fuse = s.lock.fuse ∧ (State.applyCoef s k).tick.counter = s.tick.counter ∧ (State.applyCoef s k).tick.on = s.tick.on ∧ (State.applyCoef s k).tick.part = s.tick.part := by
  unfold State.applyCoef; (try dsimp only); all_goals ((repeat' split) <;> simp)
@[simp] theorem State.calTimeout_keeps (s : State) :
    (State.calTimeout s).boot = s.boot ∧ (State.calTimeout s).pending = s.pending ∧ (State.calTimeout s).lock.fuse = s.lock.fuse ∧ (State.calTimeout s).active = s.active ∧ (State.calTimeout s).tick.counter = s.tick.counter ∧ (State.calTimeout s).tick.on = s.tick.on ∧ (State.calTimeout s).tick.part = s.tick.part := by
  unfold State.calTimeout; (try dsimp only); all_goals ((repeat' split) <;> simp)
@[simp] theorem State.startsBefore_keeps (s : State) (c : Nat) :
    (State.startsBefore s c).boot = s.boot ∧ (State.startsBefore s c).pending = s.pending ∧ (State.startsBefore s c).lock.fuse = s.lock.fuse ∧ (State.startsBefore s c).active = s.active ∧ (State.startsBefore s c).tick.counter = s.tick.counter ∧ (State.startsBefore s c).tick.on = s.tick.on ∧ (State.startsBefore s c).tick.part = s.tick.part := by
  unfold State.startsBefore; (try dsimp only); all_goals ((repeat' split) <;> simp)
@[simp] theorem State.willLatch_keeps (s : State) (codes : List Nat) (c : Nat) :
    (State.willLatch s codes c).boot = s.boot ∧ (State.willLatch s codes c).pending = s.pending ∧ (State.willLatch s codes c).lock.fuse = s.lock.fuse ∧ (State.willLatch s codes c).active = s.active ∧ (State.willLatch s codes c).tick.counter = s.tick.counter ∧ (State.willLatch s codes c).tick.on = s.tick.on ∧ (State.willLatch s codes c).tick.part = s.tick.part := by
  unfold State.willLatch; (try dsimp only); all_goals ((repeat' split) <;> simp)
@[simp] theorem State.latchCycle_keeps (s0 : State) (c : Nat) :
    (State.latchCycle s0 c).boot = s0.boot ∧ (State.latchCycle s0 c).pending = s0.pending ∧ (State.latchCycle s0 c).lock.fuse = s0.lock.fuse ∧ (State.latchCycle s0 c).active = s0.active ∧ (State.latchCycle s0 c).tick.counter = s0.tick.counter ∧ (State.latchCycle s0 c).tick.on = s0.tick.on ∧ (State.latchCycle s0 c).tick.part = s0.tick.part := by
  unfold State.latchCycle; (try dsimp only); all_goals ((repeat' split) <;> simp)
@[simp] theorem State.latchTo_keeps (s : State) (c : Nat) :
    (State.latchTo s c).boot = s.boot ∧ (State.latchTo s c).pending = s.pending ∧ (State.latchTo s c).lock.fuse = s.lock.fuse ∧ (State.latchTo s c).active = s.active ∧ (State.latchTo s c).tick.counter = s.tick.counter ∧ (State.latchTo s c).tick.on = s.tick.on ∧ (State.latchTo s c).tick.part = s.tick.part := by
  unfold State.latchTo; (try dsimp only); all_goals ((repeat' split) <;> simp)
@[simp] theorem State.at_keeps (s : State) (c : Nat) :
    (State.at s c).boot = s.boot ∧ (State.at s c).pending = s.pending ∧ (State.at s c).lock.fuse = s.lock.fuse ∧ (State.at s c).active = s.active ∧ (State.at s c).tick.counter = s.tick.counter ∧ (State.at s c).tick.on = s.tick.on ∧ (State.at s c).tick.part = s.tick.part := by
  unfold State.at; (try dsimp only); all_goals ((repeat' split) <;> simp)
@[simp] theorem State.sourceFault_keeps (x : Nat) (s : State) (e : Nat) :
    (State.sourceFault x s e).boot = s.boot ∧ (State.sourceFault x s e).pending = s.pending ∧ (State.sourceFault x s e).lock.fuse = s.lock.fuse ∧ (State.sourceFault x s e).active = s.active ∧ (State.sourceFault x s e).tick.counter = s.tick.counter ∧ (State.sourceFault x s e).tick.on = s.tick.on ∧ (State.sourceFault x s e).tick.part = s.tick.part := by
  unfold State.sourceFault; (try dsimp only); all_goals ((repeat' split) <;> simp)
@[simp] theorem State.electrodeRestart_keeps (x : Nat) (s : State) (i : Nat) :
    (State.electrodeRestart x s i).boot = s.boot ∧ (State.electrodeRestart x s i).pending = s.pending ∧ (State.electrodeRestart x s i).lock.fuse = s.lock.fuse ∧ (State.electrodeRestart x s i).active = s.active ∧ (State.electrodeRestart x s i).tick.counter = s.tick.counter ∧ (State.electrodeRestart x s i).tick.on = s.tick.on ∧ (State.electrodeRestart x s i).tick.part = s.tick.part := by
  unfold State.electrodeRestart; (try dsimp only); all_goals ((repeat' split) <;> simp)
@[simp] theorem State.pinFaultEntry_keeps (s : State) (x : Nat) (above : Bool) :
    (State.pinFaultEntry s x above).boot = s.boot ∧ (State.pinFaultEntry s x above).pending = s.pending ∧ (State.pinFaultEntry s x above).lock.fuse = s.lock.fuse ∧ (State.pinFaultEntry s x above).active = s.active ∧ (State.pinFaultEntry s x above).tick.counter = s.tick.counter ∧ (State.pinFaultEntry s x above).tick.on = s.tick.on ∧ (State.pinFaultEntry s x above).tick.part = s.tick.part := by
  unfold State.pinFaultEntry; (try dsimp only); all_goals ((repeat' split) <;> simp)
@[simp] theorem State.pinFaultExit_keeps (s : State) (x : Nat) :
    (State.pinFaultExit s x).boot = s.boot ∧ (State.pinFaultExit s x).pending = s.pending ∧ (State.pinFaultExit s x).lock.fuse = s.lock.fuse ∧ (State.pinFaultExit s x).active = s.active ∧ (State.pinFaultExit s x).tick.counter = s.tick.counter ∧ (State.pinFaultExit s x).tick.on = s.tick.on ∧ (State.pinFaultExit s x).tick.part = s.tick.part := by
  unfold State.pinFaultExit; (try dsimp only); all_goals ((repeat' split) <;> simp)
@[simp] theorem State.excitationReading_keeps (s : State) (e currentNa neededUv avddUv : Nat) :
    (State.excitationReading s e currentNa neededUv avddUv).boot = s.boot ∧ (State.excitationReading s e currentNa neededUv avddUv).pending = s.pending ∧ (State.excitationReading s e currentNa neededUv avddUv).lock.fuse = s.lock.fuse ∧ (State.excitationReading s e currentNa neededUv avddUv).active = s.active ∧ (State.excitationReading s e currentNa neededUv avddUv).tick.counter = s.tick.counter ∧ (State.excitationReading s e currentNa neededUv avddUv).tick.on = s.tick.on ∧ (State.excitationReading s e currentNa neededUv avddUv).tick.part = s.tick.part := by
  unfold State.excitationReading; (try dsimp only); all_goals ((repeat' split) <;> simp)
@[simp] theorem State.sourceBoundary_keeps (s : State) (e : Nat) :
    (State.sourceBoundary s e).boot = s.boot ∧ (State.sourceBoundary s e).pending = s.pending ∧ (State.sourceBoundary s e).lock.fuse = s.lock.fuse ∧ (State.sourceBoundary s e).active = s.active ∧ (State.sourceBoundary s e).tick.counter = s.tick.counter ∧ (State.sourceBoundary s e).tick.on = s.tick.on ∧ (State.sourceBoundary s e).tick.part = s.tick.part := by
  unfold State.sourceBoundary; (try dsimp only); all_goals ((repeat' split) <;> simp)
@[simp] theorem State.openSources_keeps (s : State) :
    (State.openSources s).boot = s.boot ∧ (State.openSources s).pending = s.pending ∧ (State.openSources s).lock.fuse = s.lock.fuse ∧ (State.openSources s).active = s.active ∧ (State.openSources s).tick.counter = s.tick.counter ∧ (State.openSources s).tick.on = s.tick.on ∧ (State.openSources s).tick.part = s.tick.part := by
  unfold State.openSources; (try dsimp only); all_goals ((repeat' split) <;> simp)
@[simp] theorem State.vrefoReading_keeps (s : State) (uv : BitVec 32) :
    (State.vrefoReading s uv).boot = s.boot ∧ (State.vrefoReading s uv).pending = s.pending ∧ (State.vrefoReading s uv).lock.fuse = s.lock.fuse ∧ (State.vrefoReading s uv).active = s.active ∧ (State.vrefoReading s uv).tick.counter = s.tick.counter ∧ (State.vrefoReading s uv).tick.on = s.tick.on ∧ (State.vrefoReading s uv).tick.part = s.tick.part := by
  unfold State.vrefoReading; (try dsimp only); all_goals ((repeat' split) <;> simp)
@[simp] theorem State.drawRef_keeps (s : State) (n l : Nat) (ref : RefLevel) :
    (State.drawRef s n l ref).boot = s.boot ∧ (State.drawRef s n l ref).pending = s.pending ∧ (State.drawRef s n l ref).lock.fuse = s.lock.fuse ∧ (State.drawRef s n l ref).active = s.active ∧ (State.drawRef s n l ref).tick.counter = s.tick.counter ∧ (State.drawRef s n l ref).tick.on = s.tick.on ∧ (State.drawRef s n l ref).tick.part = s.tick.part := by
  unfold State.drawRef; (try dsimp only); all_goals ((repeat' split) <;> simp)
@[simp] theorem State.noteUnpaired_keeps (s : State) (a : Tbl Nat) (n : Nat) (unpaired : Bool) :
    (State.noteUnpaired s a n unpaired).boot = s.boot ∧ (State.noteUnpaired s a n unpaired).pending = s.pending ∧ (State.noteUnpaired s a n unpaired).lock.fuse = s.lock.fuse ∧ (State.noteUnpaired s a n unpaired).active = s.active ∧ (State.noteUnpaired s a n unpaired).tick.counter = s.tick.counter ∧ (State.noteUnpaired s a n unpaired).tick.on = s.tick.on ∧ (State.noteUnpaired s a n unpaired).tick.part = s.tick.part := by
  unfold State.noteUnpaired; (try dsimp only); all_goals ((repeat' split) <;> simp)
@[simp] theorem State.formData_keeps (s : State) (a : Tbl Nat) (n c : Nat) (x5 : Int) (ovr cal : Bool) (dly : Nat) :
    (State.formData s a n c x5 ovr cal dly).boot = s.boot ∧ (State.formData s a n c x5 ovr cal dly).pending = s.pending ∧ (State.formData s a n c x5 ovr cal dly).lock.fuse = s.lock.fuse ∧ (State.formData s a n c x5 ovr cal dly).active = s.active ∧ (State.formData s a n c x5 ovr cal dly).tick.counter = s.tick.counter ∧ (State.formData s a n c x5 ovr cal dly).tick.on = s.tick.on ∧ (State.formData s a n c x5 ovr cal dly).tick.part = s.tick.part := by
  unfold State.formData; (try dsimp only); all_goals ((repeat' split) <;> simp)
@[simp] theorem State.endConv_keeps (s : State) (l : Nat) (c : Conv) (x0 : Int) (ref : RefLevel) :
    (State.endConv s l c x0 ref).boot = s.boot ∧ (State.endConv s l c x0 ref).pending = s.pending ∧ (State.endConv s l c x0 ref).lock.fuse = s.lock.fuse ∧ (State.endConv s l c x0 ref).active = s.active ∧ (State.endConv s l c x0 ref).tick.counter = s.tick.counter ∧ (State.endConv s l c x0 ref).tick.on = s.tick.on ∧ (State.endConv s l c x0 ref).tick.part = s.tick.part := by
  unfold State.endConv; (try dsimp only); all_goals ((repeat' split) <;> simp)
@[simp] theorem State.conversionEnd_keeps (s : State) (l : Nat) (x0 : Int) (ref : RefLevel) :
    (State.conversionEnd s l x0 ref).boot = s.boot ∧ (State.conversionEnd s l x0 ref).pending = s.pending ∧ (State.conversionEnd s l x0 ref).lock.fuse = s.lock.fuse ∧ (State.conversionEnd s l x0 ref).active = s.active ∧ (State.conversionEnd s l x0 ref).tick.counter = s.tick.counter ∧ (State.conversionEnd s l x0 ref).tick.on = s.tick.on ∧ (State.conversionEnd s l x0 ref).tick.part = s.tick.part := by
  unfold State.conversionEnd; (try dsimp only); all_goals ((repeat' split) <;> simp)
@[simp] theorem State.markSat_keeps (s : State) (n p sats : Nat) :
    (State.markSat s n p sats).boot = s.boot ∧ (State.markSat s n p sats).pending = s.pending ∧ (State.markSat s n p sats).lock.fuse = s.lock.fuse ∧ (State.markSat s n p sats).active = s.active ∧ (State.markSat s n p sats).tick.counter = s.tick.counter ∧ (State.markSat s n p sats).tick.on = s.tick.on ∧ (State.markSat s n p sats).tick.part = s.tick.part := by
  unfold State.markSat; (try dsimp only); all_goals ((repeat' split) <;> simp)
@[simp] theorem State.runSample_keeps (s : State) (p n : Nat) :
    (State.runSample s p n).boot = s.boot ∧ (State.runSample s p n).pending = s.pending ∧ (State.runSample s p n).lock.fuse = s.lock.fuse ∧ (State.runSample s p n).active = s.active ∧ (State.runSample s p n).tick.counter = s.tick.counter ∧ (State.runSample s p n).tick.on = s.tick.on ∧ (State.runSample s p n).tick.part = s.tick.part := by
  unfold State.runSample; (try dsimp only); all_goals ((repeat' split) <;> simp)
@[simp] theorem State.outputSample_keeps (s0 : State) (p : Nat) (x0 : Int) (ref : RefLevel) (cyc : Nat) :
    (State.outputSample s0 p x0 ref cyc).boot = s0.boot ∧ (State.outputSample s0 p x0 ref cyc).pending = s0.pending ∧ (State.outputSample s0 p x0 ref cyc).lock.fuse = s0.lock.fuse ∧ (State.outputSample s0 p x0 ref cyc).active = s0.active ∧ (State.outputSample s0 p x0 ref cyc).tick.counter = s0.tick.counter ∧ (State.outputSample s0 p x0 ref cyc).tick.on = s0.tick.on ∧ (State.outputSample s0 p x0 ref cyc).tick.part = s0.tick.part := by
  unfold State.outputSample; (try dsimp only); all_goals ((repeat' split) <;> simp)
@[simp] theorem State.deliverRecord_keeps (s : State) (a : Tbl Nat) (n p : Nat) (m : Sample) :
    (State.deliverRecord s a n p m).boot = s.boot ∧ (State.deliverRecord s a n p m).pending = s.pending ∧ (State.deliverRecord s a n p m).lock.fuse = s.lock.fuse ∧ (State.deliverRecord s a n p m).active = s.active ∧ (State.deliverRecord s a n p m).tick.counter = s.tick.counter ∧ (State.deliverRecord s a n p m).tick.on = s.tick.on ∧ (State.deliverRecord s a n p m).tick.part = s.tick.part := by
  unfold State.deliverRecord; (try dsimp only); all_goals ((repeat' split) <;> simp)
@[simp] theorem State.dedLost_keeps (s : State) (n : Nat) (t : TickNo) :
    (State.dedLost s n t).boot = s.boot ∧ (State.dedLost s n t).pending = s.pending ∧ (State.dedLost s n t).lock.fuse = s.lock.fuse ∧ (State.dedLost s n t).active = s.active ∧ (State.dedLost s n t).tick.counter = s.tick.counter ∧ (State.dedLost s n t).tick.on = s.tick.on ∧ (State.dedLost s n t).tick.part = s.tick.part := by
  unfold State.dedLost; (try dsimp only); all_goals ((repeat' split) <;> simp)
@[simp] theorem State.deliver_keeps (s : State) (a : Tbl Nat) (l : Nat) :
    (State.deliver s a l).boot = s.boot ∧ (State.deliver s a l).pending = s.pending ∧ (State.deliver s a l).lock.fuse = s.lock.fuse ∧ (State.deliver s a l).active = s.active ∧ (State.deliver s a l).tick.counter = s.tick.counter ∧ (State.deliver s a l).tick.on = s.tick.on ∧ (State.deliver s a l).tick.part = s.tick.part := by
  unfold State.deliver; (try dsimp only); all_goals ((repeat' split) <;> simp)
@[simp] theorem State.closeHalves_keeps (s : State) (l : Nat) :
    (State.closeHalves s l).boot = s.boot ∧ (State.closeHalves s l).pending = s.pending ∧ (State.closeHalves s l).lock.fuse = s.lock.fuse ∧ (State.closeHalves s l).active = s.active ∧ (State.closeHalves s l).tick.counter = s.tick.counter ∧ (State.closeHalves s l).tick.on = s.tick.on ∧ (State.closeHalves s l).tick.part = s.tick.part := by
  unfold State.closeHalves; (try dsimp only); all_goals ((repeat' split) <;> simp)
@[simp] theorem State.runSamples_keeps (s : State) :
    (State.runSamples s).boot = s.boot ∧ (State.runSamples s).pending = s.pending ∧ (State.runSamples s).lock.fuse = s.lock.fuse ∧ (State.runSamples s).active = s.active ∧ (State.runSamples s).tick.counter = s.tick.counter ∧ (State.runSamples s).tick.on = s.tick.on ∧ (State.runSamples s).tick.part = s.tick.part := by
  unfold State.runSamples; (try dsimp only); all_goals ((repeat' split) <;> (first | (simp; done) | (refine ⟨?_, ?_, ?_, ?_, ?_, ?_, ?_⟩ <;> (first | (simp; done) | ((refine (foldl_keeps_boot _ _ _ ?_).trans ?_) <;> intros <;> (repeat' split) <;> simp; done) | ((refine (foldl_keeps_pending _ _ _ ?_).trans ?_) <;> intros <;> (repeat' split) <;> simp; done) | ((refine (foldl_keeps_lock_fuse _ _ _ ?_).trans ?_) <;> intros <;> (repeat' split) <;> simp; done) | ((refine (foldl_keeps_active _ _ _ ?_).trans ?_) <;> intros <;> (repeat' split) <;> simp; done) | ((refine (foldl_keeps_tick_counter _ _ _ ?_).trans ?_) <;> intros <;> (repeat' split) <;> simp; done) | ((refine (foldl_keeps_tick_on _ _ _ ?_).trans ?_) <;> intros <;> (repeat' split) <;> simp; done) | ((refine (foldl_keeps_tick_part _ _ _ ?_).trans ?_) <;> intros <;> (repeat' split) <;> simp; done)))))
@[simp] theorem State.countDelivery_keeps (s : State) (l : Nat) :
    (State.countDelivery s l).boot = s.boot ∧ (State.countDelivery s l).pending = s.pending ∧ (State.countDelivery s l).lock.fuse = s.lock.fuse ∧ (State.countDelivery s l).active = s.active ∧ (State.countDelivery s l).tick.counter = s.tick.counter ∧ (State.countDelivery s l).tick.on = s.tick.on ∧ (State.countDelivery s l).tick.part = s.tick.part := by
  unfold State.countDelivery; (try dsimp only); all_goals ((repeat' split) <;> simp)
@[simp] theorem State.align_keeps (s : State) (l : Nat) :
    (State.align s l).boot = s.boot ∧ (State.align s l).pending = s.pending ∧ (State.align s l).lock.fuse = s.lock.fuse ∧ (State.align s l).active = s.active ∧ (State.align s l).tick.counter = s.tick.counter ∧ (State.align s l).tick.on = s.tick.on ∧ (State.align s l).tick.part = s.tick.part := by
  unfold State.align; (try dsimp only); all_goals ((repeat' split) <;> simp)
@[simp] theorem State.connectAll_keeps (s : State) :
    (State.connectAll s).boot = s.boot ∧ (State.connectAll s).pending = s.pending ∧ (State.connectAll s).lock.fuse = s.lock.fuse ∧ (State.connectAll s).active = s.active ∧ (State.connectAll s).tick.counter = s.tick.counter ∧ (State.connectAll s).tick.on = s.tick.on ∧ (State.connectAll s).tick.part = s.tick.part := by
  exact foldl_keeps_all _ _ _ (by intro s a; split <;> simp)
@[simp] theorem State.totStop_keeps (s : State) (n : Nat) :
    (State.totStop s n).boot = s.boot ∧ (State.totStop s n).pending = s.pending ∧ (State.totStop s n).lock.fuse = s.lock.fuse ∧ (State.totStop s n).active = s.active ∧ (State.totStop s n).tick.counter = s.tick.counter ∧ (State.totStop s n).tick.on = s.tick.on ∧ (State.totStop s n).tick.part = s.tick.part := by
  unfold State.totStop; (try dsimp only); all_goals ((repeat' split) <;> simp)
@[simp] theorem State.lanesStop_keeps (s : State) :
    (State.lanesStop s).boot = s.boot ∧ (State.lanesStop s).pending = s.pending ∧ (State.lanesStop s).lock.fuse = s.lock.fuse ∧ (State.lanesStop s).active = s.active ∧ (State.lanesStop s).tick.counter = s.tick.counter ∧ (State.lanesStop s).tick.on = s.tick.on ∧ (State.lanesStop s).tick.part = s.tick.part := by
  unfold State.lanesStop; (try dsimp only); all_goals ((repeat' split) <;> simp)
@[simp] theorem State.windowDone_keeps (s : State) (p : Nat) :
    (State.windowDone s p).boot = s.boot ∧ (State.windowDone s p).pending = s.pending ∧ (State.windowDone s p).lock.fuse = s.lock.fuse ∧ (State.windowDone s p).active = s.active ∧ (State.windowDone s p).tick.counter = s.tick.counter ∧ (State.windowDone s p).tick.on = s.tick.on ∧ (State.windowDone s p).tick.part = s.tick.part := by
  unfold State.windowDone; (try dsimp only); all_goals ((repeat' split) <;> simp)
@[simp] theorem State.openOverlap_keeps (s : State) (i : Nat) (intoE : Bool) :
    (State.openOverlap s i intoE).boot = s.boot ∧ (State.openOverlap s i intoE).pending = s.pending ∧ (State.openOverlap s i intoE).lock.fuse = s.lock.fuse ∧ (State.openOverlap s i intoE).active = s.active ∧ (State.openOverlap s i intoE).tick.counter = s.tick.counter ∧ (State.openOverlap s i intoE).tick.on = s.tick.on ∧ (State.openOverlap s i intoE).tick.part = s.tick.part := by
  unfold State.openOverlap; (try dsimp only); all_goals ((repeat' split) <;> simp)
@[simp] theorem State.serveBy_keeps (s : State) (i : Nat) :
    (State.serveBy s i).boot = s.boot ∧ (State.serveBy s i).pending = s.pending ∧ (State.serveBy s i).lock.fuse = s.lock.fuse ∧ (State.serveBy s i).active = s.active ∧ (State.serveBy s i).tick.counter = s.tick.counter ∧ (State.serveBy s i).tick.on = s.tick.on ∧ (State.serveBy s i).tick.part = s.tick.part := by
  unfold State.serveBy; (try dsimp only); all_goals ((repeat' split) <;> simp)
@[simp] theorem State.handBack_keeps (s : State) :
    (State.handBack s).boot = s.boot ∧ (State.handBack s).pending = s.pending ∧ (State.handBack s).lock.fuse = s.lock.fuse ∧ (State.handBack s).active = s.active ∧ (State.handBack s).tick.counter = s.tick.counter ∧ (State.handBack s).tick.on = s.tick.on ∧ (State.handBack s).tick.part = s.tick.part := by
  unfold State.handBack; (try dsimp only); all_goals ((repeat' split) <;> simp)
@[simp] theorem State.startPhase_keeps (s : State) (k : Nat) :
    (State.startPhase s k).boot = s.boot ∧ (State.startPhase s k).pending = s.pending ∧ (State.startPhase s k).lock.fuse = s.lock.fuse ∧ (State.startPhase s k).active = s.active ∧ (State.startPhase s k).tick.counter = s.tick.counter ∧ (State.startPhase s k).tick.on = s.tick.on ∧ (State.startPhase s k).tick.part = s.tick.part := by
  unfold State.startPhase; (try dsimp only); all_goals ((repeat' split) <;> simp)
@[simp] theorem State.enterPhase_keeps (s : State) (k : Nat) :
    (State.enterPhase s k).boot = s.boot ∧ (State.enterPhase s k).pending = s.pending ∧ (State.enterPhase s k).lock.fuse = s.lock.fuse ∧ (State.enterPhase s k).active = s.active ∧ (State.enterPhase s k).tick.counter = s.tick.counter ∧ (State.enterPhase s k).tick.on = s.tick.on ∧ (State.enterPhase s k).tick.part = s.tick.part := by
  unfold State.enterPhase; (try dsimp only); all_goals ((repeat' split) <;> simp)
@[simp] theorem State.windowRan_keeps (s : State) (p : Nat) :
    (State.windowRan s p).boot = s.boot ∧ (State.windowRan s p).pending = s.pending ∧ (State.windowRan s p).lock.fuse = s.lock.fuse ∧ (State.windowRan s p).active = s.active ∧ (State.windowRan s p).tick.counter = s.tick.counter ∧ (State.windowRan s p).tick.on = s.tick.on ∧ (State.windowRan s p).tick.part = s.tick.part := by
  unfold State.windowRan; (try dsimp only); all_goals ((repeat' split) <;> simp)
@[simp] theorem State.phaseEnd_keeps (s : State) :
    (State.phaseEnd s).boot = s.boot ∧ (State.phaseEnd s).pending = s.pending ∧ (State.phaseEnd s).lock.fuse = s.lock.fuse ∧ (State.phaseEnd s).active = s.active ∧ (State.phaseEnd s).tick.counter = s.tick.counter ∧ (State.phaseEnd s).tick.on = s.tick.on ∧ (State.phaseEnd s).tick.part = s.tick.part := by
  unfold State.phaseEnd; (try dsimp only); all_goals ((repeat' split) <;> simp)
@[simp] theorem State.lostSlots_keeps (s : State) (l : Nat) :
    (State.lostSlots s l).boot = s.boot ∧ (State.lostSlots s l).pending = s.pending ∧ (State.lostSlots s l).lock.fuse = s.lock.fuse ∧ (State.lostSlots s l).active = s.active ∧ (State.lostSlots s l).tick.counter = s.tick.counter ∧ (State.lostSlots s l).tick.on = s.tick.on ∧ (State.lostSlots s l).tick.part = s.tick.part := by
  unfold State.lostSlots; (try dsimp only); all_goals ((repeat' split) <;> (first | (simp; done) | (refine ⟨?_, ?_, ?_, ?_, ?_, ?_, ?_⟩ <;> (first | (simp; done) | ((refine (foldl_keeps_boot _ _ _ ?_).trans ?_) <;> intros <;> (repeat' split) <;> simp; done) | ((refine (foldl_keeps_pending _ _ _ ?_).trans ?_) <;> intros <;> (repeat' split) <;> simp; done) | ((refine (foldl_keeps_lock_fuse _ _ _ ?_).trans ?_) <;> intros <;> (repeat' split) <;> simp; done) | ((refine (foldl_keeps_active _ _ _ ?_).trans ?_) <;> intros <;> (repeat' split) <;> simp; done) | ((refine (foldl_keeps_tick_counter _ _ _ ?_).trans ?_) <;> intros <;> (repeat' split) <;> simp; done) | ((refine (foldl_keeps_tick_on _ _ _ ?_).trans ?_) <;> intros <;> (repeat' split) <;> simp; done) | ((refine (foldl_keeps_tick_part _ _ _ ?_).trans ?_) <;> intros <;> (repeat' split) <;> simp; done)))))
@[simp] theorem State.faultLane_keeps (s : State) (p cause : Nat) :
    (State.faultLane s p cause).boot = s.boot ∧ (State.faultLane s p cause).pending = s.pending ∧ (State.faultLane s p cause).lock.fuse = s.lock.fuse ∧ (State.faultLane s p cause).active = s.active ∧ (State.faultLane s p cause).tick.counter = s.tick.counter ∧ (State.faultLane s p cause).tick.on = s.tick.on ∧ (State.faultLane s p cause).tick.part = s.tick.part := by
  unfold State.faultLane; (try dsimp only); all_goals ((repeat' split) <;> simp)
@[simp] theorem State.laneFault_keeps (s : State) (p : Nat) :
    (State.laneFault s p).boot = s.boot ∧ (State.laneFault s p).pending = s.pending ∧ (State.laneFault s p).lock.fuse = s.lock.fuse ∧ (State.laneFault s p).active = s.active ∧ (State.laneFault s p).tick.counter = s.tick.counter ∧ (State.laneFault s p).tick.on = s.tick.on ∧ (State.laneFault s p).tick.part = s.tick.part := by
  unfold State.laneFault; (try dsimp only); all_goals ((repeat' split) <;> simp)
@[simp] theorem State.overlapEnd_keeps (s : State) :
    (State.overlapEnd s).boot = s.boot ∧ (State.overlapEnd s).pending = s.pending ∧ (State.overlapEnd s).lock.fuse = s.lock.fuse ∧ (State.overlapEnd s).active = s.active ∧ (State.overlapEnd s).tick.counter = s.tick.counter ∧ (State.overlapEnd s).tick.on = s.tick.on ∧ (State.overlapEnd s).tick.part = s.tick.part := by
  unfold State.overlapEnd; (try dsimp only); all_goals ((repeat' split) <;> simp)
@[simp] theorem State.quadMeasure_keeps (s : State) (p j : Nat) (z sp : Int) :
    (State.quadMeasure s p j z sp).boot = s.boot ∧ (State.quadMeasure s p j z sp).pending = s.pending ∧ (State.quadMeasure s p j z sp).lock.fuse = s.lock.fuse ∧ (State.quadMeasure s p j z sp).active = s.active ∧ (State.quadMeasure s p j z sp).tick.counter = s.tick.counter ∧ (State.quadMeasure s p j z sp).tick.on = s.tick.on ∧ (State.quadMeasure s p j z sp).tick.part = s.tick.part := by
  unfold State.quadMeasure; (try dsimp only); all_goals ((repeat' split) <;> simp)
@[simp] theorem State.selfPoint_keeps (s : State) (z sp : Int) :
    (State.selfPoint s z sp).boot = s.boot ∧ (State.selfPoint s z sp).pending = s.pending ∧ (State.selfPoint s z sp).lock.fuse = s.lock.fuse ∧ (State.selfPoint s z sp).active = s.active ∧ (State.selfPoint s z sp).tick.counter = s.tick.counter ∧ (State.selfPoint s z sp).tick.on = s.tick.on ∧ (State.selfPoint s z sp).tick.part = s.tick.part := by
  unfold State.selfPoint; (try dsimp only); all_goals ((repeat' split) <;> simp)
@[simp] theorem State.faultClear_keeps (s : State) (p : Nat) :
    (State.faultClear s p).boot = s.boot ∧ (State.faultClear s p).pending = s.pending ∧ (State.faultClear s p).lock.fuse = s.lock.fuse ∧ (State.faultClear s p).active = s.active ∧ (State.faultClear s p).tick.counter = s.tick.counter ∧ (State.faultClear s p).tick.on = s.tick.on ∧ (State.faultClear s p).tick.part = s.tick.part := by
  unfold State.faultClear; (try dsimp only); all_goals ((repeat' split) <;> simp)
@[simp] theorem State.laneReturns_keeps (s : State) (p : Nat) :
    (State.laneReturns s p).boot = s.boot ∧ (State.laneReturns s p).pending = s.pending ∧ (State.laneReturns s p).lock.fuse = s.lock.fuse ∧ (State.laneReturns s p).active = s.active ∧ (State.laneReturns s p).tick.counter = s.tick.counter ∧ (State.laneReturns s p).tick.on = s.tick.on ∧ (State.laneReturns s p).tick.part = s.tick.part := by
  unfold State.laneReturns; (try dsimp only); all_goals ((repeat' split) <;> simp)
@[simp] theorem State.clearBoundary_keeps (s : State) (p : Nat) :
    (State.clearBoundary s p).boot = s.boot ∧ (State.clearBoundary s p).pending = s.pending ∧ (State.clearBoundary s p).lock.fuse = s.lock.fuse ∧ (State.clearBoundary s p).active = s.active ∧ (State.clearBoundary s p).tick.counter = s.tick.counter ∧ (State.clearBoundary s p).tick.on = s.tick.on ∧ (State.clearBoundary s p).tick.part = s.tick.part := by
  unfold State.clearBoundary; (try dsimp only); all_goals ((repeat' split) <;> simp)
@[simp] theorem State.compare_keeps (s : State) :
    (State.compare s).boot = s.boot ∧ (State.compare s).pending = s.pending ∧ (State.compare s).lock.fuse = s.lock.fuse ∧ (State.compare s).active = s.active ∧ (State.compare s).tick.counter = s.tick.counter ∧ (State.compare s).tick.on = s.tick.on ∧ (State.compare s).tick.part = s.tick.part := by
  unfold State.compare; (try dsimp only); all_goals ((repeat' split) <;> simp)
@[simp] theorem State.calOverlap_keeps (s : State) :
    (State.calOverlap s).boot = s.boot ∧ (State.calOverlap s).pending = s.pending ∧ (State.calOverlap s).lock.fuse = s.lock.fuse ∧ (State.calOverlap s).active = s.active ∧ (State.calOverlap s).tick.counter = s.tick.counter ∧ (State.calOverlap s).tick.on = s.tick.on ∧ (State.calOverlap s).tick.part = s.tick.part := by
  unfold State.calOverlap; (try dsimp only); all_goals ((repeat' split) <;> simp)
@[simp] theorem State.quadCount_keeps (s : State) :
    (State.quadCount s).boot = s.boot ∧ (State.quadCount s).pending = s.pending ∧ (State.quadCount s).lock.fuse = s.lock.fuse ∧ (State.quadCount s).active = s.active ∧ (State.quadCount s).tick.counter = s.tick.counter ∧ (State.quadCount s).tick.on = s.tick.on ∧ (State.quadCount s).tick.part = s.tick.part := by
  unfold State.quadCount; (try dsimp only); all_goals ((repeat' split) <;> simp)
@[simp] theorem State.takeOver_keeps (s : State) :
    (State.takeOver s).boot = s.boot ∧ (State.takeOver s).pending = s.pending ∧ (State.takeOver s).lock.fuse = s.lock.fuse ∧ (State.takeOver s).active = s.active ∧ (State.takeOver s).tick.counter = s.tick.counter ∧ (State.takeOver s).tick.on = s.tick.on ∧ (State.takeOver s).tick.part = s.tick.part := by
  unfold State.takeOver; (try dsimp only); all_goals ((repeat' split) <;> simp)
@[simp] theorem State.quadMove_keeps (s : State) :
    (State.quadMove s).boot = s.boot ∧ (State.quadMove s).pending = s.pending ∧ (State.quadMove s).lock.fuse = s.lock.fuse ∧ (State.quadMove s).active = s.active ∧ (State.quadMove s).tick.counter = s.tick.counter ∧ (State.quadMove s).tick.on = s.tick.on ∧ (State.quadMove s).tick.part = s.tick.part := by
  unfold State.quadMove; (try dsimp only); all_goals ((repeat' split) <;> simp)
@[simp] theorem State.dropOverlap_keeps (s : State) :
    (State.dropOverlap s).boot = s.boot ∧ (State.dropOverlap s).pending = s.pending ∧ (State.dropOverlap s).lock.fuse = s.lock.fuse ∧ (State.dropOverlap s).active = s.active ∧ (State.dropOverlap s).tick.counter = s.tick.counter ∧ (State.dropOverlap s).tick.on = s.tick.on ∧ (State.dropOverlap s).tick.part = s.tick.part := by
  unfold State.dropOverlap; (try dsimp only); all_goals ((repeat' split) <;> simp)
@[simp] theorem State.quadOff_keeps (old : Tbl Nat) (s : State) :
    (State.quadOff old s).boot = s.boot ∧ (State.quadOff old s).pending = s.pending ∧ (State.quadOff old s).lock.fuse = s.lock.fuse ∧ (State.quadOff old s).active = s.active ∧ (State.quadOff old s).tick.counter = s.tick.counter ∧ (State.quadOff old s).tick.on = s.tick.on ∧ (State.quadOff old s).tick.part = s.tick.part := by
  unfold State.quadOff; (try dsimp only); all_goals ((repeat' split) <;> simp)
@[simp] theorem State.captureEdge_keeps (m : Nat) (asserted : Bool) (cyc : Nat) (s : State) (k : Nat) :
    (State.captureEdge m asserted cyc s k).boot = s.boot ∧ (State.captureEdge m asserted cyc s k).pending = s.pending ∧ (State.captureEdge m asserted cyc s k).lock.fuse = s.lock.fuse ∧ (State.captureEdge m asserted cyc s k).active = s.active ∧ (State.captureEdge m asserted cyc s k).tick.counter = s.tick.counter ∧ (State.captureEdge m asserted cyc s k).tick.on = s.tick.on ∧ (State.captureEdge m asserted cyc s k).tick.part = s.tick.part := by
  unfold State.captureEdge; (try dsimp only); all_goals ((repeat' split) <;> simp)
@[simp] theorem State.dacsMoved_keeps (s : State) (m : Nat) (was : Nat × Nat) (cyc : Nat) :
    (State.dacsMoved s m was cyc).boot = s.boot ∧ (State.dacsMoved s m was cyc).pending = s.pending ∧ (State.dacsMoved s m was cyc).lock.fuse = s.lock.fuse ∧ (State.dacsMoved s m was cyc).active = s.active ∧ (State.dacsMoved s m was cyc).tick.counter = s.tick.counter ∧ (State.dacsMoved s m was cyc).tick.on = s.tick.on ∧ (State.dacsMoved s m was cyc).tick.part = s.tick.part := by
  unfold State.dacsMoved; (try dsimp only); all_goals ((repeat' split) <;> simp)
@[simp] theorem State.compEdge_keeps (s : State) (m : Nat) (asserted : Bool) (cyc : Nat) :
    (State.compEdge s m asserted cyc).boot = s.boot ∧ (State.compEdge s m asserted cyc).pending = s.pending ∧ (State.compEdge s m asserted cyc).lock.fuse = s.lock.fuse ∧ (State.compEdge s m asserted cyc).active = s.active ∧ (State.compEdge s m asserted cyc).tick.counter = s.tick.counter ∧ (State.compEdge s m asserted cyc).tick.on = s.tick.on ∧ (State.compEdge s m asserted cyc).tick.part = s.tick.part := by
  unfold State.compEdge; (try dsimp only); all_goals ((repeat' split) <;> simp)
@[simp] theorem State.monEvent_keeps (s : State) (m code : Nat) (value : BitVec 32) (t : TickNo) :
    (State.monEvent s m code value t).boot = s.boot ∧ (State.monEvent s m code value t).pending = s.pending ∧ (State.monEvent s m code value t).lock.fuse = s.lock.fuse ∧ (State.monEvent s m code value t).active = s.active ∧ (State.monEvent s m code value t).tick.counter = s.tick.counter ∧ (State.monEvent s m code value t).tick.on = s.tick.on ∧ (State.monEvent s m code value t).tick.part = s.tick.part := by
  unfold State.monEvent; (try dsimp only); all_goals ((repeat' split) <;> simp)
@[simp] theorem State.monPend_keeps (s : State) (k : Nat) :
    (State.monPend s k).boot = s.boot ∧ (State.monPend s k).pending = s.pending ∧ (State.monPend s k).lock.fuse = s.lock.fuse ∧ (State.monPend s k).active = s.active ∧ (State.monPend s k).tick.counter = s.tick.counter ∧ (State.monPend s k).tick.on = s.tick.on ∧ (State.monPend s k).tick.part = s.tick.part := by
  unfold State.monPend; (try dsimp only); all_goals ((repeat' split) <;> simp)
@[simp] theorem State.monOutput_keeps (s : State) (m : Nat) (asserted : Bool) (value : BitVec 32) (t : TickNo) (cyc : Nat) :
    (State.monOutput s m asserted value t cyc).boot = s.boot ∧ (State.monOutput s m asserted value t cyc).pending = s.pending ∧ (State.monOutput s m asserted value t cyc).lock.fuse = s.lock.fuse ∧ (State.monOutput s m asserted value t cyc).active = s.active ∧ (State.monOutput s m asserted value t cyc).tick.counter = s.tick.counter ∧ (State.monOutput s m asserted value t cyc).tick.on = s.tick.on ∧ (State.monOutput s m asserted value t cyc).tick.part = s.tick.part := by
  unfold State.monOutput; (try dsimp only); all_goals ((repeat' split) <;> simp)
@[simp] theorem State.comparatorEdge_keeps (s0 : State) (m : Nat) (v : Int) (vref cyc : Nat) :
    (State.comparatorEdge s0 m v vref cyc).boot = s0.boot ∧ (State.comparatorEdge s0 m v vref cyc).pending = s0.pending ∧ (State.comparatorEdge s0 m v vref cyc).lock.fuse = s0.lock.fuse ∧ (State.comparatorEdge s0 m v vref cyc).active = s0.active ∧ (State.comparatorEdge s0 m v vref cyc).tick.counter = s0.tick.counter ∧ (State.comparatorEdge s0 m v vref cyc).tick.on = s0.tick.on ∧ (State.comparatorEdge s0 m v vref cyc).tick.part = s0.tick.part := by
  unfold State.comparatorEdge; (try dsimp only); all_goals ((repeat' split) <;> simp)
@[simp] theorem State.monitorChange_keeps (s0 : State) (m : Nat) (asserted : Bool) (cyc : Nat) :
    (State.monitorChange s0 m asserted cyc).boot = s0.boot ∧ (State.monitorChange s0 m asserted cyc).pending = s0.pending ∧ (State.monitorChange s0 m asserted cyc).lock.fuse = s0.lock.fuse ∧ (State.monitorChange s0 m asserted cyc).active = s0.active ∧ (State.monitorChange s0 m asserted cyc).tick.counter = s0.tick.counter ∧ (State.monitorChange s0 m asserted cyc).tick.on = s0.tick.on ∧ (State.monitorChange s0 m asserted cyc).tick.part = s0.tick.part := by
  unfold State.monitorChange; (try dsimp only); all_goals ((repeat' split) <;> simp)
@[simp] theorem State.monForce_keeps (s : State) (m : Nat) :
    (State.monForce s m).boot = s.boot ∧ (State.monForce s m).pending = s.pending ∧ (State.monForce s m).lock.fuse = s.lock.fuse ∧ (State.monForce s m).active = s.active ∧ (State.monForce s m).tick.counter = s.tick.counter ∧ (State.monForce s m).tick.on = s.tick.on ∧ (State.monForce s m).tick.part = s.tick.part := by
  unfold State.monForce; (try dsimp only); all_goals ((repeat' split) <;> simp)
@[simp] theorem State.monFault_keeps (s : State) (m : Nat) (high : Bool) (diff : Int) :
    (State.monFault s m high diff).boot = s.boot ∧ (State.monFault s m high diff).pending = s.pending ∧ (State.monFault s m high diff).lock.fuse = s.lock.fuse ∧ (State.monFault s m high diff).active = s.active ∧ (State.monFault s m high diff).tick.counter = s.tick.counter ∧ (State.monFault s m high diff).tick.on = s.tick.on ∧ (State.monFault s m high diff).tick.part = s.tick.part := by
  unfold State.monFault; (try dsimp only); all_goals ((repeat' split) <;> simp)
@[simp] theorem State.monReadback_keeps (s0 : State) (m : Nat) (high : Bool) (reading cyc : Nat) :
    (State.monReadback s0 m high reading cyc).boot = s0.boot ∧ (State.monReadback s0 m high reading cyc).pending = s0.pending ∧ (State.monReadback s0 m high reading cyc).lock.fuse = s0.lock.fuse ∧ (State.monReadback s0 m high reading cyc).active = s0.active ∧ (State.monReadback s0 m high reading cyc).tick.counter = s0.tick.counter ∧ (State.monReadback s0 m high reading cyc).tick.on = s0.tick.on ∧ (State.monReadback s0 m high reading cyc).tick.part = s0.tick.part := by
  unfold State.monReadback; (try dsimp only); all_goals ((repeat' split) <;> simp)
@[simp] theorem State.monClear_keeps (s : State) (m : Nat) :
    (State.monClear s m).boot = s.boot ∧ (State.monClear s m).pending = s.pending ∧ (State.monClear s m).lock.fuse = s.lock.fuse ∧ (State.monClear s m).active = s.active ∧ (State.monClear s m).tick.counter = s.tick.counter ∧ (State.monClear s m).tick.on = s.tick.on ∧ (State.monClear s m).tick.part = s.tick.part := by
  unfold State.monClear; (try dsimp only); all_goals ((repeat' split) <;> simp)
@[simp] theorem State.monBoundary_keeps (s : State) (m : Nat) :
    (State.monBoundary s m).boot = s.boot ∧ (State.monBoundary s m).pending = s.pending ∧ (State.monBoundary s m).lock.fuse = s.lock.fuse ∧ (State.monBoundary s m).active = s.active ∧ (State.monBoundary s m).tick.counter = s.tick.counter ∧ (State.monBoundary s m).tick.on = s.tick.on ∧ (State.monBoundary s m).tick.part = s.tick.part := by
  unfold State.monBoundary; (try dsimp only); all_goals ((repeat' split) <;> simp)
@[simp] theorem State.monResume_keeps (s : State) (m : Nat) :
    (State.monResume s m).boot = s.boot ∧ (State.monResume s m).pending = s.pending ∧ (State.monResume s m).lock.fuse = s.lock.fuse ∧ (State.monResume s m).active = s.active ∧ (State.monResume s m).tick.counter = s.tick.counter ∧ (State.monResume s m).tick.on = s.tick.on ∧ (State.monResume s m).tick.part = s.tick.part := by
  unfold State.monResume; (try dsimp only); all_goals ((repeat' split) <;> simp)
@[simp] theorem State.monStandby_keeps (s : State) (m : Nat) :
    (State.monStandby s m).boot = s.boot ∧ (State.monStandby s m).pending = s.pending ∧ (State.monStandby s m).lock.fuse = s.lock.fuse ∧ (State.monStandby s m).active = s.active ∧ (State.monStandby s m).tick.counter = s.tick.counter ∧ (State.monStandby s m).tick.on = s.tick.on ∧ (State.monStandby s m).tick.part = s.tick.part := by
  unfold State.monStandby; (try dsimp only); all_goals ((repeat' split) <;> simp)
@[simp] theorem State.capRearm_keeps (s : State) (mask : BitVec 8) :
    (State.capRearm s mask).boot = s.boot ∧ (State.capRearm s mask).pending = s.pending ∧ (State.capRearm s mask).lock.fuse = s.lock.fuse ∧ (State.capRearm s mask).active = s.active ∧ (State.capRearm s mask).tick.counter = s.tick.counter ∧ (State.capRearm s mask).tick.on = s.tick.on ∧ (State.capRearm s mask).tick.part = s.tick.part := by
  unfold State.capRearm; (try dsimp only); all_goals ((repeat' split) <;> simp)
@[simp] theorem State.monPendClear_keeps (s : State) (mask : BitVec 32) :
    (State.monPendClear s mask).boot = s.boot ∧ (State.monPendClear s mask).pending = s.pending ∧ (State.monPendClear s mask).lock.fuse = s.lock.fuse ∧ (State.monPendClear s mask).active = s.active ∧ (State.monPendClear s mask).tick.counter = s.tick.counter ∧ (State.monPendClear s mask).tick.on = s.tick.on ∧ (State.monPendClear s mask).tick.part = s.tick.part := by
  unfold State.monPendClear; (try dsimp only); all_goals ((repeat' split) <;> simp)
@[simp] theorem State.writeCode_keeps (s : State) (n : Nat) (code : BitVec 16) (cyc : Nat) :
    (State.writeCode s n code cyc).boot = s.boot ∧ (State.writeCode s n code cyc).pending = s.pending ∧ (State.writeCode s n code cyc).lock.fuse = s.lock.fuse ∧ (State.writeCode s n code cyc).active = s.active ∧ (State.writeCode s n code cyc).tick.counter = s.tick.counter ∧ (State.writeCode s n code cyc).tick.on = s.tick.on ∧ (State.writeCode s n code cyc).tick.part = s.tick.part := by
  unfold State.writeCode; (try dsimp only); all_goals ((repeat' split) <;> simp)
@[simp] theorem State.genAdvance_keeps (s : State) (g upTo : Nat) :
    (State.genAdvance s g upTo).boot = s.boot ∧ (State.genAdvance s g upTo).pending = s.pending ∧ (State.genAdvance s g upTo).lock.fuse = s.lock.fuse ∧ (State.genAdvance s g upTo).active = s.active ∧ (State.genAdvance s g upTo).tick.counter = s.tick.counter ∧ (State.genAdvance s g upTo).tick.on = s.tick.on ∧ (State.genAdvance s g upTo).tick.part = s.tick.part := by
  unfold State.genAdvance; (try dsimp only); all_goals ((repeat' split) <;> simp)
@[simp] theorem State.gensNow_keeps (s : State) :
    (State.gensNow s).boot = s.boot ∧ (State.gensNow s).pending = s.pending ∧ (State.gensNow s).lock.fuse = s.lock.fuse ∧ (State.gensNow s).active = s.active ∧ (State.gensNow s).tick.counter = s.tick.counter ∧ (State.gensNow s).tick.on = s.tick.on ∧ (State.gensNow s).tick.part = s.tick.part := by
  unfold State.gensNow; (try dsimp only); all_goals ((repeat' split) <;> simp)
@[simp] theorem State.forceMid_keeps (s : State) (n : Nat) :
    (State.forceMid s n).boot = s.boot ∧ (State.forceMid s n).pending = s.pending ∧ (State.forceMid s n).lock.fuse = s.lock.fuse ∧ (State.forceMid s n).active = s.active ∧ (State.forceMid s n).tick.counter = s.tick.counter ∧ (State.forceMid s n).tick.on = s.tick.on ∧ (State.forceMid s n).tick.part = s.tick.part := by
  unfold State.forceMid; (try dsimp only); all_goals ((repeat' split) <;> simp)
@[simp] theorem State.forceAllMid_keeps (s : State) :
    (State.forceAllMid s).boot = s.boot ∧ (State.forceAllMid s).pending = s.pending ∧ (State.forceAllMid s).lock.fuse = s.lock.fuse ∧ (State.forceAllMid s).active = s.active ∧ (State.forceAllMid s).tick.counter = s.tick.counter ∧ (State.forceAllMid s).tick.on = s.tick.on ∧ (State.forceAllMid s).tick.part = s.tick.part := by
  unfold State.forceAllMid; (try dsimp only); all_goals ((repeat' split) <;> simp)
@[simp] theorem State.genStart_keeps (s : State) (g : Nat) :
    (State.genStart s g).boot = s.boot ∧ (State.genStart s g).pending = s.pending ∧ (State.genStart s g).lock.fuse = s.lock.fuse ∧ (State.genStart s g).active = s.active ∧ (State.genStart s g).tick.counter = s.tick.counter ∧ (State.genStart s g).tick.on = s.tick.on ∧ (State.genStart s g).tick.part = s.tick.part := by
  unfold State.genStart; (try dsimp only); all_goals ((repeat' split) <;> simp)
@[simp] theorem State.keepSample_keeps (s : State) (n j : Nat) :
    (State.keepSample s n j).boot = s.boot ∧ (State.keepSample s n j).pending = s.pending ∧ (State.keepSample s n j).lock.fuse = s.lock.fuse ∧ (State.keepSample s n j).active = s.active ∧ (State.keepSample s n j).tick.counter = s.tick.counter ∧ (State.keepSample s n j).tick.on = s.tick.on ∧ (State.keepSample s n j).tick.part = s.tick.part := by
  unfold State.keepSample; (try dsimp only); all_goals ((repeat' split) <;> simp)
@[simp] theorem State.updateAt_keeps (s : State) (n e : Nat) :
    (State.updateAt s n e).boot = s.boot ∧ (State.updateAt s n e).pending = s.pending ∧ (State.updateAt s n e).lock.fuse = s.lock.fuse ∧ (State.updateAt s n e).active = s.active ∧ (State.updateAt s n e).tick.counter = s.tick.counter ∧ (State.updateAt s n e).tick.on = s.tick.on ∧ (State.updateAt s n e).tick.part = s.tick.part := by
  unfold State.updateAt; (try dsimp only); all_goals ((repeat' split) <;> simp)
@[simp] theorem State.updateEvent_keeps (s : State) (n : Nat) :
    (State.updateEvent s n).boot = s.boot ∧ (State.updateEvent s n).pending = s.pending ∧ (State.updateEvent s n).lock.fuse = s.lock.fuse ∧ (State.updateEvent s n).active = s.active ∧ (State.updateEvent s n).tick.counter = s.tick.counter ∧ (State.updateEvent s n).tick.on = s.tick.on ∧ (State.updateEvent s n).tick.part = s.tick.part := by
  unfold State.updateEvent; (try dsimp only); all_goals ((repeat' split) <;> simp)
@[simp] theorem State.phaseReset_keeps (s : State) (g : Nat) :
    (State.phaseReset s g).boot = s.boot ∧ (State.phaseReset s g).pending = s.pending ∧ (State.phaseReset s g).lock.fuse = s.lock.fuse ∧ (State.phaseReset s g).active = s.active ∧ (State.phaseReset s g).tick.counter = s.tick.counter ∧ (State.phaseReset s g).tick.on = s.tick.on ∧ (State.phaseReset s g).tick.part = s.tick.part := by
  unfold State.phaseReset; (try dsimp only); all_goals ((repeat' split) <;> simp)
@[simp] theorem State.genArm_keeps (s : State) (g : Nat) :
    (State.genArm s g).boot = s.boot ∧ (State.genArm s g).pending = s.pending ∧ (State.genArm s g).lock.fuse = s.lock.fuse ∧ (State.genArm s g).active = s.active ∧ (State.genArm s g).tick.counter = s.tick.counter ∧ (State.genArm s g).tick.on = s.tick.on ∧ (State.genArm s g).tick.part = s.tick.part := by
  unfold State.genArm; (try dsimp only); all_goals ((repeat' split) <;> simp)
@[simp] theorem State.outFault_keeps (s : State) (n cause : Nat) :
    (State.outFault s n cause).boot = s.boot ∧ (State.outFault s n cause).pending = s.pending ∧ (State.outFault s n cause).lock.fuse = s.lock.fuse ∧ (State.outFault s n cause).active = s.active ∧ (State.outFault s n cause).tick.counter = s.tick.counter ∧ (State.outFault s n cause).tick.on = s.tick.on ∧ (State.outFault s n cause).tick.part = s.tick.part := by
  unfold State.outFault; (try dsimp only); all_goals ((repeat' split) <;> simp)
@[simp] theorem State.outputReading_keeps (s : State) (n : Nat) (vOut vSense iOut vmid avdd : Int) :
    (State.outputReading s n vOut vSense iOut vmid avdd).boot = s.boot ∧ (State.outputReading s n vOut vSense iOut vmid avdd).pending = s.pending ∧ (State.outputReading s n vOut vSense iOut vmid avdd).lock.fuse = s.lock.fuse ∧ (State.outputReading s n vOut vSense iOut vmid avdd).active = s.active ∧ (State.outputReading s n vOut vSense iOut vmid avdd).tick.counter = s.tick.counter ∧ (State.outputReading s n vOut vSense iOut vmid avdd).tick.on = s.tick.on ∧ (State.outputReading s n vOut vSense iOut vmid avdd).tick.part = s.tick.part := by
  unfold State.outputReading; (try dsimp only); all_goals ((repeat' split) <;> simp)
@[simp] theorem State.outClear_keeps (s : State) (n cyc : Nat) :
    (State.outClear s n cyc).boot = s.boot ∧ (State.outClear s n cyc).pending = s.pending ∧ (State.outClear s n cyc).lock.fuse = s.lock.fuse ∧ (State.outClear s n cyc).active = s.active ∧ (State.outClear s n cyc).tick.counter = s.tick.counter ∧ (State.outClear s n cyc).tick.on = s.tick.on ∧ (State.outClear s n cyc).tick.part = s.tick.part := by
  unfold State.outClear; (try dsimp only); all_goals ((repeat' split) <;> simp)
@[simp] theorem State.outTickOver_keeps (cycles : Nat) (s : State) (n : Nat) :
    (State.outTickOver cycles s n).boot = s.boot ∧ (State.outTickOver cycles s n).pending = s.pending ∧ (State.outTickOver cycles s n).lock.fuse = s.lock.fuse ∧ (State.outTickOver cycles s n).active = s.active ∧ (State.outTickOver cycles s n).tick.counter = s.tick.counter ∧ (State.outTickOver cycles s n).tick.on = s.tick.on ∧ (State.outTickOver cycles s n).tick.part = s.tick.part := by
  unfold State.outTickOver; (try dsimp only); all_goals ((repeat' split) <;> simp)
@[simp] theorem State.outBoundary_keeps (s : State) (n : Nat) :
    (State.outBoundary s n).boot = s.boot ∧ (State.outBoundary s n).pending = s.pending ∧ (State.outBoundary s n).lock.fuse = s.lock.fuse ∧ (State.outBoundary s n).active = s.active ∧ (State.outBoundary s n).tick.counter = s.tick.counter ∧ (State.outBoundary s n).tick.on = s.tick.on ∧ (State.outBoundary s n).tick.part = s.tick.part := by
  unfold State.outBoundary; (try dsimp only); all_goals ((repeat' split) <;> simp)
@[simp] theorem State.outRestart_keeps (s : State) (n : Nat) :
    (State.outRestart s n).boot = s.boot ∧ (State.outRestart s n).pending = s.pending ∧ (State.outRestart s n).lock.fuse = s.lock.fuse ∧ (State.outRestart s n).active = s.active ∧ (State.outRestart s n).tick.counter = s.tick.counter ∧ (State.outRestart s n).tick.on = s.tick.on ∧ (State.outRestart s n).tick.part = s.tick.part := by
  unfold State.outRestart; (try dsimp only); all_goals ((repeat' split) <;> simp)
@[simp] theorem State.outStart_keeps (s : State) (n : Nat) :
    (State.outStart s n).boot = s.boot ∧ (State.outStart s n).pending = s.pending ∧ (State.outStart s n).lock.fuse = s.lock.fuse ∧ (State.outStart s n).active = s.active ∧ (State.outStart s n).tick.counter = s.tick.counter ∧ (State.outStart s n).tick.on = s.tick.on ∧ (State.outStart s n).tick.part = s.tick.part := by
  unfold State.outStart; (try dsimp only); all_goals ((repeat' split) <;> simp)
@[simp] theorem State.outStandby_keeps (s : State) (n : Nat) :
    (State.outStandby s n).boot = s.boot ∧ (State.outStandby s n).pending = s.pending ∧ (State.outStandby s n).lock.fuse = s.lock.fuse ∧ (State.outStandby s n).active = s.active ∧ (State.outStandby s n).tick.counter = s.tick.counter ∧ (State.outStandby s n).tick.on = s.tick.on ∧ (State.outStandby s n).tick.part = s.tick.part := by
  unfold State.outStandby; (try dsimp only); all_goals ((repeat' split) <;> simp)
@[simp] theorem State.outResume_keeps (s : State) (n : Nat) :
    (State.outResume s n).boot = s.boot ∧ (State.outResume s n).pending = s.pending ∧ (State.outResume s n).lock.fuse = s.lock.fuse ∧ (State.outResume s n).active = s.active ∧ (State.outResume s n).tick.counter = s.tick.counter ∧ (State.outResume s n).tick.on = s.tick.on ∧ (State.outResume s n).tick.part = s.tick.part := by
  unfold State.outResume; (try dsimp only); all_goals ((repeat' split) <;> simp)
@[simp] theorem State.jnMove_keeps (s : State) :
    (State.jnMove s).boot = s.boot ∧ (State.jnMove s).pending = s.pending ∧ (State.jnMove s).lock.fuse = s.lock.fuse ∧ (State.jnMove s).active = s.active ∧ (State.jnMove s).tick.counter = s.tick.counter ∧ (State.jnMove s).tick.on = s.tick.on ∧ (State.jnMove s).tick.part = s.tick.part := by
  unfold State.jnMove; (try dsimp only); all_goals ((repeat' split) <;> simp)
@[simp] theorem State.jnMargin_keeps (s : State) :
    (State.jnMargin s).boot = s.boot ∧ (State.jnMargin s).pending = s.pending ∧ (State.jnMargin s).lock.fuse = s.lock.fuse ∧ (State.jnMargin s).active = s.active ∧ (State.jnMargin s).tick.counter = s.tick.counter ∧ (State.jnMargin s).tick.on = s.tick.on ∧ (State.jnMargin s).tick.part = s.tick.part := by
  unfold State.jnMargin; (try dsimp only); all_goals ((repeat' split) <;> simp)
@[simp] theorem State.storeBaseline_keeps (s : State) (i : Nat) :
    (State.storeBaseline s i).boot = s.boot ∧ (State.storeBaseline s i).pending = s.pending ∧ (State.storeBaseline s i).lock.fuse = s.lock.fuse ∧ (State.storeBaseline s i).active = s.active ∧ (State.storeBaseline s i).tick.counter = s.tick.counter ∧ (State.storeBaseline s i).tick.on = s.tick.on ∧ (State.storeBaseline s i).tick.part = s.tick.part := by
  unfold State.storeBaseline; (try dsimp only); all_goals ((repeat' split) <;> simp)
@[simp] theorem State.withBaselines_keeps (s : State) (classes : List Nat) :
    (State.withBaselines s classes).boot = s.boot ∧ (State.withBaselines s classes).pending = s.pending ∧ (State.withBaselines s classes).lock.fuse = s.lock.fuse ∧ (State.withBaselines s classes).active = s.active ∧ (State.withBaselines s classes).tick.counter = s.tick.counter ∧ (State.withBaselines s classes).tick.on = s.tick.on ∧ (State.withBaselines s classes).tick.part = s.tick.part := by
  unfold State.withBaselines; (try dsimp only); all_goals ((repeat' split) <;> simp)
@[simp] theorem State.enqueue_keeps (s : State) (isStore : Bool) (sub : Nat) :
    (State.enqueue s isStore sub).boot = s.boot ∧ (State.enqueue s isStore sub).pending = s.pending ∧ (State.enqueue s isStore sub).lock.fuse = s.lock.fuse ∧ (State.enqueue s isStore sub).active = s.active ∧ (State.enqueue s isStore sub).tick.counter = s.tick.counter ∧ (State.enqueue s isStore sub).tick.on = s.tick.on ∧ (State.enqueue s isStore sub).tick.part = s.tick.part := by
  unfold State.enqueue; (try dsimp only); all_goals ((repeat' split) <;> simp)
@[simp] theorem State.storeBegin_keeps (s : State) :
    (State.storeBegin s).boot = s.boot ∧ (State.storeBegin s).pending = s.pending ∧ (State.storeBegin s).lock.fuse = s.lock.fuse ∧ (State.storeBegin s).active = s.active ∧ (State.storeBegin s).tick.counter = s.tick.counter ∧ (State.storeBegin s).tick.on = s.tick.on ∧ (State.storeBegin s).tick.part = s.tick.part := by
  unfold State.storeBegin; (try dsimp only); all_goals ((repeat' split) <;> simp)
@[simp] theorem State.clearUnstored_keeps (s : State) (cap : List (Nat × Nat)) (isStore : Bool) :
    (State.clearUnstored s cap isStore).boot = s.boot ∧ (State.clearUnstored s cap isStore).pending = s.pending ∧ (State.clearUnstored s cap isStore).lock.fuse = s.lock.fuse ∧ (State.clearUnstored s cap isStore).active = s.active ∧ (State.clearUnstored s cap isStore).tick.counter = s.tick.counter ∧ (State.clearUnstored s cap isStore).tick.on = s.tick.on ∧ (State.clearUnstored s cap isStore).tick.part = s.tick.part := by
  unfold State.clearUnstored; (try dsimp only); all_goals ((repeat' split) <;> simp)
@[simp] theorem State.storeFails_keeps (s : State) (code : Nat) :
    (State.storeFails s code).boot = s.boot ∧ (State.storeFails s code).pending = s.pending ∧ (State.storeFails s code).lock.fuse = s.lock.fuse ∧ (State.storeFails s code).active = s.active ∧ (State.storeFails s code).tick.counter = s.tick.counter ∧ (State.storeFails s code).tick.on = s.tick.on ∧ (State.storeFails s code).tick.part = s.tick.part := by
  unfold State.storeFails; (try dsimp only); all_goals ((repeat' split) <;> simp)
@[simp] theorem State.planDone_keeps (s : State) :
    (State.planDone s).boot = s.boot ∧ (State.planDone s).pending = s.pending ∧ (State.planDone s).lock.fuse = s.lock.fuse ∧ (State.planDone s).active = s.active ∧ (State.planDone s).tick.counter = s.tick.counter ∧ (State.planDone s).tick.on = s.tick.on ∧ (State.planDone s).tick.part = s.tick.part := by
  unfold State.planDone; (try dsimp only); all_goals ((repeat' split) <;> simp)
@[simp] theorem State.rewrite_keeps (s : State) (close : Bool) :
    (State.rewrite s close).boot = s.boot ∧ (State.rewrite s close).pending = s.pending ∧ (State.rewrite s close).lock.fuse = s.lock.fuse ∧ (State.rewrite s close).active = s.active ∧ (State.rewrite s close).tick.counter = s.tick.counter ∧ (State.rewrite s close).tick.on = s.tick.on ∧ (State.rewrite s close).tick.part = s.tick.part := by
  unfold State.rewrite; (try dsimp only); all_goals ((repeat' split) <;> simp)
@[simp] theorem State.devDone_keeps (s : State) (r : JRec) (weak : Bool) :
    (State.devDone s r weak).boot = s.boot ∧ (State.devDone s r weak).pending = s.pending ∧ (State.devDone s r weak).active = s.active ∧ (State.devDone s r weak).tick.counter = s.tick.counter ∧ (State.devDone s r weak).tick.on = s.tick.on ∧ (State.devDone s r weak).tick.part = s.tick.part := by
  unfold State.devDone; (try dsimp only); all_goals ((repeat' split) <;> simp)
@[simp] theorem State.copyDone_keeps (s : State) (weak : Bool) (rest : List JRec) :
    (State.copyDone s weak rest).boot = s.boot ∧ (State.copyDone s weak rest).pending = s.pending ∧ (State.copyDone s weak rest).lock.fuse = s.lock.fuse ∧ (State.copyDone s weak rest).active = s.active ∧ (State.copyDone s weak rest).tick.counter = s.tick.counter ∧ (State.copyDone s weak rest).tick.on = s.tick.on ∧ (State.copyDone s weak rest).tick.part = s.tick.part := by
  unfold State.copyDone; (try dsimp only); all_goals ((repeat' split) <;> simp)
@[simp] theorem State.recordProgram_keeps (s : State) (weak : Bool) :
    (State.recordProgram s weak).boot = s.boot ∧ (State.recordProgram s weak).pending = s.pending ∧ (State.recordProgram s weak).active = s.active ∧ (State.recordProgram s weak).tick.counter = s.tick.counter ∧ (State.recordProgram s weak).tick.on = s.tick.on ∧ (State.recordProgram s weak).tick.part = s.tick.part := by
  unfold State.recordProgram; (try dsimp only); all_goals ((repeat' split) <;> simp)
@[simp] theorem State.eraseComplete_keeps (s : State) :
    (State.eraseComplete s).boot = s.boot ∧ (State.eraseComplete s).pending = s.pending ∧ (State.eraseComplete s).lock.fuse = s.lock.fuse ∧ (State.eraseComplete s).active = s.active ∧ (State.eraseComplete s).tick.counter = s.tick.counter ∧ (State.eraseComplete s).tick.on = s.tick.on ∧ (State.eraseComplete s).tick.part = s.tick.part := by
  unfold State.eraseComplete; (try dsimp only); all_goals ((repeat' split) <;> simp)
@[simp] theorem State.jnShutdown_keeps (s : State) :
    (State.jnShutdown s).boot = s.boot ∧ (State.jnShutdown s).pending = s.pending ∧ (State.jnShutdown s).lock.fuse = s.lock.fuse ∧ (State.jnShutdown s).active = s.active ∧ (State.jnShutdown s).tick.counter = s.tick.counter ∧ (State.jnShutdown s).tick.on = s.tick.on ∧ (State.jnShutdown s).tick.part = s.tick.part := by
  unfold State.jnShutdown; (try dsimp only); all_goals ((repeat' split) <;> simp)
@[simp] theorem State.restoreEntry_keeps (s : State) (e : Nat × Nat) :
    (State.restoreEntry s e).boot = s.boot ∧ (State.restoreEntry s e).pending = s.pending ∧ (State.restoreEntry s e).lock.fuse = s.lock.fuse ∧ (State.restoreEntry s e).active = s.active ∧ (State.restoreEntry s e).tick.counter = s.tick.counter ∧ (State.restoreEntry s e).tick.on = s.tick.on ∧ (State.restoreEntry s e).tick.part = s.tick.part := by
  unfold State.restoreEntry; (try dsimp only); all_goals ((repeat' split) <;> simp)
@[simp] theorem State.restoreLock_keeps (s : State) (dev : Option (List Byte)) :
    (State.restoreLock s dev).boot = s.boot ∧ (State.restoreLock s dev).pending = s.pending ∧ (State.restoreLock s dev).lock.fuse = s.lock.fuse ∧ (State.restoreLock s dev).active = s.active ∧ (State.restoreLock s dev).tick.counter = s.tick.counter ∧ (State.restoreLock s dev).tick.on = s.tick.on ∧ (State.restoreLock s dev).tick.part = s.tick.part := by
  unfold State.restoreLock; (try dsimp only); all_goals ((repeat' split) <;> simp)
@[simp] theorem State.scan_keeps (s : State) (us : BitVec 16) :
    (State.scan s us).boot = s.boot ∧ (State.scan s us).pending = s.pending ∧ (State.scan s us).lock.fuse = s.lock.fuse ∧ (State.scan s us).active = s.active ∧ (State.scan s us).tick.counter = s.tick.counter ∧ (State.scan s us).tick.on = s.tick.on ∧ (State.scan s us).tick.part = s.tick.part := by
  unfold State.scan; (try dsimp only); all_goals ((repeat' split) <;> simp)
@[simp] theorem State.eraseSpare_keeps (s : State) :
    (State.eraseSpare s).boot = s.boot ∧ (State.eraseSpare s).pending = s.pending ∧ (State.eraseSpare s).lock.fuse = s.lock.fuse ∧ (State.eraseSpare s).active = s.active ∧ (State.eraseSpare s).tick.counter = s.tick.counter ∧ (State.eraseSpare s).tick.on = s.tick.on ∧ (State.eraseSpare s).tick.part = s.tick.part := by
  unfold State.eraseSpare; (try dsimp only); all_goals ((repeat' split) <;> simp)
@[simp] theorem State.commitStart_keeps (s : State) :
    (State.commitStart s).boot = s.boot ∧ (State.commitStart s).pending = s.pending ∧ (State.commitStart s).lock.fuse = s.lock.fuse ∧ (State.commitStart s).active = s.active ∧ (State.commitStart s).tick.counter = s.tick.counter ∧ (State.commitStart s).tick.on = s.tick.on ∧ (State.commitStart s).tick.part = s.tick.part := by
  unfold State.commitStart; (try dsimp only); all_goals ((repeat' split) <;> simp)
@[simp] theorem State.discard_keeps (s : State) :
    (State.discard s).boot = s.boot ∧ (State.discard s).pending = s.pending ∧ (State.discard s).lock.fuse = s.lock.fuse ∧ (State.discard s).active = s.active ∧ (State.discard s).tick.counter = s.tick.counter ∧ (State.discard s).tick.on = s.tick.on ∧ (State.discard s).tick.part = s.tick.part := by
  unfold State.discard; (try dsimp only); all_goals ((repeat' split) <;> simp)
@[simp] theorem State.commitRequest_keeps (s : State) (v : Nat) (p : Port) :
    (State.commitRequest s v p).boot = s.boot ∧ (State.commitRequest s v p).pending = s.pending ∧ (State.commitRequest s v p).lock.fuse = s.lock.fuse ∧ (State.commitRequest s v p).active = s.active ∧ (State.commitRequest s v p).tick.counter = s.tick.counter ∧ (State.commitRequest s v p).tick.on = s.tick.on ∧ (State.commitRequest s v p).tick.part = s.tick.part := by
  unfold State.commitRequest; (try dsimp only); all_goals ((repeat' split) <;> simp)
@[simp] theorem State.commitVerdict_keeps (s : State) (cyc : Nat) :
    (State.commitVerdict s cyc).boot = s.boot ∧ (State.commitVerdict s cyc).pending = s.pending ∧ (State.commitVerdict s cyc).lock.fuse = s.lock.fuse ∧ (State.commitVerdict s cyc).active = s.active ∧ (State.commitVerdict s cyc).tick.counter = s.tick.counter ∧ (State.commitVerdict s cyc).tick.on = s.tick.on ∧ (State.commitVerdict s cyc).tick.part = s.tick.part := by
  unfold State.commitVerdict; (try dsimp only); all_goals ((repeat' split) <;> simp)
@[simp] theorem State.startCheck_keeps (s : State) :
    (State.startCheck s).boot = s.boot ∧ (State.startCheck s).pending = s.pending ∧ (State.startCheck s).lock.fuse = s.lock.fuse ∧ (State.startCheck s).active = s.active ∧ (State.startCheck s).tick.counter = s.tick.counter ∧ (State.startCheck s).tick.on = s.tick.on ∧ (State.startCheck s).tick.part = s.tick.part := by
  unfold State.startCheck; (try dsimp only); all_goals ((repeat' split) <;> simp)
@[simp] theorem State.refEvent_keeps (s : State) (src : RefSource) (inst : Int) :
    (State.refEvent s src inst).boot = s.boot ∧ (State.refEvent s src inst).pending = s.pending ∧ (State.refEvent s src inst).lock.fuse = s.lock.fuse ∧ (State.refEvent s src inst).active = s.active ∧ (State.refEvent s src inst).tick.counter = s.tick.counter ∧ (State.refEvent s src inst).tick.on = s.tick.on ∧ (State.refEvent s src inst).tick.part = s.tick.part := by
  unfold State.refEvent; (try dsimp only); all_goals ((repeat' split) <;> simp)
@[simp] theorem State.judgeBlock_keeps (s : State) (x : Rat) :
    (State.judgeBlock s x).boot = s.boot ∧ (State.judgeBlock s x).pending = s.pending ∧ (State.judgeBlock s x).lock.fuse = s.lock.fuse ∧ (State.judgeBlock s x).active = s.active ∧ (State.judgeBlock s x).tick.counter = s.tick.counter ∧ (State.judgeBlock s x).tick.on = s.tick.on ∧ (State.judgeBlock s x).tick.part = s.tick.part := by
  unfold State.judgeBlock; (try dsimp only); all_goals ((repeat' split) <;> simp)
@[simp] theorem State.usable_keeps (s : State) (x e : Rat) (back : Nat) :
    (State.usable s x e back).boot = s.boot ∧ (State.usable s x e back).pending = s.pending ∧ (State.usable s x e back).lock.fuse = s.lock.fuse ∧ (State.usable s x e back).active = s.active ∧ (State.usable s x e back).tick.counter = s.tick.counter ∧ (State.usable s x e back).tick.on = s.tick.on ∧ (State.usable s x e back).tick.part = s.tick.part := by
  unfold State.usable; (try dsimp only); all_goals ((repeat' split) <;> simp)
@[simp] theorem State.anchorOn_keeps (s : State) (x : Rat) (more : Nat) :
    (State.anchorOn s x more).boot = s.boot ∧ (State.anchorOn s x more).pending = s.pending ∧ (State.anchorOn s x more).lock.fuse = s.lock.fuse ∧ (State.anchorOn s x more).active = s.active ∧ (State.anchorOn s x more).tick.counter = s.tick.counter ∧ (State.anchorOn s x more).tick.on = s.tick.on ∧ (State.anchorOn s x more).tick.part = s.tick.part := by
  unfold State.anchorOn; (try dsimp only); all_goals ((repeat' split) <;> simp)
@[simp] theorem State.lockEval_keeps (s : State) :
    (State.lockEval s).boot = s.boot ∧ (State.lockEval s).pending = s.pending ∧ (State.lockEval s).lock.fuse = s.lock.fuse ∧ (State.lockEval s).active = s.active ∧ (State.lockEval s).tick.counter = s.tick.counter ∧ (State.lockEval s).tick.on = s.tick.on ∧ (State.lockEval s).tick.part = s.tick.part := by
  unfold State.lockEval; (try dsimp only); all_goals ((repeat' split) <;> simp)
@[simp] theorem State.holdoverLimit_keeps (s : State) :
    (State.holdoverLimit s).boot = s.boot ∧ (State.holdoverLimit s).pending = s.pending ∧ (State.holdoverLimit s).lock.fuse = s.lock.fuse ∧ (State.holdoverLimit s).active = s.active ∧ (State.holdoverLimit s).tick.counter = s.tick.counter ∧ (State.holdoverLimit s).tick.on = s.tick.on ∧ (State.holdoverLimit s).tick.part = s.tick.part := by
  unfold State.holdoverLimit; (try dsimp only); all_goals ((repeat' split) <;> simp)
@[simp] theorem State.tickMarkers_keeps (s : State) (was : Bool) (realign : List Int) (drift wrapped : Bool) :
    (State.tickMarkers s was realign drift wrapped).boot = s.boot ∧ (State.tickMarkers s was realign drift wrapped).pending = s.pending ∧ (State.tickMarkers s was realign drift wrapped).lock.fuse = s.lock.fuse ∧ (State.tickMarkers s was realign drift wrapped).active = s.active ∧ (State.tickMarkers s was realign drift wrapped).tick.counter = s.tick.counter ∧ (State.tickMarkers s was realign drift wrapped).tick.on = s.tick.on ∧ (State.tickMarkers s was realign drift wrapped).tick.part = s.tick.part := by
  unfold State.tickMarkers; (try dsimp only); all_goals ((repeat' split) <;> simp)
@[simp] theorem State.stopAll_keeps (s : State) (why : Reason) :
    (State.stopAll s why).boot = s.boot ∧ (State.stopAll s why).pending = s.pending ∧ (State.stopAll s why).lock.fuse = s.lock.fuse ∧ (State.stopAll s why).active = s.active ∧ (State.stopAll s why).tick.counter = s.tick.counter ∧ (State.stopAll s why).tick.on = s.tick.on ∧ (State.stopAll s why).tick.part = s.tick.part := by
  unfold State.stopAll; (try dsimp only); all_goals ((repeat' split) <;> simp)
@[simp] theorem State.integrityStop_keeps (s : State) (cause : BitVec 8) :
    (State.integrityStop s cause).boot = s.boot ∧ (State.integrityStop s cause).pending = s.pending ∧ (State.integrityStop s cause).lock.fuse = s.lock.fuse ∧ (State.integrityStop s cause).active = s.active ∧ (State.integrityStop s cause).tick.counter = s.tick.counter ∧ (State.integrityStop s cause).tick.on = s.tick.on ∧ (State.integrityStop s cause).tick.part = s.tick.part := by
  unfold State.integrityStop; (try dsimp only); all_goals ((repeat' split) <;> simp)
@[simp] theorem State.writeWheyNow_keeps (s : State) :
    (State.writeWheyNow s).boot = s.boot ∧ (State.writeWheyNow s).pending = s.pending ∧ (State.writeWheyNow s).lock.fuse = s.lock.fuse ∧ (State.writeWheyNow s).active = s.active ∧ (State.writeWheyNow s).tick.counter = s.tick.counter ∧ (State.writeWheyNow s).tick.on = s.tick.on ∧ (State.writeWheyNow s).tick.part = s.tick.part := by
  unfold State.writeWheyNow; (try dsimp only); all_goals ((repeat' split) <;> simp)
@[simp] theorem State.supplyStamp_keeps (s0 : State) (avddUv vioMv : Nat) :
    (State.supplyStamp s0 avddUv vioMv).boot = s0.boot ∧ (State.supplyStamp s0 avddUv vioMv).pending = s0.pending ∧ (State.supplyStamp s0 avddUv vioMv).lock.fuse = s0.lock.fuse ∧ (State.supplyStamp s0 avddUv vioMv).active = s0.active ∧ (State.supplyStamp s0 avddUv vioMv).tick.counter = s0.tick.counter ∧ (State.supplyStamp s0 avddUv vioMv).tick.on = s0.tick.on ∧ (State.supplyStamp s0 avddUv vioMv).tick.part = s0.tick.part := by
  unfold State.supplyStamp; (try dsimp only); all_goals ((repeat' split) <;> simp)
@[simp] theorem State.countMismatch_keeps (s : State) :
    (State.countMismatch s).boot = s.boot ∧ (State.countMismatch s).pending = s.pending ∧ (State.countMismatch s).lock.fuse = s.lock.fuse ∧ (State.countMismatch s).active = s.active ∧ (State.countMismatch s).tick.counter = s.tick.counter ∧ (State.countMismatch s).tick.on = s.tick.on ∧ (State.countMismatch s).tick.part = s.tick.part := by
  unfold State.countMismatch; (try dsimp only); all_goals ((repeat' split) <;> simp)
@[simp] theorem State.rindMismatch_keeps (s : State) (cause : BitVec 8) :
    (State.rindMismatch s cause).boot = s.boot ∧ (State.rindMismatch s cause).pending = s.pending ∧ (State.rindMismatch s cause).lock.fuse = s.lock.fuse ∧ (State.rindMismatch s cause).active = s.active ∧ (State.rindMismatch s cause).tick.counter = s.tick.counter ∧ (State.rindMismatch s cause).tick.on = s.tick.on ∧ (State.rindMismatch s cause).tick.part = s.tick.part := by
  unfold State.rindMismatch; (try dsimp only); all_goals ((repeat' split) <;> simp)
@[simp] theorem State.rindCheck_keeps (s : State) (signatureDiffers configDiffers : Bool) :
    (State.rindCheck s signatureDiffers configDiffers).boot = s.boot ∧ (State.rindCheck s signatureDiffers configDiffers).pending = s.pending ∧ (State.rindCheck s signatureDiffers configDiffers).lock.fuse = s.lock.fuse ∧ (State.rindCheck s signatureDiffers configDiffers).active = s.active ∧ (State.rindCheck s signatureDiffers configDiffers).tick.counter = s.tick.counter ∧ (State.rindCheck s signatureDiffers configDiffers).tick.on = s.tick.on ∧ (State.rindCheck s signatureDiffers configDiffers).tick.part = s.tick.part := by
  unfold State.rindCheck; (try dsimp only); all_goals ((repeat' split) <;> simp)
@[simp] theorem State.stopClear_keeps (s : State) :
    (State.stopClear s).boot = s.boot ∧ (State.stopClear s).pending = s.pending ∧ (State.stopClear s).lock.fuse = s.lock.fuse ∧ (State.stopClear s).active = s.active ∧ (State.stopClear s).tick.counter = s.tick.counter ∧ (State.stopClear s).tick.on = s.tick.on ∧ (State.stopClear s).tick.part = s.tick.part := by
  unfold State.stopClear; (try dsimp only); all_goals ((repeat' split) <;> simp)
@[simp] theorem State.sweepComplete_keeps (s0 : State) (mismatch : Bool) (cyc : Nat) :
    (State.sweepComplete s0 mismatch cyc).boot = s0.boot ∧ (State.sweepComplete s0 mismatch cyc).pending = s0.pending ∧ (State.sweepComplete s0 mismatch cyc).lock.fuse = s0.lock.fuse ∧ (State.sweepComplete s0 mismatch cyc).active = s0.active ∧ (State.sweepComplete s0 mismatch cyc).tick.counter = s0.tick.counter ∧ (State.sweepComplete s0 mismatch cyc).tick.on = s0.tick.on ∧ (State.sweepComplete s0 mismatch cyc).tick.part = s0.tick.part := by
  unfold State.sweepComplete; (try dsimp only); all_goals ((repeat' split) <;> simp)
@[simp] theorem State.reinitialise_keeps (s : State) :
    (State.reinitialise s).boot = s.boot ∧ (State.reinitialise s).pending = s.pending ∧ (State.reinitialise s).lock.fuse = s.lock.fuse ∧ (State.reinitialise s).active = s.active ∧ (State.reinitialise s).tick.counter = s.tick.counter ∧ (State.reinitialise s).tick.on = s.tick.on ∧ (State.reinitialise s).tick.part = s.tick.part := by
  unfold State.reinitialise; (try dsimp only); all_goals ((repeat' split) <;> simp)
@[simp] theorem State.clearStops_keeps (s : State) :
    (State.clearStops s).boot = s.boot ∧ (State.clearStops s).pending = s.pending ∧ (State.clearStops s).lock.fuse = s.lock.fuse ∧ (State.clearStops s).active = s.active ∧ (State.clearStops s).tick.counter = s.tick.counter ∧ (State.clearStops s).tick.on = s.tick.on ∧ (State.clearStops s).tick.part = s.tick.part := by
  unfold State.clearStops; (try dsimp only); all_goals ((repeat' split) <;> simp)
@[simp] theorem State.dieReading_keeps (s : State) (centi : Int) :
    (State.dieReading s centi).boot = s.boot ∧ (State.dieReading s centi).pending = s.pending ∧ (State.dieReading s centi).lock.fuse = s.lock.fuse ∧ (State.dieReading s centi).active = s.active ∧ (State.dieReading s centi).tick.counter = s.tick.counter ∧ (State.dieReading s centi).tick.on = s.tick.on ∧ (State.dieReading s centi).tick.part = s.tick.part := by
  unfold State.dieReading; (try dsimp only); all_goals ((repeat' split) <;> simp)
@[simp] theorem State.thermalStop_keeps (s : State) :
    (State.thermalStop s).boot = s.boot ∧ (State.thermalStop s).pending = s.pending ∧ (State.thermalStop s).lock.fuse = s.lock.fuse ∧ (State.thermalStop s).active = s.active ∧ (State.thermalStop s).tick.counter = s.tick.counter ∧ (State.thermalStop s).tick.on = s.tick.on ∧ (State.thermalStop s).tick.part = s.tick.part := by
  unfold State.thermalStop; (try dsimp only); all_goals ((repeat' split) <;> simp)
@[simp] theorem State.thermalShutdown_keeps (s : State) :
    (State.thermalShutdown s).boot = s.boot ∧ (State.thermalShutdown s).pending = s.pending ∧ (State.thermalShutdown s).lock.fuse = s.lock.fuse ∧ (State.thermalShutdown s).active = s.active ∧ (State.thermalShutdown s).tick.counter = s.tick.counter ∧ (State.thermalShutdown s).tick.on = s.tick.on ∧ (State.thermalShutdown s).tick.part = s.tick.part := by
  unfold State.thermalShutdown; (try dsimp only); all_goals ((repeat' split) <;> simp)
@[simp] theorem State.shutdownClear_keeps (s : State) :
    (State.shutdownClear s).boot = s.boot ∧ (State.shutdownClear s).pending = s.pending ∧ (State.shutdownClear s).lock.fuse = s.lock.fuse ∧ (State.shutdownClear s).active = s.active ∧ (State.shutdownClear s).tick.counter = s.tick.counter ∧ (State.shutdownClear s).tick.on = s.tick.on ∧ (State.shutdownClear s).tick.part = s.tick.part := by
  unfold State.shutdownClear; (try dsimp only); all_goals ((repeat' split) <;> simp)
@[simp] theorem State.coreStop_keeps (s : State) :
    (State.coreStop s).boot = s.boot ∧ (State.coreStop s).pending = s.pending ∧ (State.coreStop s).lock.fuse = s.lock.fuse ∧ (State.coreStop s).active = s.active ∧ (State.coreStop s).tick.counter = s.tick.counter ∧ (State.coreStop s).tick.part = s.tick.part := by
  unfold State.coreStop; (try dsimp only); all_goals ((repeat' split) <;> simp)
@[simp] theorem State.clockStop_keeps (s : State) (cause : Nat) :
    (State.clockStop s cause).boot = s.boot ∧ (State.clockStop s cause).pending = s.pending ∧ (State.clockStop s cause).lock.fuse = s.lock.fuse ∧ (State.clockStop s cause).active = s.active ∧ (State.clockStop s cause).tick.counter = s.tick.counter ∧ (State.clockStop s cause).tick.part = s.tick.part := by
  unfold State.clockStop; (try dsimp only); all_goals ((repeat' split) <;> (first | (simp; done) | (refine ⟨?_, ?_, ?_, ?_, ?_, ?_⟩ <;> (first | (simp; done) | ((refine (foldl_keeps_boot _ _ _ ?_).trans ?_) <;> intros <;> (repeat' split) <;> simp; done) | ((refine (foldl_keeps_pending _ _ _ ?_).trans ?_) <;> intros <;> (repeat' split) <;> simp; done) | ((refine (foldl_keeps_lock_fuse _ _ _ ?_).trans ?_) <;> intros <;> (repeat' split) <;> simp; done) | ((refine (foldl_keeps_active _ _ _ ?_).trans ?_) <;> intros <;> (repeat' split) <;> simp; done) | ((refine (foldl_keeps_tick_counter _ _ _ ?_).trans ?_) <;> intros <;> (repeat' split) <;> simp; done) | ((refine (foldl_keeps_tick_part _ _ _ ?_).trans ?_) <;> intros <;> (repeat' split) <;> simp; done)))))
@[simp] theorem State.clockFaultIn_keeps (s : State) (cause : ClockCause) (cyc : Nat) :
    (State.clockFaultIn s cause cyc).boot = s.boot ∧ (State.clockFaultIn s cause cyc).pending = s.pending ∧ (State.clockFaultIn s cause cyc).lock.fuse = s.lock.fuse ∧ (State.clockFaultIn s cause cyc).active = s.active ∧ (State.clockFaultIn s cause cyc).tick.counter = s.tick.counter ∧ (State.clockFaultIn s cause cyc).tick.part = s.tick.part := by
  unfold State.clockFaultIn; (try dsimp only); all_goals ((repeat' split) <;> simp)
@[simp] theorem State.alwaysOnLoss_keeps (s : State) (hz : BitVec 16) :
    (State.alwaysOnLoss s hz).boot = s.boot ∧ (State.alwaysOnLoss s hz).pending = s.pending ∧ (State.alwaysOnLoss s hz).lock.fuse = s.lock.fuse ∧ (State.alwaysOnLoss s hz).active = s.active ∧ (State.alwaysOnLoss s hz).tick.counter = s.tick.counter ∧ (State.alwaysOnLoss s hz).tick.on = s.tick.on ∧ (State.alwaysOnLoss s hz).tick.part = s.tick.part := by
  unfold State.alwaysOnLoss; (try dsimp only); all_goals ((repeat' split) <;> simp)
@[simp] theorem State.alwaysOnRecovery_keeps (s : State) (hz : BitVec 16) :
    (State.alwaysOnRecovery s hz).boot = s.boot ∧ (State.alwaysOnRecovery s hz).pending = s.pending ∧ (State.alwaysOnRecovery s hz).lock.fuse = s.lock.fuse ∧ (State.alwaysOnRecovery s hz).active = s.active ∧ (State.alwaysOnRecovery s hz).tick.counter = s.tick.counter ∧ (State.alwaysOnRecovery s hz).tick.on = s.tick.on ∧ (State.alwaysOnRecovery s hz).tick.part = s.tick.part := by
  unfold State.alwaysOnRecovery; (try dsimp only); all_goals ((repeat' split) <;> simp)
@[simp] theorem State.xoRestart_keeps (s : State) :
    (State.xoRestart s).boot = s.boot ∧ (State.xoRestart s).pending = s.pending ∧ (State.xoRestart s).lock.fuse = s.lock.fuse ∧ (State.xoRestart s).active = s.active ∧ (State.xoRestart s).tick.counter = s.tick.counter ∧ (State.xoRestart s).tick.on = s.tick.on ∧ (State.xoRestart s).tick.part = s.tick.part := by
  unfold State.xoRestart; (try dsimp only); all_goals ((repeat' split) <;> simp)
@[simp] theorem State.samplerBack_keeps (s : State) :
    (State.samplerBack s).boot = s.boot ∧ (State.samplerBack s).pending = s.pending ∧ (State.samplerBack s).lock.fuse = s.lock.fuse ∧ (State.samplerBack s).active = s.active ∧ (State.samplerBack s).tick.counter = s.tick.counter ∧ (State.samplerBack s).tick.on = s.tick.on ∧ (State.samplerBack s).tick.part = s.tick.part := by
  unfold State.samplerBack; (try dsimp only); all_goals ((repeat' split) <;> simp)
@[simp] theorem State.pllLock_keeps (s : State) (external : Bool) :
    (State.pllLock s external).boot = s.boot ∧ (State.pllLock s external).pending = s.pending ∧ (State.pllLock s external).lock.fuse = s.lock.fuse ∧ (State.pllLock s external).active = s.active ∧ (State.pllLock s external).tick.counter = s.tick.counter ∧ (State.pllLock s external).tick.on = s.tick.on ∧ (State.pllLock s external).tick.part = s.tick.part := by
  unfold State.pllLock; (try dsimp only); all_goals ((repeat' split) <;> simp)
@[simp] theorem State.selfCheckRestart_keeps (s : State) :
    (State.selfCheckRestart s).boot = s.boot ∧ (State.selfCheckRestart s).pending = s.pending ∧ (State.selfCheckRestart s).lock.fuse = s.lock.fuse ∧ (State.selfCheckRestart s).active = s.active ∧ (State.selfCheckRestart s).tick.counter = s.tick.counter ∧ (State.selfCheckRestart s).tick.on = s.tick.on ∧ (State.selfCheckRestart s).tick.part = s.tick.part := by
  unfold State.selfCheckRestart; (try dsimp only); all_goals ((repeat' split) <;> simp)
@[simp] theorem State.selfCheckQualified_keeps (s : State) (khz : BitVec 16) :
    (State.selfCheckQualified s khz).boot = s.boot ∧ (State.selfCheckQualified s khz).pending = s.pending ∧ (State.selfCheckQualified s khz).lock.fuse = s.lock.fuse ∧ (State.selfCheckQualified s khz).active = s.active ∧ (State.selfCheckQualified s khz).tick.counter = s.tick.counter ∧ (State.selfCheckQualified s khz).tick.on = s.tick.on ∧ (State.selfCheckQualified s khz).tick.part = s.tick.part := by
  unfold State.selfCheckQualified; (try dsimp only); all_goals ((repeat' split) <;> simp)
@[simp] theorem State.coreStopEvent_keeps (s : State) :
    (State.coreStopEvent s).boot = s.boot ∧ (State.coreStopEvent s).pending = s.pending ∧ (State.coreStopEvent s).lock.fuse = s.lock.fuse ∧ (State.coreStopEvent s).active = s.active ∧ (State.coreStopEvent s).tick.counter = s.tick.counter ∧ (State.coreStopEvent s).tick.part = s.tick.part := by
  unfold State.coreStopEvent; (try dsimp only); all_goals ((repeat' split) <;> simp)
@[simp] theorem State.powerRequest_keeps (s : State) (p : Power) (v cyc : Nat) :
    (State.powerRequest s p v cyc).boot = s.boot ∧ (State.powerRequest s p v cyc).pending = s.pending ∧ (State.powerRequest s p v cyc).lock.fuse = s.lock.fuse ∧ (State.powerRequest s p v cyc).active = s.active ∧ (State.powerRequest s p v cyc).tick.counter = s.tick.counter ∧ (State.powerRequest s p v cyc).tick.on = s.tick.on ∧ (State.powerRequest s p v cyc).tick.part = s.tick.part := by
  unfold State.powerRequest; (try dsimp only); all_goals ((repeat' split) <;> simp)
@[simp] theorem State.powerBoundary_keeps (s : State) :
    (State.powerBoundary s).boot = s.boot ∧ (State.powerBoundary s).pending = s.pending ∧ (State.powerBoundary s).lock.fuse = s.lock.fuse ∧ (State.powerBoundary s).active = s.active ∧ (State.powerBoundary s).tick.counter = s.tick.counter ∧ (State.powerBoundary s).tick.on = s.tick.on ∧ (State.powerBoundary s).tick.part = s.tick.part := by
  unfold State.powerBoundary; (try dsimp only); all_goals ((repeat' split) <;> simp)
@[simp] theorem State.leaveLanes_keeps (s : State) :
    (State.leaveLanes s).boot = s.boot ∧ (State.leaveLanes s).pending = s.pending ∧ (State.leaveLanes s).lock.fuse = s.lock.fuse ∧ (State.leaveLanes s).active = s.active ∧ (State.leaveLanes s).tick.counter = s.tick.counter ∧ (State.leaveLanes s).tick.on = s.tick.on ∧ (State.leaveLanes s).tick.part = s.tick.part := by
  unfold State.leaveLanes; (try dsimp only); all_goals ((repeat' split) <;> simp)
@[simp] theorem State.dozeEntry_keeps (s : State) :
    (State.dozeEntry s).boot = s.boot ∧ (State.dozeEntry s).pending = s.pending ∧ (State.dozeEntry s).lock.fuse = s.lock.fuse ∧ (State.dozeEntry s).active = s.active ∧ (State.dozeEntry s).tick.counter = s.tick.counter ∧ (State.dozeEntry s).tick.on = s.tick.on ∧ (State.dozeEntry s).tick.part = s.tick.part := by
  unfold State.dozeEntry; (try dsimp only); all_goals ((repeat' split) <;> simp)
@[simp] theorem State.standbyEntry_keeps (s : State) :
    (State.standbyEntry s).boot = s.boot ∧ (State.standbyEntry s).pending = s.pending ∧ (State.standbyEntry s).lock.fuse = s.lock.fuse ∧ (State.standbyEntry s).active = s.active ∧ (State.standbyEntry s).tick.counter = s.tick.counter ∧ (State.standbyEntry s).tick.part = s.tick.part := by
  unfold State.standbyEntry; (try dsimp only); all_goals ((repeat' split) <;> (first | (simp; done) | (refine ⟨?_, ?_, ?_, ?_, ?_, ?_⟩ <;> (first | (simp; done) | ((refine (foldl_keeps_boot _ _ _ ?_).trans ?_) <;> intros <;> (repeat' split) <;> simp; done) | ((refine (foldl_keeps_pending _ _ _ ?_).trans ?_) <;> intros <;> (repeat' split) <;> simp; done) | ((refine (foldl_keeps_lock_fuse _ _ _ ?_).trans ?_) <;> intros <;> (repeat' split) <;> simp; done) | ((refine (foldl_keeps_active _ _ _ ?_).trans ?_) <;> intros <;> (repeat' split) <;> simp; done) | ((refine (foldl_keeps_tick_counter _ _ _ ?_).trans ?_) <;> intros <;> (repeat' split) <;> simp; done) | ((refine (foldl_keeps_tick_part _ _ _ ?_).trans ?_) <;> intros <;> (repeat' split) <;> simp; done)))))
@[simp] theorem State.wakeRequest_keeps (s : State) (k cycles : Nat) :
    (State.wakeRequest s k cycles).boot = s.boot ∧ (State.wakeRequest s k cycles).pending = s.pending ∧ (State.wakeRequest s k cycles).lock.fuse = s.lock.fuse ∧ (State.wakeRequest s k cycles).active = s.active ∧ (State.wakeRequest s k cycles).tick.counter = s.tick.counter ∧ (State.wakeRequest s k cycles).tick.on = s.tick.on ∧ (State.wakeRequest s k cycles).tick.part = s.tick.part := by
  unfold State.wakeRequest; (try dsimp only); all_goals ((repeat' split) <;> simp)
@[simp] theorem State.devRecord_keeps (s : State) (state : FieldLock) (count : Nat) (own : Bool) :
    (State.devRecord s state count own).boot = s.boot ∧ (State.devRecord s state count own).pending = s.pending ∧ (State.devRecord s state count own).lock.fuse = s.lock.fuse ∧ (State.devRecord s state count own).active = s.active ∧ (State.devRecord s state count own).tick.counter = s.tick.counter ∧ (State.devRecord s state count own).tick.on = s.tick.on ∧ (State.devRecord s state count own).tick.part = s.tick.part := by
  unfold State.devRecord; (try dsimp only); all_goals ((repeat' split) <;> simp)
@[simp] theorem State.lockChange_keeps (s : State) (f : FieldLock) (count : Nat) (unlock : Nat) :
    (State.lockChange s f count unlock).boot = s.boot ∧ (State.lockChange s f count unlock).pending = s.pending ∧ (State.lockChange s f count unlock).lock.fuse = s.lock.fuse ∧ (State.lockChange s f count unlock).active = s.active ∧ (State.lockChange s f count unlock).tick.counter = s.tick.counter ∧ (State.lockChange s f count unlock).tick.on = s.tick.on ∧ (State.lockChange s f count unlock).tick.part = s.tick.part := by
  unfold State.lockChange; (try dsimp only); all_goals ((repeat' split) <;> simp)
@[simp] theorem State.sealDevice_keeps (s : State) :
    (State.sealDevice s).boot = s.boot ∧ (State.sealDevice s).pending = s.pending ∧ (State.sealDevice s).active = s.active ∧ (State.sealDevice s).tick.counter = s.tick.counter ∧ (State.sealDevice s).tick.on = s.tick.on ∧ (State.sealDevice s).tick.part = s.tick.part := by
  unfold State.sealDevice; (try dsimp only); all_goals ((repeat' split) <;> simp)
@[simp] theorem State.relockDevice_keeps (s : State) :
    (State.relockDevice s).boot = s.boot ∧ (State.relockDevice s).pending = s.pending ∧ (State.relockDevice s).lock.fuse = s.lock.fuse ∧ (State.relockDevice s).active = s.active ∧ (State.relockDevice s).tick.counter = s.tick.counter ∧ (State.relockDevice s).tick.on = s.tick.on ∧ (State.relockDevice s).tick.part = s.tick.part := by
  unfold State.relockDevice; (try dsimp only); all_goals ((repeat' split) <;> simp)
@[simp] theorem State.spendChallenge_keeps (s : State) :
    (State.spendChallenge s).boot = s.boot ∧ (State.spendChallenge s).pending = s.pending ∧ (State.spendChallenge s).lock.fuse = s.lock.fuse ∧ (State.spendChallenge s).active = s.active ∧ (State.spendChallenge s).tick.counter = s.tick.counter ∧ (State.spendChallenge s).tick.on = s.tick.on ∧ (State.spendChallenge s).tick.part = s.tick.part := by
  unfold State.spendChallenge; (try dsimp only); all_goals ((repeat' split) <;> simp)
@[simp] theorem State.attempt_keeps (s : State) (response : Bool) (value : BitVec 128) :
    (State.attempt s response value).boot = s.boot ∧ (State.attempt s response value).pending = s.pending ∧ (State.attempt s response value).active = s.active ∧ (State.attempt s response value).tick.counter = s.tick.counter ∧ (State.attempt s response value).tick.on = s.tick.on ∧ (State.attempt s response value).tick.part = s.tick.part := by
  unfold State.attempt; (try dsimp only); all_goals ((repeat' split) <;> simp)
@[simp] theorem State.judgeAttempt_keeps (s : State) (a : Attempt) :
    (State.judgeAttempt s a).boot = s.boot ∧ (State.judgeAttempt s a).pending = s.pending ∧ (State.judgeAttempt s a).active = s.active ∧ (State.judgeAttempt s a).tick.counter = s.tick.counter ∧ (State.judgeAttempt s a).tick.on = s.tick.on ∧ (State.judgeAttempt s a).tick.part = s.tick.part := by
  unfold State.judgeAttempt; (try dsimp only); all_goals ((repeat' split) <;> simp)
@[simp] theorem State.unlockVerdict_keeps (s : State) :
    (State.unlockVerdict s).boot = s.boot ∧ (State.unlockVerdict s).pending = s.pending ∧ (State.unlockVerdict s).active = s.active ∧ (State.unlockVerdict s).tick.counter = s.tick.counter ∧ (State.unlockVerdict s).tick.on = s.tick.on ∧ (State.unlockVerdict s).tick.part = s.tick.part := by
  unfold State.unlockVerdict; (try dsimp only); all_goals ((repeat' split) <;> simp)
@[simp] theorem State.backOffEnd_keeps (s : State) :
    (State.backOffEnd s).boot = s.boot ∧ (State.backOffEnd s).pending = s.pending ∧ (State.backOffEnd s).lock.fuse = s.lock.fuse ∧ (State.backOffEnd s).active = s.active ∧ (State.backOffEnd s).tick.counter = s.tick.counter ∧ (State.backOffEnd s).tick.on = s.tick.on ∧ (State.backOffEnd s).tick.part = s.tick.part := by
  unfold State.backOffEnd; (try dsimp only); all_goals ((repeat' split) <;> simp)
@[simp] theorem State.unlockExpiry_keeps (s : State) :
    (State.unlockExpiry s).boot = s.boot ∧ (State.unlockExpiry s).pending = s.pending ∧ (State.unlockExpiry s).lock.fuse = s.lock.fuse ∧ (State.unlockExpiry s).active = s.active ∧ (State.unlockExpiry s).tick.counter = s.tick.counter ∧ (State.unlockExpiry s).tick.on = s.tick.on ∧ (State.unlockExpiry s).tick.part = s.tick.part := by
  unfold State.unlockExpiry; (try dsimp only); all_goals ((repeat' split) <;> simp)
@[simp] theorem State.challengeExpiry_keeps (s : State) :
    (State.challengeExpiry s).boot = s.boot ∧ (State.challengeExpiry s).pending = s.pending ∧ (State.challengeExpiry s).lock.fuse = s.lock.fuse ∧ (State.challengeExpiry s).active = s.active ∧ (State.challengeExpiry s).tick.counter = s.tick.counter ∧ (State.challengeExpiry s).tick.on = s.tick.on ∧ (State.challengeExpiry s).tick.part = s.tick.part := by
  unfold State.challengeExpiry; (try dsimp only); all_goals ((repeat' split) <;> simp)
@[simp] theorem State.newChallenge_keeps (s : State) :
    (State.newChallenge s).boot = s.boot ∧ (State.newChallenge s).pending = s.pending ∧ (State.newChallenge s).lock.fuse = s.lock.fuse ∧ (State.newChallenge s).active = s.active ∧ (State.newChallenge s).tick.counter = s.tick.counter ∧ (State.newChallenge s).tick.on = s.tick.on ∧ (State.newChallenge s).tick.part = s.tick.part := by
  unfold State.newChallenge; (try dsimp only); all_goals ((repeat' split) <;> simp)
@[simp] theorem State.lockServed_keeps (s : State) (p : Port) :
    (State.lockServed s p).boot = s.boot ∧ (State.lockServed s p).pending = s.pending ∧ (State.lockServed s p).lock.fuse = s.lock.fuse ∧ (State.lockServed s p).active = s.active ∧ (State.lockServed s p).tick.counter = s.tick.counter ∧ (State.lockServed s p).tick.on = s.tick.on ∧ (State.lockServed s p).tick.part = s.tick.part := by
  unfold State.lockServed; (try dsimp only); all_goals ((repeat' split) <;> simp)
@[simp] theorem State.noteRelay_keeps (s : State) (via : Via) (served : Bool) :
    (State.noteRelay s via served).boot = s.boot ∧ (State.noteRelay s via served).pending = s.pending ∧ (State.noteRelay s via served).lock.fuse = s.lock.fuse ∧ (State.noteRelay s via served).active = s.active ∧ (State.noteRelay s via served).tick.counter = s.tick.counter ∧ (State.noteRelay s via served).tick.on = s.tick.on ∧ (State.noteRelay s via served).tick.part = s.tick.part := by
  unfold State.noteRelay; (try dsimp only); all_goals ((repeat' split) <;> simp)
@[simp] theorem State.refuse_keeps (s : State) (via : Via) (idx sub code : Nat) (abort : Bool) :
    (State.refuse s via idx sub code abort).boot = s.boot ∧ (State.refuse s via idx sub code abort).pending = s.pending ∧ (State.refuse s via idx sub code abort).lock.fuse = s.lock.fuse ∧ (State.refuse s via idx sub code abort).active = s.active ∧ (State.refuse s via idx sub code abort).tick.counter = s.tick.counter ∧ (State.refuse s via idx sub code abort).tick.on = s.tick.on ∧ (State.refuse s via idx sub code abort).tick.part = s.tick.part := by
  unfold State.refuse; (try dsimp only); all_goals ((repeat' split) <;> simp)
@[simp] theorem State.complete_keeps (s : State) (via : Via) :
    (State.complete s via).boot = s.boot ∧ (State.complete s via).pending = s.pending ∧ (State.complete s via).lock.fuse = s.lock.fuse ∧ (State.complete s via).active = s.active ∧ (State.complete s via).tick.counter = s.tick.counter ∧ (State.complete s via).tick.on = s.tick.on ∧ (State.complete s via).tick.part = s.tick.part := by
  unfold State.complete; (try dsimp only); all_goals ((repeat' split) <;> simp)
@[simp] theorem State.galtSend_keeps (s : State) (typ dst : Nat) (payload : List Byte) :
    (State.galtSend s typ dst payload).boot = s.boot ∧ (State.galtSend s typ dst payload).pending = s.pending ∧ (State.galtSend s typ dst payload).lock.fuse = s.lock.fuse ∧ (State.galtSend s typ dst payload).active = s.active ∧ (State.galtSend s typ dst payload).tick.counter = s.tick.counter ∧ (State.galtSend s typ dst payload).tick.on = s.tick.on ∧ (State.galtSend s typ dst payload).tick.part = s.tick.part := by
  unfold State.galtSend; (try dsimp only); all_goals ((repeat' split) <;> simp)
@[simp] theorem State.sendCredit_keeps (s : State) (o : OriginRt) :
    (State.sendCredit s o).boot = s.boot ∧ (State.sendCredit s o).pending = s.pending ∧ (State.sendCredit s o).lock.fuse = s.lock.fuse ∧ (State.sendCredit s o).active = s.active ∧ (State.sendCredit s o).tick.counter = s.tick.counter ∧ (State.sendCredit s o).tick.on = s.tick.on ∧ (State.sendCredit s o).tick.part = s.tick.part := by
  unfold State.sendCredit; (try dsimp only); all_goals ((repeat' split) <;> simp)
@[simp] theorem State.passCredits_keeps (s : State) (ring : Nat) (recs : List Rec) :
    (State.passCredits s ring recs).boot = s.boot ∧ (State.passCredits s ring recs).pending = s.pending ∧ (State.passCredits s ring recs).lock.fuse = s.lock.fuse ∧ (State.passCredits s ring recs).active = s.active ∧ (State.passCredits s ring recs).tick.counter = s.tick.counter ∧ (State.passCredits s ring recs).tick.on = s.tick.on ∧ (State.passCredits s ring recs).tick.part = s.tick.part := by
  unfold State.passCredits; (try dsimp only); all_goals ((repeat' split) <;> simp)
@[simp] theorem State.returnCredits_keeps (s : State) (r n : Nat) :
    (State.returnCredits s r n).boot = s.boot ∧ (State.returnCredits s r n).pending = s.pending ∧ (State.returnCredits s r n).lock.fuse = s.lock.fuse ∧ (State.returnCredits s r n).active = s.active ∧ (State.returnCredits s r n).tick.counter = s.tick.counter ∧ (State.returnCredits s r n).tick.on = s.tick.on ∧ (State.returnCredits s r n).tick.part = s.tick.part := by
  unfold State.returnCredits; (try dsimp only); all_goals ((repeat' split) <;> simp)
@[simp] theorem State.calStart_keeps (s : State) (kind : CalKind) :
    (State.calStart s kind).boot = s.boot ∧ (State.calStart s kind).pending = s.pending ∧ (State.calStart s kind).lock.fuse = s.lock.fuse ∧ (State.calStart s kind).active = s.active ∧ (State.calStart s kind).tick.counter = s.tick.counter ∧ (State.calStart s kind).tick.on = s.tick.on ∧ (State.calStart s kind).tick.part = s.tick.part := by
  unfold State.calStart; (try dsimp only); all_goals ((repeat' split) <;> simp)
@[simp] theorem State.calRequest_keeps (s : State) (v : Nat) :
    (State.calRequest s v).boot = s.boot ∧ (State.calRequest s v).pending = s.pending ∧ (State.calRequest s v).lock.fuse = s.lock.fuse ∧ (State.calRequest s v).active = s.active ∧ (State.calRequest s v).tick.counter = s.tick.counter ∧ (State.calRequest s v).tick.on = s.tick.on ∧ (State.calRequest s v).tick.part = s.tick.part := by
  unfold State.calRequest; (try dsimp only); all_goals ((repeat' split) <;> simp)
@[simp] theorem State.swapRequest_keeps (s : State) (p cyc : Nat) :
    (State.swapRequest s p cyc).boot = s.boot ∧ (State.swapRequest s p cyc).pending = s.pending ∧ (State.swapRequest s p cyc).lock.fuse = s.lock.fuse ∧ (State.swapRequest s p cyc).active = s.active ∧ (State.swapRequest s p cyc).tick.counter = s.tick.counter ∧ (State.swapRequest s p cyc).tick.on = s.tick.on ∧ (State.swapRequest s p cyc).tick.part = s.tick.part := by
  unfold State.swapRequest; (try dsimp only); all_goals ((repeat' split) <;> simp)
@[simp] theorem State.totClear_keeps (s : State) (p : Nat) :
    (State.totClear s p).boot = s.boot ∧ (State.totClear s p).pending = s.pending ∧ (State.totClear s p).lock.fuse = s.lock.fuse ∧ (State.totClear s p).active = s.active ∧ (State.totClear s p).tick.counter = s.tick.counter ∧ (State.totClear s p).tick.on = s.tick.on ∧ (State.totClear s p).tick.part = s.tick.part := by
  unfold State.totClear; (try dsimp only); all_goals ((repeat' split) <;> simp)
@[simp] theorem State.genWrite_keeps (s : State) (g sub v cyc : Nat) :
    (State.genWrite s g sub v cyc).boot = s.boot ∧ (State.genWrite s g sub v cyc).pending = s.pending ∧ (State.genWrite s g sub v cyc).lock.fuse = s.lock.fuse ∧ (State.genWrite s g sub v cyc).active = s.active ∧ (State.genWrite s g sub v cyc).tick.counter = s.tick.counter ∧ (State.genWrite s g sub v cyc).tick.on = s.tick.on ∧ (State.genWrite s g sub v cyc).tick.part = s.tick.part := by
  unfold State.genWrite; (try dsimp only); all_goals ((repeat' split) <;> simp)
@[simp] theorem State.genArmWrite_keeps (s : State) (g v : Nat) :
    (State.genArmWrite s g v).boot = s.boot ∧ (State.genArmWrite s g v).pending = s.pending ∧ (State.genArmWrite s g v).lock.fuse = s.lock.fuse ∧ (State.genArmWrite s g v).active = s.active ∧ (State.genArmWrite s g v).tick.counter = s.tick.counter ∧ (State.genArmWrite s g v).tick.on = s.tick.on ∧ (State.genArmWrite s g v).tick.part = s.tick.part := by
  unfold State.genArmWrite; (try dsimp only); all_goals ((repeat' split) <;> simp)
@[simp] theorem State.setLive_keeps (s : State) (idx sub v : Nat) :
    (State.setLive s idx sub v).boot = s.boot ∧ (State.setLive s idx sub v).pending = s.pending ∧ (State.setLive s idx sub v).lock.fuse = s.lock.fuse ∧ (State.setLive s idx sub v).active = s.active ∧ (State.setLive s idx sub v).tick.counter = s.tick.counter ∧ (State.setLive s idx sub v).tick.on = s.tick.on ∧ (State.setLive s idx sub v).tick.part = s.tick.part := by
  unfold State.setLive; (try dsimp only); all_goals ((repeat' split) <;> simp)
@[simp] theorem State.liveLow_keeps (s : State) (via : Via) (idx sub v : Nat) :
    (State.liveLow s via idx sub v).boot = s.boot ∧ (State.liveLow s via idx sub v).pending = s.pending ∧ (State.liveLow s via idx sub v).lock.fuse = s.lock.fuse ∧ (State.liveLow s via idx sub v).active = s.active ∧ (State.liveLow s via idx sub v).tick.counter = s.tick.counter ∧ (State.liveLow s via idx sub v).tick.on = s.tick.on ∧ (State.liveLow s via idx sub v).tick.part = s.tick.part := by
  unfold State.liveLow; (try dsimp only); all_goals ((repeat' split) <;> simp)
@[simp] theorem State.liveHigh_keeps (s : State) (via : Via) (idx sub v : Nat) :
    (State.liveHigh s via idx sub v).boot = s.boot ∧ (State.liveHigh s via idx sub v).pending = s.pending ∧ (State.liveHigh s via idx sub v).active = s.active ∧ (State.liveHigh s via idx sub v).tick.counter = s.tick.counter ∧ (State.liveHigh s via idx sub v).tick.on = s.tick.on ∧ (State.liveHigh s via idx sub v).tick.part = s.tick.part := by
  unfold State.liveHigh
  repeat' apply ite_keeps_live
  all_goals simp
@[simp] theorem State.writeEffect_keeps (s : State) (via : Via) (idx sub : Nat) (e : Entry) (v : Nat) :
    (State.writeEffect s via idx sub e v).boot = s.boot ∧ (State.writeEffect s via idx sub e v).pending = s.pending ∧ (State.writeEffect s via idx sub e v).active = s.active ∧ (State.writeEffect s via idx sub e v).tick.counter = s.tick.counter ∧ (State.writeEffect s via idx sub e v).tick.on = s.tick.on ∧ (State.writeEffect s via idx sub e v).tick.part = s.tick.part := by
  unfold State.writeEffect; (try dsimp only); all_goals ((repeat' split) <;> simp)
@[simp] theorem State.write_keeps (s : State) (via : Via) (idx sub : Nat) (data : List Byte) (abort : Bool) :
    (State.write s via idx sub data abort).2.boot = s.boot ∧ (State.write s via idx sub data abort).2.pending = s.pending ∧ (State.write s via idx sub data abort).2.active = s.active ∧ (State.write s via idx sub data abort).2.tick.counter = s.tick.counter ∧ (State.write s via idx sub data abort).2.tick.on = s.tick.on ∧ (State.write s via idx sub data abort).2.tick.part = s.tick.part := by
  unfold State.write; (try dsimp only); all_goals ((repeat' split) <;> simp)
@[simp] theorem State.read_keeps (s : State) (via : Via) (idx sub count : Nat) (records abort : Bool) :
    (State.read s via idx sub count records abort).2.2.boot = s.boot ∧ (State.read s via idx sub count records abort).2.2.pending = s.pending ∧ (State.read s via idx sub count records abort).2.2.lock.fuse = s.lock.fuse ∧ (State.read s via idx sub count records abort).2.2.active = s.active ∧ (State.read s via idx sub count records abort).2.2.tick.counter = s.tick.counter ∧ (State.read s via idx sub count records abort).2.2.tick.on = s.tick.on ∧ (State.read s via idx sub count records abort).2.2.tick.part = s.tick.part := by
  unfold State.read; (try dsimp only); all_goals ((repeat' split) <;> simp)
@[simp] theorem State.portWrite_keeps (s : State) (via : Via) (idx sub : Nat) (data : List Byte) :
    (State.portWrite s via idx sub data).boot = s.boot ∧ (State.portWrite s via idx sub data).pending = s.pending ∧ (State.portWrite s via idx sub data).active = s.active ∧ (State.portWrite s via idx sub data).tick.counter = s.tick.counter ∧ (State.portWrite s via idx sub data).tick.on = s.tick.on ∧ (State.portWrite s via idx sub data).tick.part = s.tick.part := by
  unfold State.portWrite; (try dsimp only); all_goals ((repeat' split) <;> simp)
@[simp] theorem State.portRead_keeps (s : State) (via : Via) (idx sub count : Nat) (records : Bool) :
    (State.portRead s via idx sub count records).boot = s.boot ∧ (State.portRead s via idx sub count records).pending = s.pending ∧ (State.portRead s via idx sub count records).lock.fuse = s.lock.fuse ∧ (State.portRead s via idx sub count records).active = s.active ∧ (State.portRead s via idx sub count records).tick.counter = s.tick.counter ∧ (State.portRead s via idx sub count records).tick.on = s.tick.on ∧ (State.portRead s via idx sub count records).tick.part = s.tick.part := by
  unfold State.portRead; (try dsimp only); all_goals ((repeat' split) <;> simp)
@[simp] theorem State.deviceReset_keeps (s : State) (programmed : Nat) :
    (State.deviceReset s programmed).pending = s.pending ∧ (State.deviceReset s programmed).lock.fuse = s.lock.fuse := by
  unfold State.deviceReset; (try dsimp only); all_goals ((repeat' split) <;> simp)
@[simp] theorem State.resetRelease_keeps (s : State) :
    (State.resetRelease s).pending = s.pending ∧ (State.resetRelease s).lock.fuse = s.lock.fuse ∧ (State.resetRelease s).active = s.active ∧ (State.resetRelease s).tick.counter = s.tick.counter ∧ (State.resetRelease s).tick.on = s.tick.on ∧ (State.resetRelease s).tick.part = s.tick.part := by
  unfold State.resetRelease; (try dsimp only); all_goals ((repeat' split) <;> simp)
@[simp] theorem State.fusesLoaded_keeps (s : State) (glmaster : Bool) :
    (State.fusesLoaded s glmaster).pending = s.pending ∧ (State.fusesLoaded s glmaster).lock.fuse = s.lock.fuse ∧ (State.fusesLoaded s glmaster).active = s.active ∧ (State.fusesLoaded s glmaster).tick.counter = s.tick.counter ∧ (State.fusesLoaded s glmaster).tick.on = s.tick.on ∧ (State.fusesLoaded s glmaster).tick.part = s.tick.part := by
  unfold State.fusesLoaded; (try dsimp only); all_goals ((repeat' split) <;> simp)
@[simp] theorem State.journalScan_keeps (s : State) (us : BitVec 16) :
    (State.journalScan s us).pending = s.pending ∧ (State.journalScan s us).lock.fuse = s.lock.fuse ∧ (State.journalScan s us).active = s.active ∧ (State.journalScan s us).tick.counter = s.tick.counter ∧ (State.journalScan s us).tick.on = s.tick.on ∧ (State.journalScan s us).tick.part = s.tick.part := by
  unfold State.journalScan; (try dsimp only); all_goals ((repeat' split) <;> simp)
@[simp] theorem State.canRx_keeps (s : State) :
    (State.canRx s).boot = s.boot ∧ (State.canRx s).pending = s.pending ∧ (State.canRx s).lock.fuse = s.lock.fuse ∧ (State.canRx s).active = s.active ∧ (State.canRx s).tick.counter = s.tick.counter ∧ (State.canRx s).tick.on = s.tick.on ∧ (State.canRx s).tick.part = s.tick.part := by
  unfold State.canRx; (try dsimp only); all_goals ((repeat' split) <;> simp)
@[simp] theorem State.setNmt_keeps (s : State) (n : Nmt) :
    (State.setNmt s n).boot = s.boot ∧ (State.setNmt s n).pending = s.pending ∧ (State.setNmt s n).lock.fuse = s.lock.fuse ∧ (State.setNmt s n).active = s.active ∧ (State.setNmt s n).tick.counter = s.tick.counter ∧ (State.setNmt s n).tick.on = s.tick.on ∧ (State.setNmt s n).tick.part = s.tick.part := by
  unfold State.setNmt; (try dsimp only); all_goals ((repeat' split) <;> simp)
@[simp] theorem State.canBoot_keeps (s : State) :
    (State.canBoot s).boot = s.boot ∧ (State.canBoot s).pending = s.pending ∧ (State.canBoot s).lock.fuse = s.lock.fuse ∧ (State.canBoot s).active = s.active ∧ (State.canBoot s).tick.counter = s.tick.counter ∧ (State.canBoot s).tick.on = s.tick.on ∧ (State.canBoot s).tick.part = s.tick.part := by
  unfold State.canBoot; (try dsimp only); all_goals ((repeat' split) <;> simp)
@[simp] theorem State.commStored_keeps (s : State) :
    (State.commStored s).boot = s.boot ∧ (State.commStored s).pending = s.pending ∧ (State.commStored s).lock.fuse = s.lock.fuse ∧ (State.commStored s).active = s.active ∧ (State.commStored s).tick.counter = s.tick.counter ∧ (State.commStored s).tick.on = s.tick.on ∧ (State.commStored s).tick.part = s.tick.part := by
  unfold State.commStored; (try dsimp only); all_goals ((repeat' split) <;> simp)
@[simp] theorem State.resetComm_keeps (s : State) :
    (State.resetComm s).boot = s.boot ∧ (State.resetComm s).pending = s.pending ∧ (State.resetComm s).lock.fuse = s.lock.fuse ∧ (State.resetComm s).active = s.active ∧ (State.resetComm s).tick.counter = s.tick.counter ∧ (State.resetComm s).tick.on = s.tick.on ∧ (State.resetComm s).tick.part = s.tick.part := by
  unfold State.resetComm; (try dsimp only); all_goals ((repeat' split) <;> simp)
@[simp] theorem State.relayNmt_keeps (s : State) (node : Nat) (command : Byte) :
    (State.relayNmt s node command).boot = s.boot ∧ (State.relayNmt s node command).pending = s.pending ∧ (State.relayNmt s node command).lock.fuse = s.lock.fuse ∧ (State.relayNmt s node command).active = s.active ∧ (State.relayNmt s node command).tick.counter = s.tick.counter ∧ (State.relayNmt s node command).tick.on = s.tick.on ∧ (State.relayNmt s node command).tick.part = s.tick.part := by
  unfold State.relayNmt; (try dsimp only); all_goals ((repeat' split) <;> simp)
@[simp] theorem State.nmtCommand_keeps (s : State) (node command : Byte) (f : State → State) (hf : ∀ x : State, (f x).boot = x.boot ∧ (f x).pending = x.pending ∧ (f x).lock.fuse = x.lock.fuse ∧ (f x).active = x.active ∧ (f x).tick.counter = x.tick.counter ∧ (f x).tick.on = x.tick.on ∧ (f x).tick.part = x.tick.part) :
    (State.nmtCommand s node command f).boot = s.boot ∧ (State.nmtCommand s node command f).pending = s.pending ∧ (State.nmtCommand s node command f).lock.fuse = s.lock.fuse ∧ (State.nmtCommand s node command f).active = s.active ∧ (State.nmtCommand s node command f).tick.counter = s.tick.counter ∧ (State.nmtCommand s node command f).tick.on = s.tick.on ∧ (State.nmtCommand s node command f).tick.part = s.tick.part := by
  unfold State.nmtCommand; (try dsimp only); all_goals ((repeat' split) <;> simp_all)
@[simp] theorem State.nmtReset_keeps (s : State) :
    (State.nmtReset s).pending = s.pending ∧ (State.nmtReset s).lock.fuse = s.lock.fuse := by
  unfold State.nmtReset; (try dsimp only); all_goals ((repeat' split) <;> simp)
@[simp] theorem State.heartbeat_keeps (s : State) :
    (State.heartbeat s).boot = s.boot ∧ (State.heartbeat s).pending = s.pending ∧ (State.heartbeat s).lock.fuse = s.lock.fuse ∧ (State.heartbeat s).active = s.active ∧ (State.heartbeat s).tick.counter = s.tick.counter ∧ (State.heartbeat s).tick.on = s.tick.on ∧ (State.heartbeat s).tick.part = s.tick.part := by
  unfold State.heartbeat; (try dsimp only); all_goals ((repeat' split) <;> simp)
@[simp] theorem State.sendUsdo_keeps (s : State) (e : Emit) :
    (State.sendUsdo s e).boot = s.boot ∧ (State.sendUsdo s e).pending = s.pending ∧ (State.sendUsdo s e).lock.fuse = s.lock.fuse ∧ (State.sendUsdo s e).active = s.active ∧ (State.sendUsdo s e).tick.counter = s.tick.counter ∧ (State.sendUsdo s e).tick.on = s.tick.on ∧ (State.sendUsdo s e).tick.part = s.tick.part := by
  unfold State.sendUsdo; (try dsimp only); all_goals ((repeat' split) <;> simp)
@[simp] theorem State.closeUsdo_keeps (s : State) (node : Nat) :
    (State.closeUsdo s node).boot = s.boot ∧ (State.closeUsdo s node).pending = s.pending ∧ (State.closeUsdo s node).lock.fuse = s.lock.fuse ∧ (State.closeUsdo s node).active = s.active ∧ (State.closeUsdo s node).tick.counter = s.tick.counter ∧ (State.closeUsdo s node).tick.on = s.tick.on ∧ (State.closeUsdo s node).tick.part = s.tick.part := by
  unfold State.closeUsdo; (try dsimp only); all_goals ((repeat' split) <;> simp)
@[simp] theorem State.openUsdo_keeps (s : State) (node : Nat) :
    (State.openUsdo s node).boot = s.boot ∧ (State.openUsdo s node).pending = s.pending ∧ (State.openUsdo s node).lock.fuse = s.lock.fuse ∧ (State.openUsdo s node).active = s.active ∧ (State.openUsdo s node).tick.counter = s.tick.counter ∧ (State.openUsdo s node).tick.on = s.tick.on ∧ (State.openUsdo s node).tick.part = s.tick.part := by
  unfold State.openUsdo; (try dsimp only); all_goals ((repeat' split) <;> simp)
@[simp] theorem State.abortUsdo_keeps (s : State) (node : Nat) (code : Nat) :
    (State.abortUsdo s node code).boot = s.boot ∧ (State.abortUsdo s node code).pending = s.pending ∧ (State.abortUsdo s node code).lock.fuse = s.lock.fuse ∧ (State.abortUsdo s node code).active = s.active ∧ (State.abortUsdo s node code).tick.counter = s.tick.counter ∧ (State.abortUsdo s node code).tick.on = s.tick.on ∧ (State.abortUsdo s node code).tick.part = s.tick.part := by
  unfold State.abortUsdo; (try dsimp only); all_goals ((repeat' split) <;> simp)
@[simp] theorem State.answerUsdo_keeps (s : State) (node : Nat) (data : List Byte) :
    (State.answerUsdo s node data).boot = s.boot ∧ (State.answerUsdo s node data).pending = s.pending ∧ (State.answerUsdo s node data).lock.fuse = s.lock.fuse ∧ (State.answerUsdo s node data).active = s.active ∧ (State.answerUsdo s node data).tick.counter = s.tick.counter ∧ (State.answerUsdo s node data).tick.on = s.tick.on ∧ (State.answerUsdo s node data).tick.part = s.tick.part := by
  unfold State.answerUsdo; (try dsimp only); all_goals ((repeat' split) <;> simp)
@[simp] theorem State.newUsdo_keeps (s : State) (node : Nat) :
    (State.newUsdo s node).boot = s.boot ∧ (State.newUsdo s node).pending = s.pending ∧ (State.newUsdo s node).lock.fuse = s.lock.fuse ∧ (State.newUsdo s node).active = s.active ∧ (State.newUsdo s node).tick.counter = s.tick.counter ∧ (State.newUsdo s node).tick.on = s.tick.on ∧ (State.newUsdo s node).tick.part = s.tick.part := by
  unfold State.newUsdo; (try dsimp only); all_goals ((repeat' split) <;> simp)
@[simp] theorem State.usdoHere_keeps (s : State) (node : Nat) (write : Bool) (idx sub : Nat) (data : List Byte) (cyc : Nat) :
    (State.usdoHere s node write idx sub data cyc).boot = s.boot ∧ (State.usdoHere s node write idx sub data cyc).pending = s.pending ∧ (State.usdoHere s node write idx sub data cyc).active = s.active ∧ (State.usdoHere s node write idx sub data cyc).tick.counter = s.tick.counter ∧ (State.usdoHere s node write idx sub data cyc).tick.on = s.tick.on ∧ (State.usdoHere s node write idx sub data cyc).tick.part = s.tick.part := by
  unfold State.usdoHere; (try dsimp only); all_goals ((repeat' split) <;> simp)
@[simp] theorem State.usdoRelay_keeps (s : State) (node a : Nat) (write : Bool) (idx sub : Nat) (data : List Byte) :
    (State.usdoRelay s node a write idx sub data).boot = s.boot ∧ (State.usdoRelay s node a write idx sub data).pending = s.pending ∧ (State.usdoRelay s node a write idx sub data).active = s.active ∧ (State.usdoRelay s node a write idx sub data).tick.counter = s.tick.counter ∧ (State.usdoRelay s node a write idx sub data).tick.on = s.tick.on ∧ (State.usdoRelay s node a write idx sub data).tick.part = s.tick.part := by
  unfold State.usdoRelay; (try dsimp only); all_goals ((repeat' split) <;> simp)
@[simp] theorem State.usdoAccess_keeps (s : State) (node : Nat) (write : Bool) (idx sub : Nat) (data : List Byte) (cyc : Nat) :
    (State.usdoAccess s node write idx sub data cyc).boot = s.boot ∧ (State.usdoAccess s node write idx sub data cyc).pending = s.pending ∧ (State.usdoAccess s node write idx sub data cyc).active = s.active ∧ (State.usdoAccess s node write idx sub data cyc).tick.counter = s.tick.counter ∧ (State.usdoAccess s node write idx sub data cyc).tick.on = s.tick.on ∧ (State.usdoAccess s node write idx sub data cyc).tick.part = s.tick.part := by
  unfold State.usdoAccess; (try dsimp only); all_goals ((repeat' split) <;> simp)
@[simp] theorem State.usdoServe_keeps (s : State) (node : Nat) (req : UsdoReq) (cyc : Nat) :
    (State.usdoServe s node req cyc).boot = s.boot ∧ (State.usdoServe s node req cyc).pending = s.pending ∧ (State.usdoServe s node req cyc).active = s.active ∧ (State.usdoServe s node req cyc).tick.counter = s.tick.counter ∧ (State.usdoServe s node req cyc).tick.on = s.tick.on ∧ (State.usdoServe s node req cyc).tick.part = s.tick.part := by
  unfold State.usdoServe; (try dsimp only); all_goals ((repeat' split) <;> simp)
@[simp] theorem State.usdoRequest_keeps (s : State) (node : Nat) (req : UsdoReq) (cyc : Nat) :
    (State.usdoRequest s node req cyc).boot = s.boot ∧ (State.usdoRequest s node req cyc).pending = s.pending ∧ (State.usdoRequest s node req cyc).active = s.active ∧ (State.usdoRequest s node req cyc).tick.counter = s.tick.counter ∧ (State.usdoRequest s node req cyc).tick.on = s.tick.on ∧ (State.usdoRequest s node req cyc).tick.part = s.tick.part := by
  unfold State.usdoRequest; (try dsimp only); all_goals ((repeat' split) <;> simp)
@[simp] theorem State.usdoAborted_keeps (s : State) (node : Nat) :
    (State.usdoAborted s node).boot = s.boot ∧ (State.usdoAborted s node).pending = s.pending ∧ (State.usdoAborted s node).lock.fuse = s.lock.fuse ∧ (State.usdoAborted s node).active = s.active ∧ (State.usdoAborted s node).tick.counter = s.tick.counter ∧ (State.usdoAborted s node).tick.on = s.tick.on ∧ (State.usdoAborted s node).tick.part = s.tick.part := by
  unfold State.usdoAborted; (try dsimp only); all_goals ((repeat' split) <;> simp)
@[simp] theorem State.usdoTimeout_keeps (s : State) (node : Nat) :
    (State.usdoTimeout s node).boot = s.boot ∧ (State.usdoTimeout s node).pending = s.pending ∧ (State.usdoTimeout s node).lock.fuse = s.lock.fuse ∧ (State.usdoTimeout s node).active = s.active ∧ (State.usdoTimeout s node).tick.counter = s.tick.counter ∧ (State.usdoTimeout s node).tick.on = s.tick.on ∧ (State.usdoTimeout s node).tick.part = s.tick.part := by
  unfold State.usdoTimeout; (try dsimp only); all_goals ((repeat' split) <;> simp)
@[simp] theorem State.tpdoQueue_keeps (s : State) (k ring j : Nat) (data : List Byte) :
    (State.tpdoQueue s k ring j data).boot = s.boot ∧ (State.tpdoQueue s k ring j data).pending = s.pending ∧ (State.tpdoQueue s k ring j data).lock.fuse = s.lock.fuse ∧ (State.tpdoQueue s k ring j data).active = s.active ∧ (State.tpdoQueue s k ring j data).tick.counter = s.tick.counter ∧ (State.tpdoQueue s k ring j data).tick.on = s.tick.on ∧ (State.tpdoQueue s k ring j data).tick.part = s.tick.part := by
  unfold State.tpdoQueue; (try dsimp only); all_goals ((repeat' split) <;> simp)
@[simp] theorem State.tpdoForm_keeps (s : State) (k : Nat) :
    (State.tpdoForm s k).boot = s.boot ∧ (State.tpdoForm s k).pending = s.pending ∧ (State.tpdoForm s k).lock.fuse = s.lock.fuse ∧ (State.tpdoForm s k).active = s.active ∧ (State.tpdoForm s k).tick.counter = s.tick.counter ∧ (State.tpdoForm s k).tick.on = s.tick.on ∧ (State.tpdoForm s k).tick.part = s.tick.part := by
  unfold State.tpdoForm; (try dsimp only); all_goals ((repeat' split) <;> simp)
@[simp] theorem State.tpdoEvent_keeps (s : State) (k : Nat) :
    (State.tpdoEvent s k).boot = s.boot ∧ (State.tpdoEvent s k).pending = s.pending ∧ (State.tpdoEvent s k).lock.fuse = s.lock.fuse ∧ (State.tpdoEvent s k).active = s.active ∧ (State.tpdoEvent s k).tick.counter = s.tick.counter ∧ (State.tpdoEvent s k).tick.on = s.tick.on ∧ (State.tpdoEvent s k).tick.part = s.tick.part := by
  unfold State.tpdoEvent; (try dsimp only); all_goals ((repeat' split) <;> simp)
@[simp] theorem State.ringEvents_keeps (s old : State) :
    (State.ringEvents s old).boot = s.boot ∧ (State.ringEvents s old).pending = s.pending ∧ (State.ringEvents s old).lock.fuse = s.lock.fuse ∧ (State.ringEvents s old).active = s.active ∧ (State.ringEvents s old).tick.counter = s.tick.counter ∧ (State.ringEvents s old).tick.on = s.tick.on ∧ (State.ringEvents s old).tick.part = s.tick.part := by
  unfold State.ringEvents; (try dsimp only); all_goals ((repeat' split) <;> (first | (simp; done) | (refine ⟨?_, ?_, ?_, ?_, ?_, ?_, ?_⟩ <;> (first | (simp; done) | ((refine (foldl_keeps_boot _ _ _ ?_).trans ?_) <;> intros <;> (repeat' split) <;> simp; done) | ((refine (foldl_keeps_pending _ _ _ ?_).trans ?_) <;> intros <;> (repeat' split) <;> simp; done) | ((refine (foldl_keeps_lock_fuse _ _ _ ?_).trans ?_) <;> intros <;> (repeat' split) <;> simp; done) | ((refine (foldl_keeps_active _ _ _ ?_).trans ?_) <;> intros <;> (repeat' split) <;> simp; done) | ((refine (foldl_keeps_tick_counter _ _ _ ?_).trans ?_) <;> intros <;> (repeat' split) <;> simp; done) | ((refine (foldl_keeps_tick_on _ _ _ ?_).trans ?_) <;> intros <;> (repeat' split) <;> simp; done) | ((refine (foldl_keeps_tick_part _ _ _ ?_).trans ?_) <;> intros <;> (repeat' split) <;> simp; done)))))
@[simp] theorem State.tpdoSync_keeps (s : State) (k : Nat) :
    (State.tpdoSync s k).boot = s.boot ∧ (State.tpdoSync s k).pending = s.pending ∧ (State.tpdoSync s k).lock.fuse = s.lock.fuse ∧ (State.tpdoSync s k).active = s.active ∧ (State.tpdoSync s k).tick.counter = s.tick.counter ∧ (State.tpdoSync s k).tick.on = s.tick.on ∧ (State.tpdoSync s k).tick.part = s.tick.part := by
  unfold State.tpdoSync; (try dsimp only); all_goals ((repeat' split) <;> simp)
@[simp] theorem State.tpdoTimer_keeps (s : State) (k : Nat) :
    (State.tpdoTimer s k).boot = s.boot ∧ (State.tpdoTimer s k).pending = s.pending ∧ (State.tpdoTimer s k).lock.fuse = s.lock.fuse ∧ (State.tpdoTimer s k).active = s.active ∧ (State.tpdoTimer s k).tick.counter = s.tick.counter ∧ (State.tpdoTimer s k).tick.on = s.tick.on ∧ (State.tpdoTimer s k).tick.part = s.tick.part := by
  unfold State.tpdoTimer; (try dsimp only); all_goals ((repeat' split) <;> simp)
@[simp] theorem State.inhibitEnd_keeps (s : State) (k : Nat) :
    (State.inhibitEnd s k).boot = s.boot ∧ (State.inhibitEnd s k).pending = s.pending ∧ (State.inhibitEnd s k).lock.fuse = s.lock.fuse ∧ (State.inhibitEnd s k).active = s.active ∧ (State.inhibitEnd s k).tick.counter = s.tick.counter ∧ (State.inhibitEnd s k).tick.on = s.tick.on ∧ (State.inhibitEnd s k).tick.part = s.tick.part := by
  unfold State.inhibitEnd; (try dsimp only); all_goals ((repeat' split) <;> simp)
@[simp] theorem State.tpdoCredit_keeps (s : State) (ring j : Nat) :
    (State.tpdoCredit s ring j).boot = s.boot ∧ (State.tpdoCredit s ring j).pending = s.pending ∧ (State.tpdoCredit s ring j).lock.fuse = s.lock.fuse ∧ (State.tpdoCredit s ring j).active = s.active ∧ (State.tpdoCredit s ring j).tick.counter = s.tick.counter ∧ (State.tpdoCredit s ring j).tick.on = s.tick.on ∧ (State.tpdoCredit s ring j).tick.part = s.tick.part := by
  unfold State.tpdoCredit; (try dsimp only); all_goals ((repeat' split) <;> simp)
@[simp] theorem State.tpdoSent_keeps (s : State) (k : Nat) :
    (State.tpdoSent s k).boot = s.boot ∧ (State.tpdoSent s k).pending = s.pending ∧ (State.tpdoSent s k).lock.fuse = s.lock.fuse ∧ (State.tpdoSent s k).active = s.active ∧ (State.tpdoSent s k).tick.counter = s.tick.counter ∧ (State.tpdoSent s k).tick.on = s.tick.on ∧ (State.tpdoSent s k).tick.part = s.tick.part := by
  unfold State.tpdoSent; (try dsimp only); all_goals ((repeat' split) <;> simp)
@[simp] theorem State.rpdoShort_keeps (s : State) (k : Nat) :
    (State.rpdoShort s k).boot = s.boot ∧ (State.rpdoShort s k).pending = s.pending ∧ (State.rpdoShort s k).lock.fuse = s.lock.fuse ∧ (State.rpdoShort s k).active = s.active ∧ (State.rpdoShort s k).tick.counter = s.tick.counter ∧ (State.rpdoShort s k).tick.on = s.tick.on ∧ (State.rpdoShort s k).tick.part = s.tick.part := by
  unfold State.rpdoShort; (try dsimp only); all_goals ((repeat' split) <;> simp)
@[simp] theorem State.writeParts_keeps (s : State) (via : Via) (parts : List (Nat × Nat × List Byte)) :
    (State.writeParts s via parts).boot = s.boot ∧ (State.writeParts s via parts).pending = s.pending ∧ (State.writeParts s via parts).active = s.active ∧ (State.writeParts s via parts).tick.counter = s.tick.counter ∧ (State.writeParts s via parts).tick.on = s.tick.on ∧ (State.writeParts s via parts).tick.part = s.tick.part := by
  unfold State.writeParts; (try dsimp only); all_goals ((repeat' split) <;> (first | (simp; done) | (refine ⟨?_, ?_, ?_, ?_, ?_, ?_⟩ <;> (first | (simp; done) | ((refine (foldl_keeps_boot _ _ _ ?_).trans ?_) <;> intros <;> (repeat' split) <;> simp; done) | ((refine (foldl_keeps_pending _ _ _ ?_).trans ?_) <;> intros <;> (repeat' split) <;> simp; done) | ((refine (foldl_keeps_active _ _ _ ?_).trans ?_) <;> intros <;> (repeat' split) <;> simp; done) | ((refine (foldl_keeps_tick_counter _ _ _ ?_).trans ?_) <;> intros <;> (repeat' split) <;> simp; done) | ((refine (foldl_keeps_tick_on _ _ _ ?_).trans ?_) <;> intros <;> (repeat' split) <;> simp; done) | ((refine (foldl_keeps_tick_part _ _ _ ?_).trans ?_) <;> intros <;> (repeat' split) <;> simp; done)))))
@[simp] theorem State.rpdoWrite_keeps (s : State) (k : Nat) (data : List Byte) (cyc : Nat) :
    (State.rpdoWrite s k data cyc).boot = s.boot ∧ (State.rpdoWrite s k data cyc).pending = s.pending ∧ (State.rpdoWrite s k data cyc).active = s.active ∧ (State.rpdoWrite s k data cyc).tick.counter = s.tick.counter ∧ (State.rpdoWrite s k data cyc).tick.on = s.tick.on ∧ (State.rpdoWrite s k data cyc).tick.part = s.tick.part := by
  unfold State.rpdoWrite; (try dsimp only); all_goals ((repeat' split) <;> simp)
@[simp] theorem State.rpdoFrame_keeps (s : State) (k : Nat) (data : List Byte) (cyc : Nat) :
    (State.rpdoFrame s k data cyc).boot = s.boot ∧ (State.rpdoFrame s k data cyc).pending = s.pending ∧ (State.rpdoFrame s k data cyc).active = s.active ∧ (State.rpdoFrame s k data cyc).tick.counter = s.tick.counter ∧ (State.rpdoFrame s k data cyc).tick.on = s.tick.on ∧ (State.rpdoFrame s k data cyc).tick.part = s.tick.part := by
  unfold State.rpdoFrame; (try dsimp only); all_goals ((repeat' split) <;> simp)
@[simp] theorem State.writeHeld_keeps (s : State) (cyc : Nat) :
    (State.writeHeld s cyc).boot = s.boot ∧ (State.writeHeld s cyc).pending = s.pending ∧ (State.writeHeld s cyc).active = s.active ∧ (State.writeHeld s cyc).tick.counter = s.tick.counter ∧ (State.writeHeld s cyc).tick.on = s.tick.on ∧ (State.writeHeld s cyc).tick.part = s.tick.part := by
  unfold State.writeHeld; (try dsimp only); all_goals ((repeat' split) <;> (first | (simp; done) | (refine ⟨?_, ?_, ?_, ?_, ?_, ?_⟩ <;> (first | (simp; done) | ((refine (foldl_keeps_boot _ _ _ ?_).trans ?_) <;> intros <;> (repeat' split) <;> simp; done) | ((refine (foldl_keeps_pending _ _ _ ?_).trans ?_) <;> intros <;> (repeat' split) <;> simp; done) | ((refine (foldl_keeps_active _ _ _ ?_).trans ?_) <;> intros <;> (repeat' split) <;> simp; done) | ((refine (foldl_keeps_tick_counter _ _ _ ?_).trans ?_) <;> intros <;> (repeat' split) <;> simp; done) | ((refine (foldl_keeps_tick_on _ _ _ ?_).trans ?_) <;> intros <;> (repeat' split) <;> simp; done) | ((refine (foldl_keeps_tick_part _ _ _ ?_).trans ?_) <;> intros <;> (repeat' split) <;> simp; done)))))
@[simp] theorem State.syncFrame_keeps (s : State) (cyc : Nat) :
    (State.syncFrame s cyc).boot = s.boot ∧ (State.syncFrame s cyc).pending = s.pending ∧ (State.syncFrame s cyc).active = s.active ∧ (State.syncFrame s cyc).tick.counter = s.tick.counter ∧ (State.syncFrame s cyc).tick.on = s.tick.on ∧ (State.syncFrame s cyc).tick.part = s.tick.part := by
  unfold State.syncFrame; (try dsimp only); all_goals ((repeat' split) <;> simp)
@[simp] theorem State.busOffRecovery_keeps (s : State) :
    (State.busOffRecovery s).boot = s.boot ∧ (State.busOffRecovery s).pending = s.pending ∧ (State.busOffRecovery s).lock.fuse = s.lock.fuse ∧ (State.busOffRecovery s).active = s.active ∧ (State.busOffRecovery s).tick.counter = s.tick.counter ∧ (State.busOffRecovery s).tick.on = s.tick.on ∧ (State.busOffRecovery s).tick.part = s.tick.part := by
  unfold State.busOffRecovery; (try dsimp only); all_goals ((repeat' split) <;> simp)
@[simp] theorem State.errorConfinement_keeps (s : State) (tec rec : Byte) (busOff : Bool) :
    (State.errorConfinement s tec rec busOff).boot = s.boot ∧ (State.errorConfinement s tec rec busOff).pending = s.pending ∧ (State.errorConfinement s tec rec busOff).lock.fuse = s.lock.fuse ∧ (State.errorConfinement s tec rec busOff).active = s.active ∧ (State.errorConfinement s tec rec busOff).tick.counter = s.tick.counter ∧ (State.errorConfinement s tec rec busOff).tick.on = s.tick.on ∧ (State.errorConfinement s tec rec busOff).tick.part = s.tick.part := by
  unfold State.errorConfinement; (try dsimp only); all_goals ((repeat' split) <;> simp)
@[simp] theorem State.crxd_keeps (s : State) :
    (State.crxd s).boot = s.boot ∧ (State.crxd s).pending = s.pending ∧ (State.crxd s).lock.fuse = s.lock.fuse ∧ (State.crxd s).active = s.active ∧ (State.crxd s).tick.counter = s.tick.counter ∧ (State.crxd s).tick.on = s.tick.on ∧ (State.crxd s).tick.part = s.tick.part := by
  unfold State.crxd; (try dsimp only); all_goals ((repeat' split) <;> simp)
@[simp] theorem State.updGalt_keeps (s : State) (f : GaltSt → GaltSt) :
    (State.updGalt s f).boot = s.boot ∧ (State.updGalt s f).pending = s.pending ∧ (State.updGalt s f).lock.fuse = s.lock.fuse ∧ (State.updGalt s f).active = s.active ∧ (State.updGalt s f).tick.counter = s.tick.counter ∧ (State.updGalt s f).tick.on = s.tick.on ∧ (State.updGalt s f).tick.part = s.tick.part := by
  unfold State.updGalt; (try dsimp only); all_goals ((repeat' split) <;> simp)
@[simp] theorem State.forward_keeps (s : State) (typ : Nat) (hd : FrameHead) (payload : List Byte) :
    (State.forward s typ hd payload).boot = s.boot ∧ (State.forward s typ hd payload).pending = s.pending ∧ (State.forward s typ hd payload).lock.fuse = s.lock.fuse ∧ (State.forward s typ hd payload).active = s.active ∧ (State.forward s typ hd payload).tick.counter = s.tick.counter ∧ (State.forward s typ hd payload).tick.on = s.tick.on ∧ (State.forward s typ hd payload).tick.part = s.tick.part := by
  unfold State.forward; (try dsimp only); all_goals ((repeat' split) <;> simp)
@[simp] theorem State.pass_keeps (s : State) (typ : Nat) (hd : FrameHead) (payload : List Byte) :
    (State.pass s typ hd payload).boot = s.boot ∧ (State.pass s typ hd payload).pending = s.pending ∧ (State.pass s typ hd payload).lock.fuse = s.lock.fuse ∧ (State.pass s typ hd payload).active = s.active ∧ (State.pass s typ hd payload).tick.counter = s.tick.counter ∧ (State.pass s typ hd payload).tick.on = s.tick.on ∧ (State.pass s typ hd payload).tick.part = s.tick.part := by
  unfold State.pass; (try dsimp only); all_goals ((repeat' split) <;> simp)
@[simp] theorem State.galtFrame_keeps (s : State) (hd : FrameHead) (typ : Nat) (payload : List Byte) (f : State → State) (hf : ∀ x : State, (f x).boot = x.boot ∧ (f x).pending = x.pending ∧ (f x).lock.fuse = x.lock.fuse ∧ (f x).active = x.active ∧ (f x).tick.counter = x.tick.counter ∧ (f x).tick.on = x.tick.on ∧ (f x).tick.part = x.tick.part) :
    (State.galtFrame s hd typ payload f).boot = s.boot ∧ (State.galtFrame s hd typ payload f).pending = s.pending ∧ (State.galtFrame s hd typ payload f).lock.fuse = s.lock.fuse ∧ (State.galtFrame s hd typ payload f).active = s.active ∧ (State.galtFrame s hd typ payload f).tick.counter = s.tick.counter ∧ (State.galtFrame s hd typ payload f).tick.on = s.tick.on ∧ (State.galtFrame s hd typ payload f).tick.part = s.tick.part := by
  unfold State.galtFrame; (try dsimp only); all_goals ((repeat' split) <;> simp_all)
@[simp] theorem State.enumerate_keeps (s : State) :
    (State.enumerate s).boot = s.boot ∧ (State.enumerate s).pending = s.pending ∧ (State.enumerate s).lock.fuse = s.lock.fuse ∧ (State.enumerate s).active = s.active ∧ (State.enumerate s).tick.counter = s.tick.counter ∧ (State.enumerate s).tick.on = s.tick.on ∧ (State.enumerate s).tick.part = s.tick.part := by
  unfold State.enumerate; (try dsimp only); all_goals ((repeat' split) <;> simp)
@[simp] theorem State.galtRole_keeps (s : State) (was : Nat) :
    (State.galtRole s was).boot = s.boot ∧ (State.galtRole s was).pending = s.pending ∧ (State.galtRole s was).lock.fuse = s.lock.fuse ∧ (State.galtRole s was).active = s.active ∧ (State.galtRole s was).tick.counter = s.tick.counter ∧ (State.galtRole s was).tick.on = s.tick.on ∧ (State.galtRole s was).tick.part = s.tick.part := by
  unfold State.galtRole; (try dsimp only); all_goals ((repeat' split) <;> simp)
@[simp] theorem State.tryClose_keeps (s : State) :
    (State.tryClose s).boot = s.boot ∧ (State.tryClose s).pending = s.pending ∧ (State.tryClose s).lock.fuse = s.lock.fuse ∧ (State.tryClose s).active = s.active ∧ (State.tryClose s).tick.counter = s.tick.counter ∧ (State.tryClose s).tick.on = s.tick.on ∧ (State.tryClose s).tick.part = s.tick.part := by
  unfold State.tryClose; (try dsimp only); all_goals ((repeat' split) <;> simp)
@[simp] theorem State.freshOrigin_keeps (s : State) (serial : BitVec 32) :
    (State.freshOrigin s serial).boot = s.boot ∧ (State.freshOrigin s serial).pending = s.pending ∧ (State.freshOrigin s serial).lock.fuse = s.lock.fuse ∧ (State.freshOrigin s serial).active = s.active ∧ (State.freshOrigin s serial).tick.counter = s.tick.counter ∧ (State.freshOrigin s serial).tick.on = s.tick.on ∧ (State.freshOrigin s serial).tick.part = s.tick.part := by
  unfold State.freshOrigin; (try dsimp only); all_goals ((repeat' split) <;> simp)
@[simp] theorem State.enumDone_keeps (s : State) (count : BitVec 8) (l : List EnumEntry) :
    (State.enumDone s count l).boot = s.boot ∧ (State.enumDone s count l).pending = s.pending ∧ (State.enumDone s count l).lock.fuse = s.lock.fuse ∧ (State.enumDone s count l).active = s.active ∧ (State.enumDone s count l).tick.counter = s.tick.counter ∧ (State.enumDone s count l).tick.on = s.tick.on ∧ (State.enumDone s count l).tick.part = s.tick.part := by
  unfold State.enumDone; (try dsimp only); all_goals ((repeat' split) <;> simp)
@[simp] theorem State.enumMember_keeps (s : State) (hd : FrameHead) (count : BitVec 8) (l : List EnumEntry) :
    (State.enumMember s hd count l).boot = s.boot ∧ (State.enumMember s hd count l).pending = s.pending ∧ (State.enumMember s hd count l).lock.fuse = s.lock.fuse ∧ (State.enumMember s hd count l).active = s.active ∧ (State.enumMember s hd count l).tick.counter = s.tick.counter ∧ (State.enumMember s hd count l).tick.on = s.tick.on ∧ (State.enumMember s hd count l).tick.part = s.tick.part := by
  unfold State.enumMember; (try dsimp only); all_goals ((repeat' split) <;> simp)
@[simp] theorem State.enumFrame_keeps (s : State) (hd : FrameHead) (count : BitVec 8) (l : List EnumEntry) :
    (State.enumFrame s hd count l).boot = s.boot ∧ (State.enumFrame s hd count l).pending = s.pending ∧ (State.enumFrame s hd count l).lock.fuse = s.lock.fuse ∧ (State.enumFrame s hd count l).active = s.active ∧ (State.enumFrame s hd count l).tick.counter = s.tick.counter ∧ (State.enumFrame s hd count l).tick.on = s.tick.on ∧ (State.enumFrame s hd count l).tick.part = s.tick.part := by
  unfold State.enumFrame State.galtFrame; (try dsimp only); all_goals ((repeat' split) <;> simp)
@[simp] theorem State.enumRetry_keeps (s : State) :
    (State.enumRetry s).boot = s.boot ∧ (State.enumRetry s).pending = s.pending ∧ (State.enumRetry s).lock.fuse = s.lock.fuse ∧ (State.enumRetry s).active = s.active ∧ (State.enumRetry s).tick.counter = s.tick.counter ∧ (State.enumRetry s).tick.on = s.tick.on ∧ (State.enumRetry s).tick.part = s.tick.part := by
  unfold State.enumRetry; (try dsimp only); all_goals ((repeat' split) <;> simp)
@[simp] theorem State.tableFrame_keeps (s : State) (hd : FrameHead) (l : List EnumEntry) :
    (State.tableFrame s hd l).boot = s.boot ∧ (State.tableFrame s hd l).pending = s.pending ∧ (State.tableFrame s hd l).lock.fuse = s.lock.fuse ∧ (State.tableFrame s hd l).active = s.active ∧ (State.tableFrame s hd l).tick.counter = s.tick.counter ∧ (State.tableFrame s hd l).tick.on = s.tick.on ∧ (State.tableFrame s hd l).tick.part = s.tick.part := by
  unfold State.tableFrame State.galtFrame; (try dsimp only); all_goals ((repeat' split) <;> simp)
@[simp] theorem State.soundSegment_keeps (s : State) (trips : List Nat) :
    (State.soundSegment s trips).boot = s.boot ∧ (State.soundSegment s trips).pending = s.pending ∧ (State.soundSegment s trips).lock.fuse = s.lock.fuse ∧ (State.soundSegment s trips).active = s.active ∧ (State.soundSegment s trips).tick.counter = s.tick.counter ∧ (State.soundSegment s trips).tick.on = s.tick.on ∧ (State.soundSegment s trips).tick.part = s.tick.part := by
  unfold State.soundSegment; (try dsimp only); all_goals ((repeat' split) <;> simp)
@[simp] theorem State.sendTime_keeps (s : State) :
    (State.sendTime s).boot = s.boot ∧ (State.sendTime s).pending = s.pending ∧ (State.sendTime s).lock.fuse = s.lock.fuse ∧ (State.sendTime s).active = s.active ∧ (State.sendTime s).tick.counter = s.tick.counter ∧ (State.sendTime s).tick.on = s.tick.on ∧ (State.sendTime s).tick.part = s.tick.part := by
  unfold State.sendTime; (try dsimp only); all_goals ((repeat' split) <;> simp)
@[simp] theorem State.soundingStart_keeps (s : State) (trips : List Nat) :
    (State.soundingStart s trips).boot = s.boot ∧ (State.soundingStart s trips).pending = s.pending ∧ (State.soundingStart s trips).lock.fuse = s.lock.fuse ∧ (State.soundingStart s trips).active = s.active ∧ (State.soundingStart s trips).tick.counter = s.tick.counter ∧ (State.soundingStart s trips).tick.on = s.tick.on ∧ (State.soundingStart s trips).tick.part = s.tick.part := by
  unfold State.soundingStart; (try dsimp only); all_goals ((repeat' split) <;> simp)
@[simp] theorem State.sound_keeps (s : State) (trips : List Nat) :
    (State.sound s trips).boot = s.boot ∧ (State.sound s trips).pending = s.pending ∧ (State.sound s trips).lock.fuse = s.lock.fuse ∧ (State.sound s trips).active = s.active ∧ (State.sound s trips).tick.counter = s.tick.counter ∧ (State.sound s trips).tick.on = s.tick.on ∧ (State.sound s trips).tick.part = s.tick.part := by
  unfold State.sound; (try dsimp only); all_goals ((repeat' split) <;> simp)
@[simp] theorem State.delayFrame_keeps (s : State) (hd : FrameHead) (cablePs : BitVec 32) :
    (State.delayFrame s hd cablePs).boot = s.boot ∧ (State.delayFrame s hd cablePs).pending = s.pending ∧ (State.delayFrame s hd cablePs).lock.fuse = s.lock.fuse ∧ (State.delayFrame s hd cablePs).active = s.active ∧ (State.delayFrame s hd cablePs).tick.counter = s.tick.counter ∧ (State.delayFrame s hd cablePs).tick.on = s.tick.on ∧ (State.delayFrame s hd cablePs).tick.part = s.tick.part := by
  unfold State.delayFrame State.galtFrame; (try dsimp only); all_goals ((repeat' split) <;> simp)
@[simp] theorem State.tickSymbol_keeps (s : State) (offset : BitVec 32) (residence : Nat) :
    (State.tickSymbol s offset residence).boot = s.boot ∧ (State.tickSymbol s offset residence).pending = s.pending ∧ (State.tickSymbol s offset residence).lock.fuse = s.lock.fuse ∧ (State.tickSymbol s offset residence).active = s.active ∧ (State.tickSymbol s offset residence).tick.counter = s.tick.counter ∧ (State.tickSymbol s offset residence).tick.on = s.tick.on ∧ (State.tickSymbol s offset residence).tick.part = s.tick.part := by
  unfold State.tickSymbol; (try dsimp only); all_goals ((repeat' split) <;> simp)
@[simp] theorem State.timeSend_keeps (s : State) :
    (State.timeSend s).boot = s.boot ∧ (State.timeSend s).pending = s.pending ∧ (State.timeSend s).lock.fuse = s.lock.fuse ∧ (State.timeSend s).active = s.active ∧ (State.timeSend s).tick.counter = s.tick.counter ∧ (State.timeSend s).tick.on = s.tick.on ∧ (State.timeSend s).tick.part = s.tick.part := by
  unfold State.timeSend; (try dsimp only); all_goals ((repeat' split) <;> simp)
@[simp] theorem State.takeAdvances_keeps (s : State) (l : List (BitVec 32)) :
    (State.takeAdvances s l).boot = s.boot ∧ (State.takeAdvances s l).pending = s.pending ∧ (State.takeAdvances s l).lock.fuse = s.lock.fuse ∧ (State.takeAdvances s l).active = s.active ∧ (State.takeAdvances s l).tick.counter = s.tick.counter ∧ (State.takeAdvances s l).tick.on = s.tick.on ∧ (State.takeAdvances s l).tick.part = s.tick.part := by
  unfold State.takeAdvances; (try dsimp only); all_goals ((repeat' split) <;> simp)
@[simp] theorem State.adoptCounter_keeps (s : State) (tick : TickNo) (inst : Int) (epoch : BitVec 16) :
    (State.adoptCounter s tick inst epoch).boot = s.boot ∧ (State.adoptCounter s tick inst epoch).pending = s.pending ∧ (State.adoptCounter s tick inst epoch).lock.fuse = s.lock.fuse ∧ (State.adoptCounter s tick inst epoch).active = s.active ∧ (State.adoptCounter s tick inst epoch).tick.counter = s.tick.counter ∧ (State.adoptCounter s tick inst epoch).tick.on = s.tick.on ∧ (State.adoptCounter s tick inst epoch).tick.part = s.tick.part := by
  unfold State.adoptCounter; (try dsimp only); all_goals ((repeat' split) <;> simp)
@[simp] theorem State.timeFrame_keeps (s : State) (hd : FrameHead) (tick : TickNo) (inst : Int) (epoch : BitVec 16) (l : List (BitVec 32)) :
    (State.timeFrame s hd tick inst epoch l).boot = s.boot ∧ (State.timeFrame s hd tick inst epoch l).pending = s.pending ∧ (State.timeFrame s hd tick inst epoch l).lock.fuse = s.lock.fuse ∧ (State.timeFrame s hd tick inst epoch l).active = s.active ∧ (State.timeFrame s hd tick inst epoch l).tick.counter = s.tick.counter ∧ (State.timeFrame s hd tick inst epoch l).tick.on = s.tick.on ∧ (State.timeFrame s hd tick inst epoch l).tick.part = s.tick.part := by
  unfold State.timeFrame State.galtFrame; (try dsimp only); all_goals ((repeat' split) <;> simp)
@[simp] theorem State.serveAccess_keeps (s : State) (org : BitVec 8) (session originPort : Byte) (write : Bool) (idx : BitVec 16) (sub : BitVec 8) (data : List Byte) (cyc : Nat) :
    (State.serveAccess s org session originPort write idx sub data cyc).boot = s.boot ∧ (State.serveAccess s org session originPort write idx sub data cyc).pending = s.pending ∧ (State.serveAccess s org session originPort write idx sub data cyc).active = s.active ∧ (State.serveAccess s org session originPort write idx sub data cyc).tick.counter = s.tick.counter ∧ (State.serveAccess s org session originPort write idx sub data cyc).tick.on = s.tick.on ∧ (State.serveAccess s org session originPort write idx sub data cyc).tick.part = s.tick.part := by
  unfold State.serveAccess; (try dsimp only); all_goals ((repeat' split) <;> simp)
@[simp] theorem State.accessFrame_keeps (s : State) (hd : FrameHead) (session originPort : Byte) (write : Bool) (idx : BitVec 16) (sub : BitVec 8) (data : List Byte) (cyc : Nat) :
    (State.accessFrame s hd session originPort write idx sub data cyc).boot = s.boot ∧ (State.accessFrame s hd session originPort write idx sub data cyc).pending = s.pending ∧ (State.accessFrame s hd session originPort write idx sub data cyc).active = s.active ∧ (State.accessFrame s hd session originPort write idx sub data cyc).tick.counter = s.tick.counter ∧ (State.accessFrame s hd session originPort write idx sub data cyc).tick.on = s.tick.on ∧ (State.accessFrame s hd session originPort write idx sub data cyc).tick.part = s.tick.part := by
  unfold State.accessFrame State.galtFrame; (try dsimp only); all_goals ((repeat' split) <;> simp)
@[simp] theorem State.endSession_keeps (s : State) (id : Byte) :
    (State.endSession s id).boot = s.boot ∧ (State.endSession s id).pending = s.pending ∧ (State.endSession s id).lock.fuse = s.lock.fuse ∧ (State.endSession s id).active = s.active ∧ (State.endSession s id).tick.counter = s.tick.counter ∧ (State.endSession s id).tick.on = s.tick.on ∧ (State.endSession s id).tick.part = s.tick.part := by
  unfold State.endSession; (try dsimp only); all_goals ((repeat' split) <;> simp)
@[simp] theorem State.response_keeps (s : State) (session : Byte) (status : BitVec 16) (abort : BitVec 32) (data : List Byte) :
    (State.response s session status abort data).boot = s.boot ∧ (State.response s session status abort data).pending = s.pending ∧ (State.response s session status abort data).active = s.active ∧ (State.response s session status abort data).tick.counter = s.tick.counter ∧ (State.response s session status abort data).tick.on = s.tick.on ∧ (State.response s session status abort data).tick.part = s.tick.part := by
  unfold State.response; (try dsimp only); all_goals ((repeat' split) <;> simp)
@[simp] theorem State.responseFrame_keeps (s : State) (hd : FrameHead) (session : Byte) (write : Bool) (idx : BitVec 16) (sub : BitVec 8) (status : BitVec 16) (abort : BitVec 32) (data : List Byte) :
    (State.responseFrame s hd session write idx sub status abort data).boot = s.boot ∧ (State.responseFrame s hd session write idx sub status abort data).pending = s.pending ∧ (State.responseFrame s hd session write idx sub status abort data).active = s.active ∧ (State.responseFrame s hd session write idx sub status abort data).tick.counter = s.tick.counter ∧ (State.responseFrame s hd session write idx sub status abort data).tick.on = s.tick.on ∧ (State.responseFrame s hd session write idx sub status abort data).tick.part = s.tick.part := by
  unfold State.responseFrame State.galtFrame; (try dsimp only); all_goals ((repeat' split) <;> simp)
@[simp] theorem State.accessTimeout_keeps (s : State) (session : Byte) :
    (State.accessTimeout s session).boot = s.boot ∧ (State.accessTimeout s session).pending = s.pending ∧ (State.accessTimeout s session).lock.fuse = s.lock.fuse ∧ (State.accessTimeout s session).active = s.active ∧ (State.accessTimeout s session).tick.counter = s.tick.counter ∧ (State.accessTimeout s session).tick.on = s.tick.on ∧ (State.accessTimeout s session).tick.part = s.tick.part := by
  unfold State.accessTimeout; (try dsimp only); all_goals ((repeat' split) <;> simp)
@[simp] theorem State.nmtByte_keeps (s : State) (command : Byte) :
    (State.nmtByte s command).pending = s.pending ∧ (State.nmtByte s command).lock.fuse = s.lock.fuse := by
  unfold State.nmtByte; (try dsimp only); all_goals ((repeat' split) <;> simp)
@[simp] theorem State.galtNmt_keeps (s : State) (hd : FrameHead) (command : Byte) :
    (State.galtNmt s hd command).pending = s.pending ∧ (State.galtNmt s hd command).lock.fuse = s.lock.fuse := by
  unfold State.galtNmt State.galtFrame; (try dsimp only); all_goals ((repeat' split) <;> simp)
@[simp] theorem State.setStream_keeps (s : State) (r : Nat) (x : StreamRt) :
    (State.setStream s r x).boot = s.boot ∧ (State.setStream s r x).pending = s.pending ∧ (State.setStream s r x).lock.fuse = s.lock.fuse ∧ (State.setStream s r x).active = s.active ∧ (State.setStream s r x).tick.counter = s.tick.counter ∧ (State.setStream s r x).tick.on = s.tick.on ∧ (State.setStream s r x).tick.part = s.tick.part := by
  unfold State.setStream; (try dsimp only); all_goals ((repeat' split) <;> simp)
@[simp] theorem State.streamNext_keeps (s : State) (r : Nat) :
    (State.streamNext s r).boot = s.boot ∧ (State.streamNext s r).pending = s.pending ∧ (State.streamNext s r).lock.fuse = s.lock.fuse ∧ (State.streamNext s r).active = s.active ∧ (State.streamNext s r).tick.counter = s.tick.counter ∧ (State.streamNext s r).tick.on = s.tick.on ∧ (State.streamNext s r).tick.part = s.tick.part := by
  unfold State.streamNext; (try dsimp only); all_goals ((repeat' split) <;> simp)
@[simp] theorem State.streamSend_keeps (s : State) (r : Nat) :
    (State.streamSend s r).boot = s.boot ∧ (State.streamSend s r).pending = s.pending ∧ (State.streamSend s r).lock.fuse = s.lock.fuse ∧ (State.streamSend s r).active = s.active ∧ (State.streamSend s r).tick.counter = s.tick.counter ∧ (State.streamSend s r).tick.on = s.tick.on ∧ (State.streamSend s r).tick.part = s.tick.part := by
  unfold State.streamSend; (try dsimp only); all_goals ((repeat' split) <;> simp)
@[simp] theorem State.streamResend_keeps (s : State) (r : Nat) :
    (State.streamResend s r).boot = s.boot ∧ (State.streamResend s r).pending = s.pending ∧ (State.streamResend s r).lock.fuse = s.lock.fuse ∧ (State.streamResend s r).active = s.active ∧ (State.streamResend s r).tick.counter = s.tick.counter ∧ (State.streamResend s r).tick.on = s.tick.on ∧ (State.streamResend s r).tick.part = s.tick.part := by
  unfold State.streamResend; (try dsimp only); all_goals ((repeat' split) <;> simp)
@[simp] theorem State.setOrigin_keeps (s : State) (o : OriginRt) :
    (State.setOrigin s o).boot = s.boot ∧ (State.setOrigin s o).pending = s.pending ∧ (State.setOrigin s o).lock.fuse = s.lock.fuse ∧ (State.setOrigin s o).active = s.active ∧ (State.setOrigin s o).tick.counter = s.tick.counter ∧ (State.setOrigin s o).tick.on = s.tick.on ∧ (State.setOrigin s o).tick.part = s.tick.part := by
  unfold State.setOrigin; (try dsimp only); all_goals ((repeat' split) <;> simp)
@[simp] theorem State.ack_keeps (s : State) (org : BitVec 8) (r : Nat) (q : BitVec 16) :
    (State.ack s org r q).boot = s.boot ∧ (State.ack s org r q).pending = s.pending ∧ (State.ack s org r q).lock.fuse = s.lock.fuse ∧ (State.ack s org r q).active = s.active ∧ (State.ack s org r q).tick.counter = s.tick.counter ∧ (State.ack s org r q).tick.on = s.tick.on ∧ (State.ack s org r q).tick.part = s.tick.part := by
  unfold State.ack; (try dsimp only); all_goals ((repeat' split) <;> simp)
@[simp] theorem State.judge_keeps (s : State) (org : BitVec 8) (serial : BitVec 32) (r : Nat) (q : BitVec 16) (b : BitVec 128) :
    (State.judge s org serial r q b).boot = s.boot ∧ (State.judge s org serial r q b).pending = s.pending ∧ (State.judge s org serial r q b).lock.fuse = s.lock.fuse ∧ (State.judge s org serial r q b).active = s.active ∧ (State.judge s org serial r q b).tick.counter = s.tick.counter ∧ (State.judge s org serial r q b).tick.on = s.tick.on ∧ (State.judge s org serial r q b).tick.part = s.tick.part := by
  unfold State.judge; (try dsimp only); all_goals ((repeat' split) <;> simp)
@[simp] theorem State.judgeAll_keeps (s : State) (o : BitVec 8) (e : BitVec 32) (r : Nat) (q : BitVec 16) (l : List (BitVec 128)) :
    (s.judgeAll o e r q l).boot = s.boot ∧ (s.judgeAll o e r q l).pending = s.pending ∧ (s.judgeAll o e r q l).lock.fuse = s.lock.fuse ∧ (s.judgeAll o e r q l).active = s.active ∧ (s.judgeAll o e r q l).tick.counter = s.tick.counter ∧ (s.judgeAll o e r q l).tick.on = s.tick.on ∧ (s.judgeAll o e r q l).tick.part = s.tick.part := by
  induction l generalizing s q with
  | nil => simp [State.judgeAll]
  | cons a t ih => simp [State.judgeAll, ih]
@[simp] theorem State.streamFrame_keeps (s : State) (hd : FrameHead) (r : Nat) (q : BitVec 16) (recs : List (BitVec 128)) :
    (State.streamFrame s hd r q recs).boot = s.boot ∧ (State.streamFrame s hd r q recs).pending = s.pending ∧ (State.streamFrame s hd r q recs).lock.fuse = s.lock.fuse ∧ (State.streamFrame s hd r q recs).active = s.active ∧ (State.streamFrame s hd r q recs).tick.counter = s.tick.counter ∧ (State.streamFrame s hd r q recs).tick.on = s.tick.on ∧ (State.streamFrame s hd r q recs).tick.part = s.tick.part := by
  unfold State.streamFrame State.galtFrame; (try dsimp only); all_goals ((repeat' split) <;> simp)
@[simp] theorem State.acked_keeps (s : State) (r : Nat) (q : BitVec 16) :
    (State.acked s r q).boot = s.boot ∧ (State.acked s r q).pending = s.pending ∧ (State.acked s r q).lock.fuse = s.lock.fuse ∧ (State.acked s r q).active = s.active ∧ (State.acked s r q).tick.counter = s.tick.counter ∧ (State.acked s r q).tick.on = s.tick.on ∧ (State.acked s r q).tick.part = s.tick.part := by
  unfold State.acked; (try dsimp only); all_goals ((repeat' split) <;> simp)
@[simp] theorem State.ackFrame_keeps (s : State) (hd : FrameHead) (r : Nat) (q : BitVec 16) :
    (State.ackFrame s hd r q).boot = s.boot ∧ (State.ackFrame s hd r q).pending = s.pending ∧ (State.ackFrame s hd r q).lock.fuse = s.lock.fuse ∧ (State.ackFrame s hd r q).active = s.active ∧ (State.ackFrame s hd r q).tick.counter = s.tick.counter ∧ (State.ackFrame s hd r q).tick.on = s.tick.on ∧ (State.ackFrame s hd r q).tick.part = s.tick.part := by
  unfold State.ackFrame State.galtFrame; (try dsimp only); all_goals ((repeat' split) <;> simp)
@[simp] theorem State.credited_keeps (s : State) (r : Nat) (count : BitVec 16) :
    (State.credited s r count).boot = s.boot ∧ (State.credited s r count).pending = s.pending ∧ (State.credited s r count).lock.fuse = s.lock.fuse ∧ (State.credited s r count).active = s.active ∧ (State.credited s r count).tick.counter = s.tick.counter ∧ (State.credited s r count).tick.on = s.tick.on ∧ (State.credited s r count).tick.part = s.tick.part := by
  unfold State.credited; (try dsimp only); all_goals ((repeat' split) <;> simp)
@[simp] theorem State.creditFrame_keeps (s : State) (hd : FrameHead) (r : Nat) (count : BitVec 16) :
    (State.creditFrame s hd r count).boot = s.boot ∧ (State.creditFrame s hd r count).pending = s.pending ∧ (State.creditFrame s hd r count).lock.fuse = s.lock.fuse ∧ (State.creditFrame s hd r count).active = s.active ∧ (State.creditFrame s hd r count).tick.counter = s.tick.counter ∧ (State.creditFrame s hd r count).tick.on = s.tick.on ∧ (State.creditFrame s hd r count).tick.part = s.tick.part := by
  unfold State.creditFrame State.galtFrame; (try dsimp only); all_goals ((repeat' split) <;> simp)
@[simp] theorem State.breakDetected_keeps (s : State) :
    (State.breakDetected s).boot = s.boot ∧ (State.breakDetected s).pending = s.pending ∧ (State.breakDetected s).lock.fuse = s.lock.fuse ∧ (State.breakDetected s).active = s.active ∧ (State.breakDetected s).tick.counter = s.tick.counter ∧ (State.breakDetected s).tick.on = s.tick.on ∧ (State.breakDetected s).tick.part = s.tick.part := by
  unfold State.breakDetected; (try dsimp only); all_goals ((repeat' split) <;> simp)
@[simp] theorem State.breakFrame_keeps (s : State) (hd : FrameHead) (addr : Byte) :
    (State.breakFrame s hd addr).boot = s.boot ∧ (State.breakFrame s hd addr).pending = s.pending ∧ (State.breakFrame s hd addr).lock.fuse = s.lock.fuse ∧ (State.breakFrame s hd addr).active = s.active ∧ (State.breakFrame s hd addr).tick.counter = s.tick.counter ∧ (State.breakFrame s hd addr).tick.on = s.tick.on ∧ (State.breakFrame s hd addr).tick.part = s.tick.part := by
  unfold State.breakFrame State.galtFrame; (try dsimp only); all_goals ((repeat' split) <;> simp)
@[simp] theorem State.characterLock_keeps (s : State) :
    (State.characterLock s).boot = s.boot ∧ (State.characterLock s).pending = s.pending ∧ (State.characterLock s).lock.fuse = s.lock.fuse ∧ (State.characterLock s).active = s.active ∧ (State.characterLock s).tick.counter = s.tick.counter ∧ (State.characterLock s).tick.on = s.tick.on ∧ (State.characterLock s).tick.part = s.tick.part := by
  unfold State.characterLock; (try dsimp only); all_goals ((repeat' split) <;> simp)
@[simp] theorem State.restoredFrame_keeps (s : State) (hd : FrameHead) (addr : Byte) :
    (State.restoredFrame s hd addr).boot = s.boot ∧ (State.restoredFrame s hd addr).pending = s.pending ∧ (State.restoredFrame s hd addr).lock.fuse = s.lock.fuse ∧ (State.restoredFrame s hd addr).active = s.active ∧ (State.restoredFrame s hd addr).tick.counter = s.tick.counter ∧ (State.restoredFrame s hd addr).tick.on = s.tick.on ∧ (State.restoredFrame s hd addr).tick.part = s.tick.part := by
  unfold State.restoredFrame State.galtFrame; (try dsimp only); all_goals ((repeat' split) <;> simp)
@[simp] theorem State.galtBoundary_keeps (s : State) :
    (State.galtBoundary s).boot = s.boot ∧ (State.galtBoundary s).pending = s.pending ∧ (State.galtBoundary s).lock.fuse = s.lock.fuse ∧ (State.galtBoundary s).active = s.active ∧ (State.galtBoundary s).tick.counter = s.tick.counter ∧ (State.galtBoundary s).tick.on = s.tick.on ∧ (State.galtBoundary s).tick.part = s.tick.part := by
  unfold State.galtBoundary; (try dsimp only); all_goals ((repeat' split) <;> simp)
@[simp] theorem State.closeTick_keeps (s : State) :
    (State.closeTick s).boot = s.boot ∧ (State.closeTick s).pending = s.pending ∧ (State.closeTick s).lock.fuse = s.lock.fuse ∧ (State.closeTick s).active = s.active ∧ (State.closeTick s).tick.counter = s.tick.counter ∧ (State.closeTick s).tick.on = s.tick.on ∧ (State.closeTick s).tick.part = s.tick.part := by
  unfold State.closeTick; (try dsimp only); all_goals ((repeat' split) <;> (first | (simp; done) | (refine ⟨?_, ?_, ?_, ?_, ?_, ?_, ?_⟩ <;> (first | (simp; done) | ((refine (foldl_keeps_boot _ _ _ ?_).trans ?_) <;> intros <;> (repeat' split) <;> simp; done) | ((refine (foldl_keeps_pending _ _ _ ?_).trans ?_) <;> intros <;> (repeat' split) <;> simp; done) | ((refine (foldl_keeps_lock_fuse _ _ _ ?_).trans ?_) <;> intros <;> (repeat' split) <;> simp; done) | ((refine (foldl_keeps_active _ _ _ ?_).trans ?_) <;> intros <;> (repeat' split) <;> simp; done) | ((refine (foldl_keeps_tick_counter _ _ _ ?_).trans ?_) <;> intros <;> (repeat' split) <;> simp; done) | ((refine (foldl_keeps_tick_on _ _ _ ?_).trans ?_) <;> intros <;> (repeat' split) <;> simp; done) | ((refine (foldl_keeps_tick_part _ _ _ ?_).trans ?_) <;> intros <;> (repeat' split) <;> simp; done)))))
@[simp] theorem State.moveResets_keeps (s : State) :
    (State.moveResets s).boot = s.boot ∧ (State.moveResets s).pending = s.pending ∧ (State.moveResets s).lock.fuse = s.lock.fuse ∧ (State.moveResets s).active = s.active ∧ (State.moveResets s).tick.counter = s.tick.counter ∧ (State.moveResets s).tick.on = s.tick.on ∧ (State.moveResets s).tick.part = s.tick.part := by
  unfold State.moveResets; (try dsimp only); all_goals ((repeat' split) <;> simp)
@[simp] theorem State.reconnect_keeps (s : State) (l : Nat) (c : LaneRt → LaneRt) :
    (State.reconnect s l c).boot = s.boot ∧ (State.reconnect s l c).pending = s.pending ∧ (State.reconnect s l c).lock.fuse = s.lock.fuse ∧ (State.reconnect s l c).active = s.active ∧ (State.reconnect s l c).tick.counter = s.tick.counter ∧ (State.reconnect s l c).tick.on = s.tick.on ∧ (State.reconnect s l c).tick.part = s.tick.part := by
  unfold State.reconnect; (try dsimp only); all_goals ((repeat' split) <;> simp)
@[simp] theorem State.dropHalves_keeps (s : State) (n : Nat) :
    (State.dropHalves s n).boot = s.boot ∧ (State.dropHalves s n).pending = s.pending ∧ (State.dropHalves s n).lock.fuse = s.lock.fuse ∧ (State.dropHalves s n).active = s.active ∧ (State.dropHalves s n).tick.counter = s.tick.counter ∧ (State.dropHalves s n).tick.on = s.tick.on ∧ (State.dropHalves s n).tick.part = s.tick.part := by
  unfold State.dropHalves; (try dsimp only); all_goals ((repeat' split) <;> simp)
@[simp] theorem State.laneActivation_keeps (old new : Tbl Nat) (ch : List Nat) (s : State) (l : Nat) :
    (State.laneActivation old new ch s l).boot = s.boot ∧ (State.laneActivation old new ch s l).pending = s.pending ∧ (State.laneActivation old new ch s l).lock.fuse = s.lock.fuse ∧ (State.laneActivation old new ch s l).active = s.active ∧ (State.laneActivation old new ch s l).tick.counter = s.tick.counter ∧ (State.laneActivation old new ch s l).tick.on = s.tick.on ∧ (State.laneActivation old new ch s l).tick.part = s.tick.part := by
  unfold State.laneActivation; (try dsimp only); all_goals ((repeat' split) <;> simp)
@[simp] theorem State.leadChange_keeps (ch : List Nat) (s : State) (e : Nat) :
    (State.leadChange ch s e).boot = s.boot ∧ (State.leadChange ch s e).pending = s.pending ∧ (State.leadChange ch s e).lock.fuse = s.lock.fuse ∧ (State.leadChange ch s e).active = s.active ∧ (State.leadChange ch s e).tick.counter = s.tick.counter ∧ (State.leadChange ch s e).tick.on = s.tick.on ∧ (State.leadChange ch s e).tick.part = s.tick.part := by
  unfold State.leadChange; (try dsimp only); all_goals ((repeat' split) <;> simp)
@[simp] theorem State.activateLanes_keeps (old : Tbl Nat) (ch : List Nat) (s : State) :
    (State.activateLanes old ch s).boot = s.boot ∧ (State.activateLanes old ch s).pending = s.pending ∧ (State.activateLanes old ch s).lock.fuse = s.lock.fuse ∧ (State.activateLanes old ch s).active = s.active ∧ (State.activateLanes old ch s).tick.counter = s.tick.counter ∧ (State.activateLanes old ch s).tick.on = s.tick.on ∧ (State.activateLanes old ch s).tick.part = s.tick.part := by
  unfold State.activateLanes; (try dsimp only); all_goals ((repeat' split) <;> simp)
@[simp] theorem State.ringCut_keeps (s : State) (r : Nat) :
    (State.ringCut s r).boot = s.boot ∧ (State.ringCut s r).pending = s.pending ∧ (State.ringCut s r).lock.fuse = s.lock.fuse ∧ (State.ringCut s r).active = s.active ∧ (State.ringCut s r).tick.counter = s.tick.counter ∧ (State.ringCut s r).tick.on = s.tick.on ∧ (State.ringCut s r).tick.part = s.tick.part := by
  unfold State.ringCut; (try dsimp only); all_goals ((repeat' split) <;> simp)
@[simp] theorem State.ringActivation_keeps (ch : List Nat) (s : State) (r : Nat) :
    (State.ringActivation ch s r).boot = s.boot ∧ (State.ringActivation ch s r).pending = s.pending ∧ (State.ringActivation ch s r).lock.fuse = s.lock.fuse ∧ (State.ringActivation ch s r).active = s.active ∧ (State.ringActivation ch s r).tick.counter = s.tick.counter ∧ (State.ringActivation ch s r).tick.on = s.tick.on ∧ (State.ringActivation ch s r).tick.part = s.tick.part := by
  unfold State.ringActivation; (try dsimp only); all_goals ((repeat' split) <;> simp)
@[simp] theorem State.ioActivation_keeps (old : Tbl Nat) (ch : List Nat) (s : State) :
    (State.ioActivation old ch s).boot = s.boot ∧ (State.ioActivation old ch s).pending = s.pending ∧ (State.ioActivation old ch s).lock.fuse = s.lock.fuse ∧ (State.ioActivation old ch s).active = s.active ∧ (State.ioActivation old ch s).tick.counter = s.tick.counter ∧ (State.ioActivation old ch s).tick.on = s.tick.on ∧ (State.ioActivation old ch s).tick.part = s.tick.part := by
  unfold State.ioActivation; (try dsimp only); all_goals ((repeat' split) <;> simp)
@[simp] theorem State.resolveAffected_keeps (s : State) (old new : Tbl Nat) (ch : List Nat) :
    (State.resolveAffected s old new ch).boot = s.boot ∧ (State.resolveAffected s old new ch).pending = s.pending ∧ (State.resolveAffected s old new ch).lock.fuse = s.lock.fuse ∧ (State.resolveAffected s old new ch).active = s.active ∧ (State.resolveAffected s old new ch).tick.counter = s.tick.counter ∧ (State.resolveAffected s old new ch).tick.on = s.tick.on ∧ (State.resolveAffected s old new ch).tick.part = s.tick.part := by
  unfold State.resolveAffected; (try dsimp only); all_goals ((repeat' split) <;> simp)
@[simp] theorem State.overlapActivation_keeps (old : Tbl Nat) (ch : List Nat) (s : State) :
    (State.overlapActivation old ch s).boot = s.boot ∧ (State.overlapActivation old ch s).pending = s.pending ∧ (State.overlapActivation old ch s).lock.fuse = s.lock.fuse ∧ (State.overlapActivation old ch s).active = s.active ∧ (State.overlapActivation old ch s).tick.counter = s.tick.counter ∧ (State.overlapActivation old ch s).tick.on = s.tick.on ∧ (State.overlapActivation old ch s).tick.part = s.tick.part := by
  unfold State.overlapActivation; (try dsimp only); all_goals ((repeat' split) <;> simp)
@[simp] theorem State.oneShotActivation_keeps (old : Tbl Nat) (s : State) :
    (State.oneShotActivation old s).boot = s.boot ∧ (State.oneShotActivation old s).pending = s.pending ∧ (State.oneShotActivation old s).lock.fuse = s.lock.fuse ∧ (State.oneShotActivation old s).active = s.active ∧ (State.oneShotActivation old s).tick.counter = s.tick.counter ∧ (State.oneShotActivation old s).tick.on = s.tick.on ∧ (State.oneShotActivation old s).tick.part = s.tick.part := by
  unfold State.oneShotActivation; (try dsimp only); all_goals ((repeat' split) <;> simp)
@[simp] theorem State.activate_keeps (s : State) (new : Tbl Nat) :
    (State.activate s new).boot = s.boot ∧ (State.activate s new).pending = s.pending ∧ (State.activate s new).lock.fuse = s.lock.fuse ∧ (State.activate s new).tick.counter = s.tick.counter ∧ (State.activate s new).tick.on = s.tick.on ∧ (State.activate s new).tick.part = s.tick.part := by
  unfold State.activate; (try dsimp only); all_goals ((repeat' split) <;> simp)
@[simp] theorem State.closePins_keeps (s : State) :
    (State.closePins s).boot = s.boot ∧ (State.closePins s).pending = s.pending ∧ (State.closePins s).lock.fuse = s.lock.fuse ∧ (State.closePins s).active = s.active ∧ (State.closePins s).tick.counter = s.tick.counter ∧ (State.closePins s).tick.on = s.tick.on ∧ (State.closePins s).tick.part = s.tick.part := by
  unfold State.closePins; (try dsimp only); all_goals ((repeat' split) <;> (first | (simp; done) | (refine ⟨?_, ?_, ?_, ?_, ?_, ?_, ?_⟩ <;> (first | (simp; done) | ((refine (foldl_keeps_boot _ _ _ ?_).trans ?_) <;> intros <;> (repeat' split) <;> simp; done) | ((refine (foldl_keeps_pending _ _ _ ?_).trans ?_) <;> intros <;> (repeat' split) <;> simp; done) | ((refine (foldl_keeps_lock_fuse _ _ _ ?_).trans ?_) <;> intros <;> (repeat' split) <;> simp; done) | ((refine (foldl_keeps_active _ _ _ ?_).trans ?_) <;> intros <;> (repeat' split) <;> simp; done) | ((refine (foldl_keeps_tick_counter _ _ _ ?_).trans ?_) <;> intros <;> (repeat' split) <;> simp; done) | ((refine (foldl_keeps_tick_on _ _ _ ?_).trans ?_) <;> intros <;> (repeat' split) <;> simp; done) | ((refine (foldl_keeps_tick_part _ _ _ ?_).trans ?_) <;> intros <;> (repeat' split) <;> simp; done)))))
@[simp] theorem State.absence_keeps (s : State) (n : Nat) :
    (State.absence s n).boot = s.boot ∧ (State.absence s n).pending = s.pending ∧ (State.absence s n).lock.fuse = s.lock.fuse ∧ (State.absence s n).active = s.active ∧ (State.absence s n).tick.counter = s.tick.counter ∧ (State.absence s n).tick.on = s.tick.on ∧ (State.absence s n).tick.part = s.tick.part := by
  unfold State.absence; (try dsimp only); all_goals ((repeat' split) <;> simp)
@[simp] theorem State.tickTriggers_keeps (s : State) :
    (State.tickTriggers s).boot = s.boot ∧ (State.tickTriggers s).pending = s.pending ∧ (State.tickTriggers s).lock.fuse = s.lock.fuse ∧ (State.tickTriggers s).active = s.active ∧ (State.tickTriggers s).tick.counter = s.tick.counter ∧ (State.tickTriggers s).tick.on = s.tick.on ∧ (State.tickTriggers s).tick.part = s.tick.part := by
  unfold State.tickTriggers; (try dsimp only); all_goals ((repeat' split) <;> simp)
@[simp] theorem State.syncTriggers_keeps (s : State) :
    (State.syncTriggers s).boot = s.boot ∧ (State.syncTriggers s).pending = s.pending ∧ (State.syncTriggers s).lock.fuse = s.lock.fuse ∧ (State.syncTriggers s).active = s.active ∧ (State.syncTriggers s).tick.counter = s.tick.counter ∧ (State.syncTriggers s).tick.on = s.tick.on ∧ (State.syncTriggers s).tick.part = s.tick.part := by
  unfold State.syncTriggers; (try dsimp only); all_goals ((repeat' split) <;> simp)
@[simp] theorem State.bankSwaps_keeps (s : State) :
    (State.bankSwaps s).boot = s.boot ∧ (State.bankSwaps s).pending = s.pending ∧ (State.bankSwaps s).lock.fuse = s.lock.fuse ∧ (State.bankSwaps s).active = s.active ∧ (State.bankSwaps s).tick.counter = s.tick.counter ∧ (State.bankSwaps s).tick.on = s.tick.on ∧ (State.bankSwaps s).tick.part = s.tick.part := by
  unfold State.bankSwaps; (try dsimp only); all_goals ((repeat' split) <;> simp)
@[simp] theorem State.totClears_keeps (s : State) :
    (State.totClears s).boot = s.boot ∧ (State.totClears s).pending = s.pending ∧ (State.totClears s).lock.fuse = s.lock.fuse ∧ (State.totClears s).active = s.active ∧ (State.totClears s).tick.counter = s.tick.counter ∧ (State.totClears s).tick.on = s.tick.on ∧ (State.totClears s).tick.part = s.tick.part := by
  unfold State.totClears; (try dsimp only); all_goals ((repeat' split) <;> simp)
@[simp] theorem State.beforeDeliveries_keeps (s : State) :
    (State.beforeDeliveries s).boot = s.boot ∧ (State.beforeDeliveries s).pending = s.pending ∧ (State.beforeDeliveries s).lock.fuse = s.lock.fuse ∧ (State.beforeDeliveries s).active = s.active ∧ (State.beforeDeliveries s).tick.counter = s.tick.counter ∧ (State.beforeDeliveries s).tick.on = s.tick.on ∧ (State.beforeDeliveries s).tick.part = s.tick.part := by
  unfold State.beforeDeliveries; (try dsimp only); all_goals ((repeat' split) <;> simp)
@[simp] theorem State.takeDeliveries_keeps (s : State) :
    (State.takeDeliveries s).boot = s.boot ∧ (State.takeDeliveries s).pending = s.pending ∧ (State.takeDeliveries s).lock.fuse = s.lock.fuse ∧ (State.takeDeliveries s).active = s.active ∧ (State.takeDeliveries s).tick.counter = s.tick.counter ∧ (State.takeDeliveries s).tick.on = s.tick.on ∧ (State.takeDeliveries s).tick.part = s.tick.part := by
  unfold State.takeDeliveries; (try dsimp only); all_goals ((repeat' split) <;> simp)
@[simp] theorem State.prologue_keeps (s : State) (a : Tbl Nat) (served : List Nat) (ch : Option (List Nat)) :
    (State.prologue s a served ch).boot = s.boot ∧ (State.prologue s a served ch).pending = s.pending ∧ (State.prologue s a served ch).lock.fuse = s.lock.fuse ∧ (State.prologue s a served ch).active = s.active ∧ (State.prologue s a served ch).tick.counter = s.tick.counter ∧ (State.prologue s a served ch).tick.on = s.tick.on ∧ (State.prologue s a served ch).tick.part = s.tick.part := by
  unfold State.prologue; (try dsimp only); all_goals ((repeat' split) <;> simp)
@[simp] theorem State.boundaryTail_keeps (s : State) (coef : Option (Nat × Bool × Nat)) :
    (State.boundaryTail s coef).boot = s.boot ∧ (State.boundaryTail s coef).pending = s.pending ∧ (State.boundaryTail s coef).lock.fuse = s.lock.fuse := by
  unfold State.boundaryTail; (try dsimp only); all_goals ((repeat' split) <;> simp)
@[simp] theorem State.openTick_keeps (s : State) (new : Tbl Nat) (act resume : Bool) :
    (State.openTick s new act resume).boot = s.boot ∧ (State.openTick s new act resume).pending = s.pending ∧ (State.openTick s new act resume).lock.fuse = s.lock.fuse ∧ (State.openTick s new act resume).active = s.active := by
  unfold State.openTick; (try dsimp only); all_goals ((repeat' split) <;> simp)
@[simp] theorem State.boundaryMarkers_keeps (s : State) (t : TickSt) (step : Int) :
    (State.boundaryMarkers s t step).boot = s.boot ∧ (State.boundaryMarkers s t step).pending = s.pending ∧ (State.boundaryMarkers s t step).lock.fuse = s.lock.fuse ∧ (State.boundaryMarkers s t step).active = s.active ∧ (State.boundaryMarkers s t step).tick.counter = s.tick.counter ∧ (State.boundaryMarkers s t step).tick.on = s.tick.on ∧ (State.boundaryMarkers s t step).tick.part = s.tick.part := by
  unfold State.boundaryMarkers; (try dsimp only); all_goals ((repeat' split) <;> simp)
@[simp] theorem State.boundary_keeps (s : State) (resume : Bool) :
    (State.boundary s resume).boot = s.boot ∧ (State.boundary s resume).pending = s.pending ∧ (State.boundary s resume).lock.fuse = s.lock.fuse := by
  unfold State.boundary; (try dsimp only); all_goals ((repeat' split) <;> simp)
@[simp] theorem State.tickBoundary_keeps (s : State) :
    (State.tickBoundary s).boot = s.boot ∧ (State.tickBoundary s).pending = s.pending ∧ (State.tickBoundary s).lock.fuse = s.lock.fuse := by
  unfold State.tickBoundary; (try dsimp only); all_goals ((repeat' split) <;> simp)
@[simp] theorem State.layRings_keeps (s : State) :
    (State.layRings s).boot = s.boot ∧ (State.layRings s).pending = s.pending ∧ (State.layRings s).lock.fuse = s.lock.fuse ∧ (State.layRings s).active = s.active ∧ (State.layRings s).tick.counter = s.tick.counter ∧ (State.layRings s).tick.on = s.tick.on ∧ (State.layRings s).tick.part = s.tick.part := by
  unfold State.layRings; (try dsimp only); all_goals ((repeat' split) <;> simp)
@[simp] theorem State.firstTick_keeps (s : State) :
    (State.firstTick s).pending = s.pending ∧ (State.firstTick s).lock.fuse = s.lock.fuse := by
  unfold State.firstTick; (try dsimp only); all_goals ((repeat' split) <;> simp)
@[simp] theorem State.tickZero_keeps (s : State) :
    (State.tickZero s).pending = s.pending ∧ (State.tickZero s).lock.fuse = s.lock.fuse := by
  unfold State.tickZero; (try dsimp only); all_goals ((repeat' split) <;> simp)
@[simp] theorem State.wakeReturn_keeps (s : State) :
    (State.wakeReturn s).boot = s.boot ∧ (State.wakeReturn s).pending = s.pending ∧ (State.wakeReturn s).lock.fuse = s.lock.fuse := by
  unfold State.wakeReturn; (try dsimp only); all_goals ((repeat' split) <;> simp)
@[simp] theorem State.bodyOpen_keeps (s : State) :
    (State.bodyOpen s).boot = s.boot ∧ (State.bodyOpen s).pending = s.pending ∧ (State.bodyOpen s).lock.fuse = s.lock.fuse ∧ (State.bodyOpen s).active = s.active ∧ (State.bodyOpen s).tick.counter = s.tick.counter ∧ (State.bodyOpen s).tick.on = s.tick.on := by
  unfold State.bodyOpen; (try dsimp only); all_goals ((repeat' split) <;> simp)
@[simp] theorem State.halfTick_keeps (s : State) :
    (State.halfTick s).boot = s.boot ∧ (State.halfTick s).pending = s.pending ∧ (State.halfTick s).lock.fuse = s.lock.fuse ∧ (State.halfTick s).active = s.active ∧ (State.halfTick s).tick.counter = s.tick.counter ∧ (State.halfTick s).tick.on = s.tick.on ∧ (State.halfTick s).tick.part = s.tick.part := by
  unfold State.halfTick; (try dsimp only); all_goals ((repeat' split) <;> simp)
@[simp] theorem State.guardWindow_keeps (s : State) :
    (State.guardWindow s).boot = s.boot ∧ (State.guardWindow s).pending = s.pending ∧ (State.guardWindow s).lock.fuse = s.lock.fuse ∧ (State.guardWindow s).active = s.active ∧ (State.guardWindow s).tick.counter = s.tick.counter ∧ (State.guardWindow s).tick.on = s.tick.on := by
  unfold State.guardWindow; (try dsimp only); all_goals ((repeat' split) <;> simp)
@[simp] theorem State.recordStore_keeps (s : State) :
    (State.recordStore s).boot = s.boot ∧ (State.recordStore s).pending = s.pending ∧ (State.recordStore s).lock.fuse = s.lock.fuse ∧ (State.recordStore s).active = s.active ∧ (State.recordStore s).tick.counter = s.tick.counter ∧ (State.recordStore s).tick.on = s.tick.on ∧ (State.recordStore s).tick.part = s.tick.part := by
  unfold State.recordStore; (try dsimp only); all_goals ((repeat' split) <;> simp)
@[simp] theorem State.trigEdge_keeps (s : State) (rising : Bool) (cyc : Nat) :
    (State.trigEdge s rising cyc).boot = s.boot ∧ (State.trigEdge s rising cyc).pending = s.pending ∧ (State.trigEdge s rising cyc).lock.fuse = s.lock.fuse ∧ (State.trigEdge s rising cyc).active = s.active ∧ (State.trigEdge s rising cyc).tick.counter = s.tick.counter ∧ (State.trigEdge s rising cyc).tick.on = s.tick.on ∧ (State.trigEdge s rising cyc).tick.part = s.tick.part := by
  unfold State.trigEdge; (try dsimp only); all_goals ((repeat' split) <;> simp)
@[simp] theorem State.clockFaultAll_keeps (s : State) (cause : ClockCause) (cyc : Nat) :
    (State.clockFaultAll s cause cyc).boot = s.boot ∧ (State.clockFaultAll s cause cyc).pending = s.pending ∧ (State.clockFaultAll s cause cyc).lock.fuse = s.lock.fuse ∧ (State.clockFaultAll s cause cyc).active = s.active ∧ (State.clockFaultAll s cause cyc).tick.counter = s.tick.counter ∧ (State.clockFaultAll s cause cyc).tick.part = s.tick.part := by
  unfold State.clockFaultAll; (try dsimp only); all_goals ((repeat' split) <;> simp)
@[simp] theorem State.reqAccess_keeps (s : State) (via : Via) (r : Req) :
    (State.reqAccess s via r).2.2.boot = s.boot ∧ (State.reqAccess s via r).2.2.pending = s.pending ∧ (State.reqAccess s via r).2.2.active = s.active ∧ (State.reqAccess s via r).2.2.tick.counter = s.tick.counter ∧ (State.reqAccess s via r).2.2.tick.on = s.tick.on ∧ (State.reqAccess s via r).2.2.tick.part = s.tick.part := by
  unfold State.reqAccess; (try dsimp only); all_goals ((repeat' split) <;> simp)
@[simp] theorem State.execReq_keeps (s : State) (via : Via) (last : Option (List Byte)) (r : Req) :
    (State.execReq s via last r).2.boot = s.boot ∧ (State.execReq s via last r).2.pending = s.pending ∧ (State.execReq s via last r).2.active = s.active ∧ (State.execReq s via last r).2.tick.counter = s.tick.counter ∧ (State.execReq s via last r).2.tick.on = s.tick.on ∧ (State.execReq s via last r).2.tick.part = s.tick.part := by
  unfold State.execReq; (try dsimp only); all_goals ((repeat' split) <;> simp)
@[simp] theorem State.spiFrame_keeps (s0 : State) (sdi : List Byte) (cyc : Nat) (ready : Bool) :
    (State.spiFrame s0 sdi cyc ready).boot = s0.boot ∧ (State.spiFrame s0 sdi cyc ready).pending = s0.pending ∧ (State.spiFrame s0 sdi cyc ready).active = s0.active ∧ (State.spiFrame s0 sdi cyc ready).tick.counter = s0.tick.counter ∧ (State.spiFrame s0 sdi cyc ready).tick.on = s0.tick.on ∧ (State.spiFrame s0 sdi cyc ready).tick.part = s0.tick.part := by
  unfold State.spiFrame; (try dsimp only); all_goals ((repeat' split) <;> simp)
@[simp] theorem State.svcReply_keeps (s : State) (resp : Option (List Byte)) :
    (State.svcReply s resp).boot = s.boot ∧ (State.svcReply s resp).pending = s.pending ∧ (State.svcReply s resp).lock.fuse = s.lock.fuse ∧ (State.svcReply s resp).active = s.active ∧ (State.svcReply s resp).tick.counter = s.tick.counter ∧ (State.svcReply s resp).tick.on = s.tick.on ∧ (State.svcReply s resp).tick.part = s.tick.part := by
  unfold State.svcReply; (try dsimp only); all_goals ((repeat' split) <;> simp)
@[simp] theorem State.svcExec_keeps (s : State) (cyc : Nat) (r : Req) :
    (State.svcExec s cyc r).boot = s.boot ∧ (State.svcExec s cyc r).pending = s.pending ∧ (State.svcExec s cyc r).active = s.active ∧ (State.svcExec s cyc r).tick.counter = s.tick.counter ∧ (State.svcExec s cyc r).tick.on = s.tick.on ∧ (State.svcExec s cyc r).tick.part = s.tick.part := by
  unfold State.svcExec; (try dsimp only); all_goals ((repeat' split) <;> simp)
@[simp] theorem State.serviceFrame_keeps (s0 : State) (bytes : List Byte) (cyc : Nat) :
    (State.serviceFrame s0 bytes cyc).boot = s0.boot ∧ (State.serviceFrame s0 bytes cyc).pending = s0.pending ∧ (State.serviceFrame s0 bytes cyc).active = s0.active ∧ (State.serviceFrame s0 bytes cyc).tick.counter = s0.tick.counter ∧ (State.serviceFrame s0 bytes cyc).tick.on = s0.tick.on ∧ (State.serviceFrame s0 bytes cyc).tick.part = s0.tick.part := by
  unfold State.serviceFrame; (try dsimp only); all_goals ((repeat' split) <;> simp)
@[simp] theorem State.repeatLast_keeps (s0 : State) (via : Via) (tag : Byte) :
    (State.repeatLast s0 via tag).boot = s0.boot ∧ (State.repeatLast s0 via tag).pending = s0.pending ∧ (State.repeatLast s0 via tag).active = s0.active ∧ (State.repeatLast s0 via tag).tick.counter = s0.tick.counter ∧ (State.repeatLast s0 via tag).tick.on = s0.tick.on ∧ (State.repeatLast s0 via tag).tick.part = s0.tick.part := by
  unfold State.repeatLast; (try dsimp only); all_goals ((repeat' split) <;> simp)

end Sys2Proof.Machine
end

