-- ==== Sys2Proof/Laws/Latch.lean ====
section
/-! SUPPORT. What the operations that time goes through leave alone: only triggers, what they start and what they resolve change. -/
namespace Sys2Proof.Machine
open Sys2Proof

/-- Nothing changed is nothing but triggers changed. -/
theorem State.sameButTriggers_refl (s : State) : s.sameButTriggers s := rfl

/-- Changes of triggers add up. -/
theorem State.sameButTriggers_trans {s t u : State} (h : t.sameButTriggers s) (k : s.sameButTriggers u) : t.sameButTriggers u := by
  unfold State.sameButTriggers at *
  rw [h, k]

/-- A walk over a list whose every step changes triggers only. -/
theorem foldl_sameButTriggers {α : Type} (f : State → α → State) (l : List α) (s : State)
    (h : ∀ s a, (f s a).sameButTriggers s) : (l.foldl f s).sameButTriggers s := by
  induction l generalizing s with
  | nil => exact s.sameButTriggers_refl
  | cons a t ih => exact State.sameButTriggers_trans (ih (f s a)) (h s a)

/-- Starting a conversion (R49) changes its lane and, under slot-pair lock, the source's polarity. -/
theorem State.startConv_sameButTriggers (s : State) (l n : Nat) (t : Trig) (e : Nat) :
    (s.startConv l n t e).sameButTriggers s := by
  unfold State.startConv State.sameButTriggers
  dsimp only
  split <;> rfl

/-- A free lane that starts what waits, or nothing (R48). -/
theorem State.startLane_sameButTriggers (e : Nat) (s : State) (l : Nat) : (State.startLane e s l).sameButTriggers s := by
  unfold State.startLane
  split
  · split
    · exact s.startConv_sameButTriggers ..
    · exact s.sameButTriggers_refl
  · exact s.sameButTriggers_refl

/-- Every free lane at one edge. -/
theorem State.startAll_sameButTriggers (s : State) (e : Nat) : (s.startAll e).sameButTriggers s :=
  foldl_sameButTriggers _ _ _ fun s l => s.startLane_sameButTriggers e l

/-- The start edges before a cycle. -/
theorem State.startsBefore_sameButTriggers (s : State) (c : Nat) : (s.startsBefore c).sameButTriggers s :=
  State.sameButTriggers_trans (foldl_sameButTriggers _ _ _ fun s e => s.startAll_sameButTriggers e) rfl

/-- Accepting a trigger (R55–R62). -/
theorem State.accept_sameButTriggers (s : State) (n : Nat) (t : TickNo) : (s.accept n t).sameButTriggers s := by
  unfold State.accept
  dsimp only
  repeat' split
  all_goals rfl

/-- An event of a slot (R54). -/
theorem State.slotEvent_sameButTriggers (s : State) (t : TickNo) (n : Nat) : (s.slotEvent t n).sameButTriggers s := by
  unfold State.slotEvent
  dsimp only
  split
  · exact s.sameButTriggers_refl
  · split
    · exact State.sameButTriggers_trans (State.accept_sameButTriggers _ n t) rfl
    · rfl

/-- What one latch cycle takes (R53, R56, R62). -/
theorem State.latchCycle_sameButTriggers (s : State) (c : Nat) : (s.latchCycle c).sameButTriggers s := by
  unfold State.latchCycle
  refine State.sameButTriggers_trans (s := (s.startsBefore c)) ?_ (s.startsBefore_sameButTriggers c)
  refine State.sameButTriggers_trans (s := List.foldl (fun x n => State.slotEvent x _ n) _ _) rfl ?_
  exact State.sameButTriggers_trans (foldl_sameButTriggers _ _ _ fun s n => s.slotEvent_sameButTriggers _ n) rfl

end Sys2Proof.Machine
end

