-- ==== Sys2Proof/Laws/Points.lean ====
section
/-! SUPPORT. Some zero and span codes measure a calibration point within its limits, whatever the factory values of the device
are: the premises about `withinLimits` can be met. -/
namespace Sys2Proof.Machine
open Sys2Proof

/-- A quotient of 7 864 320 by a whole number comes within 0.0005 of every number up to 22.5. -/
theorem quotient_near_pos (c : Rat) (h0 : 4 / 10000 < c) (h1 : c ≤ 45 / 2) :
    ∃ d : Int, 0 < d ∧ |7864320 / (d : Rat) - c| ≤ 5 / 10000 := by
  have hc : 0 < c := by linarith
  refine ⟨⌈7864320 / c⌉, Int.ceil_pos.mpr (by positivity), ?_⟩
  have a := Int.le_ceil (7864320 / c)
  have b := Int.ceil_lt_add_one (7864320 / c)
  generalize (⌈7864320 / c⌉ : Int) = d at a b
  have hd : (0 : Rat) < d := lt_of_lt_of_le (by positivity) a
  have a' : 7864320 ≤ (d : Rat) * c := by rwa [div_le_iff₀ hc] at a
  have b' : (d : Rat) * c < 7864320 + c := by
    have := mul_lt_mul_of_pos_right b hc
    rwa [add_mul, div_mul_cancel₀ _ hc.ne', one_mul] at this
  rw [abs_le]
  constructor
  · rw [neg_le_sub_iff_le_add, ← sub_le_iff_le_add, le_div_iff₀ hd]
    have : (d : Rat) * (5 / 10000) ≥ c := by
      have : c * c * 10000 ≤ 5 * 7864320 := by nlinarith
      have h2 : c * c ≤ (d : Rat) * c * (5 / 10000) := by nlinarith
      nlinarith
    linarith
  · have : 7864320 / (d : Rat) ≤ c := by rw [div_le_iff₀ hd]; linarith
    linarith

/-- The same for numbers of either sign. -/
theorem quotient_near (c : Rat) (h0 : -(45 / 2) ≤ c) (h1 : c ≤ 45 / 2) :
    ∃ d : Int, d ≠ 0 ∧ |7864320 / (d : Rat) - c| ≤ 5 / 10000 := by
  rcases lt_or_ge (4 / 10000) c with h | h
  · obtain ⟨d, hd, hh⟩ := quotient_near_pos c h h1
    exact ⟨d, hd.ne', hh⟩
  · rcases lt_or_ge (4 / 10000) (-c) with h' | h'
    · obtain ⟨d, hd, hh⟩ := quotient_near_pos (-c) h' (by linarith)
      refine ⟨-d, by omega, ?_⟩
      rw [show 7864320 / ((-d : Int) : Rat) - c = -(7864320 / (d : Rat) - -c) by push_cast; ring, abs_neg]
      exact hh
    · refine ⟨78643200000, by norm_num, ?_⟩
      rw [abs_le]; push_cast; constructor <;> linarith

/-- The absolute value of the model is that of Mathlib. -/
theorem ratAbs_eq (x : Rat) : ratAbs x = |x| := by
  unfold ratAbs; split
  · rw [abs_of_neg (by assumption)]
  · rw [abs_of_nonneg (by linarith)]

/-- Some zero and span codes measure any point within its limits, whatever the factory values are. -/
theorem withinLimits_reachable (p j : Nat) : ∃ z sp : Int, sp ≠ z ∧
    withinLimits p j ((z : Rat), (7864320 : Rat) / ((sp - z : Int) : Rat) - 1) = true := by
  have hg : -(45 / 2) ≤ (factoryPoint p j).2 + 1 ∧ (factoryPoint p j).2 + 1 ≤ 45 / 2 := by
    have h1 := BitVec.le_toInt (Config.factoryGain p j)
    have h2 := BitVec.toInt_le (x := Config.factoryGain p j)
    simp only [factoryPoint, Rat.mkRat_eq_div]
    generalize (Config.factoryGain p j).toInt = g at h1 h2
    have h1' : (-2147483648 : Rat) ≤ g := by exact_mod_cast h1
    have h2' : (g : Rat) ≤ 2147483647 := by exact_mod_cast h2
    push_cast
    constructor <;> linarith
  obtain ⟨d, hd, hh⟩ := quotient_near _ hg.1 hg.2
  refine ⟨⌊(factoryPoint p j).1⌋, ⌊(factoryPoint p j).1⌋ + d, by omega, ?_⟩
  unfold withinLimits
  simp only [ratAbs_eq, Bool.and_eq_true, decide_eq_true_eq, Rat.mkRat_eq_div]
  constructor
  · have a := Int.floor_le (factoryPoint p j).1
    have b := Int.lt_floor_add_one (factoryPoint p j).1
    rw [abs_le]; push_cast; constructor <;> linarith
  · rw [show ((⌊(factoryPoint p j).1⌋ + d - ⌊(factoryPoint p j).1⌋ : Int) : Rat) = (d : Rat) by push_cast; ring]
    rw [show (7864320 : Rat) / d - 1 - (factoryPoint p j).2 = 7864320 / d - ((factoryPoint p j).2 + 1) by ring]
    push_cast
    exact hh

end Sys2Proof.Machine
end

