-- ==== Sys2Proof/WellFormed.lean ====
section
/-! DEFINITION. Which commands can come from outside at all: lengths and numbers that a port, a bus or a scan can bring. -/
namespace Sys2Proof

/-- An access: the origin byte and node matter on port G only, where they are bytes of the frame and a node address (R435, R456). -/
def Via.wf (v : Via) : Bool := decide (v.port ≠ .g) || (decide (v.origin < 256) && decide (v.node < 64))

/-- A USDO request: expedited transfers up to 56 bytes, segmented ones up to 264 (R430). -/
def UsdoReq.wf : UsdoReq → Bool
  | .write _ _ data => decide (data.length ≤ 56)
  | .segmentedWrite _ _ data => decide (data.length ≤ 264)
  | _ => true

/-- A well-formed command. -/
def Instr.wf : Instr → Bool
  | .commit v | .discard v | .checkOnly v | .challenge v | .seal v | .relock v | .stopClear v | .shutdownClear v
  | .runRequest v | .dozeRequest v | .standbyRequest v | .zeroCalibration v | .spanCalibration v
  | .oneShotSelfCalibration v | .calibrationAbort v => v.wf
  | .laneFaultClear v _ => v.wf
  | .swapRequest v _ => v.wf
  | .totaliserClear v _ => v.wf
  | .readRecords v _ _ => v.wf
  | .creditReturn v _ _ => v.wf
  | .interruptPendingClear v _ => v.wf
  | .captureRearm v _ => v.wf
  | .monitorFaultClear v _ => v.wf
  | .monitorPendingClear v _ => v.wf
  | .staticCode v _ _ => v.wf
  | .resetArm v _ | .resetDisarm v _ | .outputFaultClear v _ => v.wf
  | .faultPendingClear v _ => v.wf
  | .store v sub | .restore v sub => v.wf && decide (sub.val ≠ 0)
  | .objectWrite v _ _ data => v.wf && decide (data.length ≤ 264)
  | .pdoMappingCount v tx k _ => v.wf && (tx || decide (k.val < 4))
  | .repeatLastResponse v _ => v.wf
  | .passwordAttempt v _ => v.wf
  | .responseAttempt v data => v.wf && decide (data.length ≤ 264)
  | .scanEnd ms | .wakeScan ms => decide (ms.length ≤ 24)
  | .usdoRequest _ req _ => req.wf
  | .rpdo _ data _ => decide (data.length ≤ 64)
  | .enumFrame _ _ l | .tableFrame _ l => decide (l.length ≤ 64)
  | .timeFrame _ _ _ l => decide (l.length ≤ 68)
  | .accessFrame _ _ _ _ _ _ data _ => decide (data.length ≤ 264)
  | .responseFrame _ _ _ _ data => decide (data.length ≤ 264)
  | .soundingStart trips | .sound trips => decide (trips.length = 16)
  | .streamFrame _ _ _ recs => decide (1 ≤ recs.length) && decide (recs.length ≤ 4)
  | _ => true

end Sys2Proof
end

