-- ==== Sys2Proof/Tests/Slice0.lean ====
section
/-! SUPPORT. Small tests: terms that are not well formed, a state for the premises of every statement, and single commands
with the results the manual gives. -/
namespace Sys2Proof.Tests
open Sys2Proof Sys2Proof.Machine

set_option Elab.async false

/-- A copy that holds the listed entries (index, sub-index, value). -/
def conf (l : List (Nat × Nat × Nat)) : Tbl Nat := l.foldl (fun t e => tput dflt t (key e.1 e.2.1) e.2.2) []

/-- A running device in its first tick, as shipped. -/
def base : State := { boot := .running, tick := { on := true } }

/-- A running device whose active and shadow copies hold the listed entries. -/
def withConf (l : List (Nat × Nat × Nat)) : State := { base with active := conf l, shadow := conf l }

/-- An access from the host at t0. -/
def host : Via := { port := .h, cyc := 0 }

/-- An access from the service port at t0. -/
def svc : Via := { port := .s, cyc := 0 }

/-- The state after a command. -/
def after (i : Instr) (s : State) : Option State :=
  match exec i s with
  | .next t => some t
  | _ => none

/-- One field of the state after a command. -/
def seen {α : Type} (i : Instr) (s : State) (f : State → α) : Option α := (after i s).map f

/-! Well-formedness: one ill-formed term a check. -/

theorem wf_via_origin : (Instr.commit { port := .g, cyc := 0, origin := 256 }).wf = false := by decide
theorem wf_via_node : (Instr.commit { port := .g, cyc := 0, node := 64 }).wf = false := by decide
theorem wf_via_host_free : (Instr.commit { port := .h, cyc := 0, node := 64 }).wf = true := by decide
theorem wf_expedited : (UsdoReq.write 0x1017 0 (List.replicate 57 0)).wf = false := by decide
theorem wf_segmented : (UsdoReq.segmentedWrite 0x2a01 1 (List.replicate 265 0)).wf = false := by decide +kernel
theorem wf_store_sub : (Instr.store host 0).wf = false := by decide
theorem wf_restore_sub : (Instr.restore host 0).wf = false := by decide
theorem wf_write_length : (Instr.objectWrite host 0x2008 1 (List.replicate 265 0)).wf = false := by decide +kernel
theorem wf_rx_mapping : (Instr.pdoMappingCount host false 4 0).wf = false := by decide
theorem wf_tx_mapping : (Instr.pdoMappingCount host true 7 0).wf = true := by decide
theorem wf_response : (Instr.responseAttempt svc (List.replicate 265 0)).wf = false := by decide +kernel
theorem wf_scan : (Instr.scanEnd (List.replicate 25 0)).wf = false := by decide
theorem wf_wake_scan : (Instr.wakeScan (List.replicate 25 0)).wf = false := by decide
theorem wf_usdo : (Instr.usdoRequest 1 (.write 0x1017 0 (List.replicate 57 0)) 0).wf = false := by decide
theorem wf_rpdo : (Instr.rpdo 0 (List.replicate 65 0) 0).wf = false := by decide
theorem wf_enum : (Instr.enumFrame ⟨0xff, 0, 0, true⟩ 0 (List.replicate 65 ⟨0, 0, 0, false, false⟩)).wf = false := by decide
theorem wf_table : (Instr.tableFrame ⟨0xff, 0, 0, true⟩ (List.replicate 65 ⟨0, 0, 0, false, false⟩)).wf = false := by decide
theorem wf_time : (Instr.timeFrame ⟨0xff, 0, 0, true⟩ ⟨0, 0⟩ 0 (List.replicate 69 0)).wf = false := by decide
theorem wf_access : (Instr.accessFrame ⟨1, 0, 0, true⟩ 0 0 true 0 0 (List.replicate 265 0) 0).wf = false := by decide +kernel
theorem wf_response_frame : (Instr.responseFrame ⟨1, 0, 0, true⟩ ⟨0, true, 0, 0⟩ 0 0 (List.replicate 265 0)).wf = false := by
  decide +kernel
theorem wf_stream_none : (Instr.streamFrame ⟨0, 1, 0, true⟩ 0 0 []).wf = false := by decide
theorem wf_stream_five : (Instr.streamFrame ⟨0, 1, 0, true⟩ 0 0 [0, 0, 0, 0, 0]).wf = false := by decide
theorem wf_ill_via_everywhere :
    [Instr.seal, .relock, .stopClear, .shutdownClear, .runRequest, .dozeRequest, .standbyRequest, .challenge, .discard, .checkOnly,
      .zeroCalibration, .spanCalibration, .oneShotSelfCalibration, .calibrationAbort].all
      (fun c => !(c { port := .g, cyc := 0, node := 64 }).wf) = true := by decide

/-! Premises of the statements: the queue, resets, start-up, ticks. -/

theorem witness_stepRunsFrontCommand : ({ base with pending := [.coreStop, .xoRestart] } : State).pending =
    .coreStop :: [.xoRestart] := rfl
theorem witness_emptyQueueIdles : State.reset.pending = [] := rfl
theorem witness_stepTakesOneCommand : ∃ t, step { base with pending := [.halfTick, .bodyOpen] } = .next t ∧ t.pending = [.bodyOpen] :=
  ⟨_, rfl, rfl⟩
theorem witness_stoppedCore : ({ base with clk := { coreStopped := true } } : State).coreRuns = false ∧
    ∀ b, Instr.halfTick ≠ .powerOnReset b ∧ Instr.halfTick ≠ .nrst b := ⟨rfl, fun _ => ⟨nofun, nofun⟩⟩
theorem witness_sealFuseStaysBlown : ∃ t, ({ base with lock := { fuse := true }, pending := [.nrst 0] } : State).lock.fuse = true ∧
    step { base with lock := { fuse := true }, pending := [.nrst 0] } = .next t := ⟨_, rfl, rfl⟩
theorem witness_sealedNeverOpen : ({ boot := .fuses, lock := { fuse := true }, pending := [.journalScan 0] } : State).sealHolds ∧
    ∃ t, step { boot := .fuses, lock := { fuse := true }, pending := [.journalScan 0] } = .next t :=
  ⟨fun _ h => by cases h <;> contradiction, _, rfl⟩
theorem witness_sealedNeverOpen_running : ({ base with lock := { fuse := true, state := .isSealed } } : State).sealHolds :=
  fun _ _ h => by cases h
theorem witness_errorRegister : ∃ t, base.coreRuns = true ∧ exec .coreStop base = .next t := ⟨_, rfl, rfl⟩
theorem witness_endKeeps : base.can.err = 0 := rfl
theorem witness_endSends : let s : State := { base with can := { started := true, err := 1 } }
    s.can.err ≠ 0 ∧ s.errReg = 0 ∧ s.emcyOn = true ∧ s.canOn = true := by decide
theorem witness_startUp_released : State.reset.coreRuns = true ∧ State.reset.boot = .inReset := by decide
theorem witness_startUp_fuses : let s : State := { boot := .released }; s.coreRuns = true ∧ s.boot = .released := by decide
theorem witness_startUp_scan : let s : State := { boot := .fuses }; s.coreRuns = true ∧ s.boot = .fuses := by decide
theorem witness_tickZero : let s : State := { boot := .checked }
    s.coreRuns = true ∧ s.boot = .checked ∧ s.clk.pll = 2 ∧ s.clockFault = false := by decide
theorem witness_tickBoundary : base.coreRuns = true ∧ base.boundaryDue = true ∧ base.galt.counterNext = none ∧ base.cal.coef = none := by
  decide
theorem witness_tickBoundary_activates :
    let s : State := { base with com := { result := 2, verdictAt := 48660, frozen := some [] } }
    s.boundaryDue = true ∧ s.com.result = 2 ∧ (s.com.verdictAt - (s.tickCycles : Int)) * 1000 ≤ -491520 := by decide +kernel
theorem witness_tickBoundary_too_late :
    let s : State := { base with com := { result := 2, verdictAt := 48661, frozen := some [] } }
    s.boundaryDue = true ∧ ¬ (s.com.verdictAt - (s.tickCycles : Int)) * 1000 ≤ -491520 := by decide +kernel
theorem witness_halfTick : let s : State := { base with tick := { on := true, tickout := true } }
    s.coreRuns = true ∧ s.tick.on = true ∧ s.tick.tickout = true := by decide
theorem witness_bodyOpen : base.coreRuns = true ∧ base.tick.on = true ∧ base.tick.part = .prologue ∧ base.tick.part ≠ .guard := by decide

/-! Premises of the statements: accesses. -/

theorem witness_refusedWrite : writes (.stopClear host) = some (host, 0x2e00, 7, [1]) ∧ base.reached host ∧
    (base.heard host).writeRefusal host 0x2e00 7 [1] ≠ 0 := ⟨rfl, ⟨rfl, by decide⟩, by decide⟩
theorem witness_refusedWrite_challenge :
    let s : State := { base with lock := { state := .isSealed } }
    writes (.responseAttempt svc (List.replicate 16 0)) = some (svc, 0x2c10, 5, List.replicate 16 0) ∧ s.reached svc ∧
      (s.heard svc).writeRefusal svc 0x2c10 5 (List.replicate 16 0) = 0x208 := ⟨rfl, ⟨rfl, by decide⟩, by decide⟩
theorem witness_unservedPort : writes (.commit { port := .n, cyc := 0 }) = some ({ port := .n, cyc := 0 }, 0x2002, 1, [1]) ∧
    base.coreRuns = true ∧ base.begin.portServes .n = false := by decide
theorem witness_checks_index : host.port ≠ .g ∧ (objectAt 0x3000).isNone = true := by decide
theorem witness_checks_sub : (objectAt 0x2000).isSome = true ∧ (entryOf 0x2000 7).isNone = true := by decide
theorem witness_checks_letter : ∃ e, entryOf 0x2001 2 = some e ∧ (e.letter .h).writes = false := ⟨_, rfl, rfl⟩
theorem witness_checks_constant : ∃ e, entryOf 0x2000 0 = some e ∧ (e.letter .h).writes = false ∧ e.letter .h = .c :=
  ⟨_, rfl, rfl, rfl⟩
theorem witness_checks_sealed : ∃ e, entryOf 0x2180 0x15 = some e ∧ (e.letter .h).writes = true ∧ e.sealed = true ∧
    ({ base with lock := { state := .isSealed } } : State).lock.state = .isSealed := ⟨_, rfl, rfl, rfl, rfl⟩
theorem witness_checks_count : ∃ e, entryOf 0x2000 1 = some e ∧ (e.letter .h).writes = true ∧ base.lockCheck e 0x2000 1 [] = 0 ∧
    e.countOk [] = false := ⟨_, rfl, rfl, by decide, rfl⟩
theorem witness_checks_reserved : ∃ e, entryOf 0x2700 10 = some e ∧ e.countOk [8] = true ∧ e.reservedOk (leNum [8]) = false :=
  ⟨_, rfl, rfl, by decide⟩
theorem witness_checks_range : ∃ e, entryOf 0x2000 2 = some e ∧ e.countOk [4] = true ∧ e.reservedOk (leNum [4]) = true ∧
    e.rangeOk (leNum [4]) = false := ⟨_, rfl, rfl, rfl, by decide⟩
theorem witness_checks_range_top : ∃ e, entryOf 0x2000 2 = some e ∧ e.rangeOk (leNum [3]) = true := ⟨_, rfl, by decide⟩
theorem witness_identity : (0x1018 : BitVec 16).toNat ∈ [0x1000, 0x1008, 0x1009, 0x100a, 0x1018] ∧
    (entryOf (0x1018 : BitVec 16).toNat (4 : BitVec 8).toNat).isSome = true ∧ base.reached host := ⟨by decide, rfl, rfl, by decide⟩
theorem witness_commitEntry : base.admits host 0x2000 6 [1, 0] ∧ ∃ e, entryOf 0x2000 6 = some e ∧ e.apply = .commit :=
  ⟨by unfold State.admits; decide, _, rfl, rfl⟩
theorem witness_liveEntries : base.admits host 0x2a00 2 [0x7f] ∧ base.admits host 0x2730 10 [0, 0, 0, 0] ∧ base.admits host 0x2500 8 [1, 0] ∧
    (∃ e, entryOf 0x2500 8 = some e ∧ e.apply = .live) := ⟨by unfold State.admits; decide, by unfold State.admits; decide +kernel,
  by unfold State.admits; decide, _, rfl, rfl⟩
theorem witness_liveGenerator : base.admits host 0x2913 3 [0, 0, 0, 0x10] ∧ base.admits host 0x2910 4 [0xff, 0x7f] ∧
    base.admits host 0x2910 7 [0, 0] := by unfold State.admits; decide +kernel
theorem witness_liveMonitor : base.admits host 0x280f 4 [0, 2] ∧ base.admits host 0x2800 6 [0x3f] := by unfold State.admits; decide
theorem witness_mappingCount_tx : base.admits host 0x1a07 0 [0] := by unfold State.admits; decide
theorem witness_mappingCount_rx : base.admits host 0x1600 0 [0] := by unfold State.admits; decide
theorem witness_store : base.admits host 0x1010 4 [0x73, 0x61, 0x76, 0x65] ∧ base.admits host 0x1010 1 [0x73, 0x61, 0x76, 0x65] := by
  unfold State.admits; decide
theorem witness_restore : base.admits host 0x1011 1 [0x6c, 0x6f, 0x61, 0x64] ∧ base.admits host 0x1011 4 [0x6c, 0x6f, 0x61, 0x64] := by
  unfold State.admits; decide
theorem witness_commitRequests : base.admits host 0x2002 1 [1] ∧ base.admits host 0x2002 1 [2] ∧ base.admits host 0x2002 1 [3] := by
  unfold State.admits; decide
theorem witness_verdict_passed : let s : State := { base with com := { result := 1 } }
    s.coreRuns = true ∧ s.com.result = 1 ∧ s.com.fail = none := by decide
theorem witness_verdict_refused : let s : State := { base with com := { result := 1, fail := some (0x301, 0, 0, 0) } }
    s.coreRuns = true ∧ s.com.result = 1 ∧ s.com.fail = some (0x301, 0, 0, 0) := by decide
theorem witness_faultClears : base.admits host 0x2204 4 [1] ∧ base.admits host 0x280f 11 [1] ∧ base.admits host 0x2903 12 [1] := by
  unfold State.admits; decide
theorem witness_faultClears_faulted : let s : State := { base with
      lanes := [(4, { faulted := true })], mons := [(15, { faulted := true })], outs := [(3, { fault := true })] }
    ((s.heard host).lane 4).faulted = true ∧ ((s.heard host).monitor 15).faulted = true ∧
      ((s.heard host).monitor 15).clearReq = false ∧ ((s.heard host).output 3).fault = true ∧ ((s.heard host).output 3).clearReq = none := by decide
theorem witness_faultClears_waiting : let s : State := { base with mons := [(15, { faulted := true, clearReq := true })] }
    ((s.heard host).monitor 15).clearReq = true := by decide
theorem witness_pendingBits : base.admits host 0x2720 9 (leBytes 8 0x00ffffff00ffffff) ∧ base.admits host 0x2810 11 (leBytes 4 0xffffffff) ∧
    base.admits host 0x2920 5 [0x0f] ∧ base.admits host 0x2811 0x21 [0xff] := by unfold State.admits; decide
theorem witness_swapAndClear : base.admits host 0x2380 1 [0x0f] ∧ base.admits host 0x230f 9 [1] := by unfold State.admits; decide
theorem witness_staticCode : base.admits host 0x2903 6 (leBytes 2 0xffff) := by unfold State.admits; decide
theorem witness_resetArm : ({ base with live := conf [(0x2910, 6, 1)] } : State).admits host 0x2910 8 [1] ∧
    base.admits host 0x2913 8 [0] := by unfold State.admits; decide

/-! Premises of the statements: rings, calibration, field lock, stops. -/

/-- A record of a slot in tick 0. -/
def aRecord : Rec := { kind := 0, tick := 0 }

theorem witness_creditReturn : base.reached host ∧ base.startingUp = false ∧ base.consumes 0 .h = true ∧ (0 : BitVec 16).toNat = 0 ∧
    4096 < (4097 : BitVec 16).toNat := ⟨⟨rfl, by decide⟩, by decide, by decide, rfl, by decide⟩
theorem witness_creditReturn_some : let s : State := { base with rings := [(0, { free := 255, outstanding := [aRecord] })] }
    s.reached host ∧ s.startingUp = false ∧ s.consumes 0 .h = true ∧
      (1 : BitVec 16).toNat ≤ ((s.heard host).ring 0).outstanding.length := ⟨⟨rfl, by decide⟩, by decide, by decide, by decide⟩
theorem witness_creditReturn_beyond : let s : State := { base with rings := [(0, { free := 255, outstanding := [aRecord] })] }
    ((s.heard host).ring 0).outstanding.length < (2 : BitVec 16).toNat := by decide
theorem witness_recordReads : let s : State := { base with rings := [(0, { free := 255, unread := [aRecord] })] }
    s.reached svc ∧ s.startingUp = false ∧ base.consumes 0 .h = true := ⟨⟨rfl, by decide⟩, by decide, by decide⟩

/-- A device whose slot 0 converts, with a system calibration of it asked for. -/
def oneSlot : State := withConf [(0x2180, 1, 1), (0x2220, 1, 0)]

theorem witness_calibration_zero : oneSlot.admits host 0x2a00 1 [1] ∧ oneSlot.lanesRun = true ∧
    ((oneSlot.slot 0).absent || oneSlot.inputFault 0) = false := by unfold State.admits; decide +kernel
theorem witness_calibration_span : let s : State := { oneSlot with live := conf [(0x2a00, 4, 0x3f800000)] }
    s.admits host 0x2a00 1 [2] ∧ s.lanesRun = true := by unfold State.admits; decide +kernel
theorem witness_calibration_self : base.admits host 0x2a00 1 [3] ∧ base.lanesRun = true := by unfold State.admits; decide +kernel
theorem witness_calibration_stopped : let s : State := { oneSlot with pow := { lanesOff := true } }
    s.admits host 0x2a00 1 [1] ∧ s.lanesRun = false := by unfold State.admits; decide +kernel
theorem witness_calibration_open : let s : State := { oneSlot with slots := [(0, { absent := true })] }
    s.admits host 0x2a00 1 [1] ∧ s.lanesRun = true ∧ ((s.slot (s.lcfg 0x2a00 2)).absent || s.inputFault (s.lcfg 0x2a00 2)) = true ∧
      CalKind.zero ≠ .self := by unfold State.admits; decide +kernel
theorem witness_calibration_abort : ({ oneSlot with cal := { run := some .zero } } : State).admits host 0x2a00 1 [4] := by
  unfold State.admits; decide +kernel
theorem witness_verdict_system : ({ oneSlot with cal := { run := some .span } } : State).cal.system = true := by decide
theorem witness_seal : base.admits svc 0x2c10 2 [1] := by unfold State.admits; decide +kernel
theorem witness_relock : ({ base with lock := { state := .unlockedL1, fuse := true } } : State).admits svc 0x2c10 2 [2] ∧
    ({ base with lock := { state := .unlockedL2, fuse := true } } : State).admits host 0x2c10 2 [2] := by
  unfold State.admits; decide +kernel
theorem witness_password : ({ base with lock := { state := .isSealed, fuse := true, pwStored := true } } : State).admits host 0x2c10 3
    (leBytes 4 0) := by unfold State.admits; decide +kernel
theorem witness_response : ({ base with lock := { state := .isSealed, fuse := true, chal := some 0 } } : State).admits svc 0x2c10 5
    (List.replicate 16 0) := by unfold State.admits; decide +kernel
theorem witness_challenge : base.reached svc ∧ (base.heard svc).readRefusal svc 0x2c10 4 false = 0 :=
  ⟨⟨rfl, by decide⟩, by decide⟩
theorem witness_guard_refused : let c : CheckIn := ⟨[], conf [(0x2000, 1, 192), (0x2000, 3, 292)], false, false, none, []⟩
    tickN c.frozen = 12 + guardG c.frozen := by decide
theorem witness_guard_passed : let c : CheckIn := ⟨[], conf [(0x2000, 1, 192), (0x2000, 3, 291)], false, false, none, []⟩
    12 + guardG c.frozen < tickN c.frozen := by decide
theorem witness_supplyStamp : base.coreRuns = true ∧ base.tick.on = true ∧ (base.info base.tick.counter).stamped = false := by decide
theorem witness_supplyStamp_again : let s : State := { base with tick := { on := true, hist := [{ tick := 0, hold := false, stamped := true }] } }
    s.tick.on = true ∧ (s.info s.tick.counter).stamped = true ∧ State.reset.tick.on = false := by decide
theorem witness_cleanRind : base.coreRuns = true ∧ base.tick.on = true ∧ base.clk.causes.contains 3 = false ∧ base.ledgerHolds = true := by
  decide
theorem witness_mismatch_signature : base.sup.stopCause = 0 ∧ (true || false || !base.ledgerHolds) = true := by decide
theorem witness_mismatch_slot : let s : State := { base with can := { started := true, nmt := .operational }, slots := [(5, { run := some ⟨0⟩ })] }
    s.coreRuns = true ∧ s.tick.on = true ∧ s.clk.causes.contains 3 = false ∧ s.sup.stopCause = 0 ∧ s.emcyOn = true ∧
      (s.slot 5).run.isSome = true := by decide
theorem witness_mismatch_ledger : let s : State := { base with ledger := { accepted := 1 } }
    s.coreRuns = true ∧ s.tick.on = true ∧ s.clk.causes.contains 3 = false ∧ s.sup.stopCause = 0 ∧
      (false || false || !s.ledgerHolds) = true := by decide
theorem witness_furtherMismatch : let s : State := { base with sup := { stopCause := 1 } }
    s.coreRuns = true ∧ s.tick.on = true ∧ s.clk.causes.contains 3 = false ∧ s.sup.stopCause ≠ 0 ∧
      (false || true || !s.ledgerHolds) = true := by decide
theorem witness_furtherMismatch_ledger : let s : State := { base with sup := { stopCause := 3 }, ledger := { accepted := 1 } }
    s.sup.stopCause ≠ 0 ∧ (false || false || !s.ledgerHolds) = true := by decide
theorem witness_stopResolves : ({ base with sup := { shutdown := true } } : State).stopped = true ∧
    ({ base with sup := { stopCause := 1 } } : State).stopped = true := by decide
theorem witness_fullQueue : let s : State := { oneSlot with slots := [(0, { run := some ⟨0⟩, pend := some ⟨0⟩ })] }
    s.stopped = false ∧ (s.slot 0).absent = false ∧ s.laneLost 0 0 = false ∧ slotCfg s.active 0 13 = 0 ∧ (s.slot 0).run = some ⟨0⟩ ∧
      (s.slot 0).pend = some ⟨0⟩ := by decide
theorem witness_trigEdge : oneSlot.coreRuns = true ∧ oneSlot.tick.on = true := by decide
theorem witness_trigEdge_stands : let s : State := { oneSlot with tick := { on := false } }
    s.coreRuns = true ∧ s.tick.on = false := by decide
theorem witness_latch_listed : let s : State := { withConf [(0x2180, 1, 1), (0x2180, 11, 1), (0x2181, 1, 1), (0x2181, 11, 2)] with
      tick := { on := true, latches := [(103, 1), (103, 3)] } }
    (s.tick.starts.filter (fun e => decide (8 * e < 103))) = [] ∧ s.pow.noTrig = false ∧
      slotsWith s.active ((s.tick.latches.filter (fun k => k.1 = 103)).map (·.2)) = [0] := by decide
theorem witness_latch_drain : let s : State := { oneSlot with pow := { noTrig := true }, tick := { on := true, latches := [(103, 0)] } }
    (s.tick.starts.filter (fun e => decide (8 * e < 103))) = [] ∧ s.pow.noTrig = true := by decide

/-- A multiplexed conversion of slot 0 on lane A. -/
def aConv : Conv := { slot := 0, trig := ⟨0⟩, start := 24, pos := true, byE := false, ovr := false }

theorem witness_conversionEnd : let s : State := { oneSlot with lanes := [(0, { conv := some aConv })], slots := [(0, { run := some ⟨0⟩ })] }
    let h := (s.begin.latchTo (8 * (aConv.start + occupancy (slotPreset s.active aConv.slot)) - 1)).startsBefore
      (8 * (aConv.start + occupancy (slotPreset s.active aConv.slot)))
    s.coreRuns = true ∧ (s.lane 0).conv = some aConv ∧ (h.lane 0).conv = some aConv := by decide +kernel
theorem witness_outputSample : let s : State := { withConf [(0x2180, 1, 1), (0x2200, 1, 1)] with lanes := [(0, { conn := some 0 })] }
    s.coreRuns = true ∧ s.laneFor 0 = some 0 ∧ (s.lane 0).conn = some 0 ∧ dedSlot s.active 0 = some 0 := by decide
theorem witness_outputSample_spare : let s : State := { withConf [(0x2180, 1, 1), (0x2200, 1, 1)] with
      lanes := [(4, { conn := some 0 })], quad := { serving := some 0 } }
    s.laneFor 4 = some 0 ∧ (s.lane 4).conn = some 0 := by decide
theorem witness_recordStore : let s : State := { base with formed := [⟨0, aRecord, 1⟩] }
    s.coreRuns = true ∧ s.formed.find? (fun f => !f.r.isMonitor) = some ⟨0, aRecord, 1⟩ ∧ aRecord.kind = 0 ∧
      s.acfg (0x2500 + 0) 1 ≠ 0 ∧ (s.ring 0).closed = false ∧ (s.ring 0).free ≠ 0 ∧ s.acfg (0x2500 + 0) 3 ≠ 1 := by decide
theorem witness_ringPlaces : (base.ring 0).free ≠ 0 := by decide
theorem witness_dueRecord_stored : base.acfg (0x2500 + 0) 1 ≠ 0 ∧ aRecord.kind ≠ 1 ∧ (base.ring 0).takes = true := by decide
theorem witness_dueRecord_whey : ({ aRecord with kind := 1, aux := 0x300 } : Rec).kind = 1 ∧ ({ aRecord with kind := 1, aux := 0x300 } : Rec).count = 3 ∧
    base.acfg (0x2500 + 1) 1 = 0 := by decide
theorem witness_dueRecord_counted : let s : State := { base with rings := [(0, { closed := true })] }
    s.acfg (0x2500 + 0) 1 ≠ 0 ∧ (s.ring 0).takes = false := by decide

/-! Premises of the statements: clocks and the lock loop. -/

theorem witness_clockFault : let s : State := { base with clk := { seen := true, core := .system } }
    s.coreRuns = true ∧ s.detects .pllUnlock = true ∧ s.detects (.selfCheckLoss 6399) = true ∧ s.detects (.selfCheckLoss 6400) = false ∧
      s.pow.state ≠ .standby ∧ s.clockFault = false ∧ s.clk.core ≠ .selfCheck := by decide
theorem witness_clockFault_early : let s : State := { boot := .checked }
    s.coreRuns = true ∧ s.detects .xoLoss = true ∧ s.detects .pllUnlock = false ∧ s.pow.state ≠ .standby ∧ s.clockFault = false := by decide
theorem witness_noGoodClock_xo : let s : State := { base with clk := { seen := true, causes := [3] } }
    s.coreRuns = true ∧ s.detects .xoLoss = true ∧ s.pow.state ≠ .standby ∧ causeCode .xoLoss ∉ s.clk.causes ∧ 3 ∈ s.clk.causes := by decide
theorem witness_noGoodClock_selfCheck : let s : State := { base with clk := { seen := true, causes := [2] } }
    s.detects (.selfCheckLoss 9601) = true ∧ causeCode (.selfCheckLoss 9601) ∉ s.clk.causes ∧ s.clk.core = .selfCheck := by decide
theorem witness_coreStop : let s : State := { boot := .released }
    s.boot ≠ .inReset ∧ s.pow.state ≠ .standby ∧ s.clk.core = .selfCheck := by decide
theorem witness_xoRestart : ({ base with clk := { causes := [1], pll := 3 } } : State).netHalted = true := by decide
theorem witness_pllLock : let s : State := { base with clk := { causes := [1], pll := 1 } }
    s.clk.pll = 1 ∧ s.pow.state ≠ .standby := by decide
theorem witness_selfCheckQualified : let s : State := { base with clk := { causes := [3], scTry := true } }
    3 ∈ s.clk.causes ∧ s.clk.scTry = true ∧ 6400 ≤ (6400 : BitVec 16).toNat ∧ (9600 : BitVec 16).toNat ≤ 9600 := by decide
theorem witness_alwaysOn : base.boot ≠ .inReset ∧ 4 ∉ base.clk.causes ∧ (23999 : BitVec 16).toNat < 24000 ∧ 42000 < (42001 : BitVec 16).toNat := by
  decide
theorem witness_alwaysOnRecovery : 4 ∈ ({ base with clk := { causes := [4] } } : State).clk.causes ∧ 24000 ≤ (24000 : BitVec 16).toNat ∧
    (42000 : BitVec 16).toNat ≤ 42000 := by decide
theorem witness_reference_tickin : let s := withConf [(0x2000, 2, 1)]
    s.coreRuns = true ∧ s.tick.on = true ∧ s.acfg 0x2000 2 = refNum .tickin ∧ s.tick.anchored = false := by decide
theorem witness_reference_sync : let s : State := { withConf [(0x2000, 2, 2)] with can := { started := true } }
    s.acfg 0x2000 2 = refNum .sync ∧ s.can.started = true ∧ s.can.nmt ≠ .stopped ∧ s.netHalted = false := by decide
theorem witness_reference_galtlink : let s : State := { withConf [(0x2000, 2, 3)] with galt := { state := 2 } }
    s.acfg 0x2000 2 = refNum .galtlink ∧ s.tickCounts = true := by decide
theorem witness_reference_broken : let s : State := { withConf [(0x2000, 2, 3)] with galt := { state := 3 }, tick := { on := true, lock := .locked } }
    s.tickCounts = true ∧ ({ s with tick := { s.tick with lock := .holdover } } : State).tickCounts = false ∧
      ({ s with galt := { s.galt with broke := true } } : State).tickCounts = false := by decide
theorem witness_reference_outside : let s : State := { withConf [(0x2000, 2, 1)] with tick := { on := true, anchored := true, anchor := 49152 } }
    s.tick.anchored = true ∧
      inWindow s.tick.anchor (lockWindow (refNum .tickin) (interval s.active)) (s.refInstant .tickin 0 + s.acfg 0x2000 4) = false := by
  decide +kernel
theorem witness_reference_inside : let s : State := { withConf [(0x2000, 2, 1)] with tick := { on := true, anchored := true, anchor := 49152 } }
    inWindow s.tick.anchor (lockWindow (refNum .tickin) (interval s.active)) (s.refInstant .tickin 48661 + s.acfg 0x2000 4) = true := by
  decide +kernel
theorem witness_holdoverLimit : let s : State := { base with tick := { on := true, lock := .holdover, holdover := 59999 } }
    s.coreRuns = true ∧ s.tick.on = true ∧ s.tick.lock = .holdover ∧ s.tick.lockNext = none ∧ s.acfg 0x2000 5 ≠ 0 ∧
      s.acfg 0x2000 5 ≤ s.tick.holdover + 1 := by decide
theorem witness_missingEvents : let s : State := { withConf [(0x2000, 2, 1)] with tick := { on := true, lock := .locked, anchored := true, unusable := 2 } }
    s.coreRuns = true ∧ s.tick.on = true ∧ s.acfg 0x2000 2 ≠ 0 ∧ s.tick.events = [] ∧ s.tick.lock = .locked ∧ s.tick.anchored = true ∧
      2 ≤ s.tick.unusable ∧ s.tick.lockNext = none := by decide
theorem witness_missingEvents_acquiring : let s : State := { withConf [(0x2000, 2, 1)] with tick := { on := true, lock := .acquiring } }
    s.tick.events = [] ∧ s.tick.lock = .acquiring ∧ s.tick.arrived = 0 := by decide
theorem witness_usableEvent : let s : State := { withConf [(0x2000, 2, 1)] with tick := { on := true, lock := .acquiring, anchored := true, events := [0, 1] } }
    s.coreRuns = true ∧ s.tick.on = true ∧ s.acfg 0x2000 2 ≠ 0 ∧ s.tick.events = 0 :: [1] ∧ s.tick.anchored = true ∧
      s.tick.lock = .acquiring := by decide +kernel

/-! Premises of the statements: crosspoint, lanes, rotation, touch, plugs. -/

/-- Source EX1 in use in current mode, closed. -/
def oneSource : State := { withConf [(0x2140, 1, 1)] with sources := [(0, { isOpen := false })] }

theorem witness_pinFaultEntry : oneSource.coreRuns = true ∧ oneSource.boot ≠ .inReset ∧ (oneSource.pin 0).fault = 0 ∧
    0 ∈ sourcesOn oneSource.active ∧ 0 ∈ sourcePins oneSource.active 0 := by decide
theorem witness_pinFaultExit : (({ base with pins := [(39, { fault := 2 })] } : State).pin 39).fault ≠ 0 := by decide
theorem witness_excitation : oneSource.coreRuns = true ∧ oneSource.tick.on = true ∧ oneSource.acfg (0x2140 + 0) 1 ≠ 0 ∧
    (oneSource.source 0).isOpen = false := by decide
theorem witness_vrefo : base.coreRuns = true ∧ base.converterOn = true ∧ ¬((2498000 : BitVec 32).toNat < 2498000) ∧
    ¬(2502000 < (2502000 : BitVec 32).toNat) := by decide
theorem witness_pins : let s : State := { base with pins := [(39, { fault := 1 })], sup := { vioMv := 2499 } }
    s.sup.vioMv < 2500 ∧ State.reset.boot ≠ .running ∧ 2500 ≤ State.reset.sup.vioMv ∧ (s.pin 39).fault ≠ 0 ∧ (s.output 3).hiZ = true ∧
      s.boot = .running ∧ s.pow.state ≠ .standby ∧ roleBits s.active 38 = 0 := by decide

/-- A rotation in its first phase, E calibrating itself. -/
def rotating : State := { withConf [(0x2220, 1, 0)] with quad := { active := true, left := 1 } }

theorem witness_measurement : rotating.coreRuns = true ∧ rotating.tick.on = true ∧ (rotating.lane 4).faulted = false ∧
    rotating.windowOpen 4 = true ∧ (pointsOf rotating.active (rotating.quad.phase / 2)).contains 0 = true := by decide
theorem witness_selfCalibration : let s : State := { base with cal := { run := some .self, started := true, point := 26 } }
    s.coreRuns = true ∧ s.cal.run = some .self ∧ s.cal.started = true ∧ s.cal.point = 26 := by decide
theorem witness_calibrationTimeout : let s : State := { base with cal := { run := some .zero, left := 0 } }
    s.coreRuns = true ∧ s.cal.run = some .zero ∧ s.cal.left = 0 := by decide
theorem witness_laneFault : base.coreRuns = true ∧ base.tick.on = true ∧ base.lanesRun = true ∧ (base.lane 4).faulted = false := by decide
theorem witness_overlapEnd : let s : State := { base with quad := { overlap := some ⟨0, true, 0, 3, [true, true, false]⟩ } }
    s.coreRuns = true ∧ s.tick.on = true ∧ s.tick.part = .prologue ∧ s.quad.overlap = some ⟨0, true, 0, 3, [true, true, false]⟩ := by decide
theorem witness_phaseEnd : let s : State := { rotating with quad := { active := true, left := 0 } }
    s.coreRuns = true ∧ s.tick.on = true ∧ s.tick.part = .prologue ∧ s.quad.active = true ∧ s.rotates = true ∧ s.quad.left = 0 ∧
      s.quad.overlap = none ∧ s.quad.serving = none ∧ s.acfg 0x2220 1 = 0 := by decide

/-- Touch on, electrodes 0 and 23 enabled. -/
def touching : State := withConf [(0x2720, 1, 1), (0x2700, 1, 1), (0x2717, 1, 1)]

theorem witness_scanStart : touching.coreRuns = true ∧ touching.tick.on = true ∧ touching.tick.part = .prologue ∧
    touching.pow.state ≠ .standby ∧ touching.acfg 0x2720 1 ≠ 0 ∧ touching.touch.scan = none ∧
    touching.tick.counter.toNat % touching.acfg 0x2720 2 = 0 ∧
    (electrodesOn touching.active).filter (fun i => !touching.electrodeFault i) = [0, 23] := by decide
theorem witness_scanStart_running : ({ touching with touch := { scan := some (0, [0]) } } : State).touch.scan ≠ none := by decide
theorem witness_scanEnd : let s : State := { touching with touch := { scan := some (0, [0, 23]) } }
    s.coreRuns = true ∧ s.touch.scan = some (0, [0, 23]) ∧ ([0, 23] : List Nat).Nodup ∧ s.clockFault = false ∧
      ((electrodesOn s.active).contains 23 && !s.electrodeFault 23 && !s.touch.dropped.contains 23) = true := by decide
theorem witness_scanEnd_dropped : let s : State := { touching with touch := { scan := some (0, [0, 23]), dropped := [23] } }
    ((electrodesOn s.active).contains 23 && !s.electrodeFault 23 && !s.touch.dropped.contains 23) = false := by decide
theorem witness_scanEnd_gated : ({ touching with clk := { causes := [1] }, touch := { scan := some (0, [0]) } } : State).clockFault = true := by
  decide
theorem witness_wakeScan : let s : State := { withConf [(0x2720, 1, 2), (0x2700, 1, 1), (0x2700, 12, 8)] with pow := { state := .standby } }
    s.coreRuns = true ∧ s.pow.state = .standby ∧ s.acfg 0x2720 1 = 2 ∧ s.wakeElectrodes = [0] ∧ s.wakeElectrodes.Nodup := by decide
theorem witness_wakeScan_awake : touching.pow.state ≠ .standby := by decide
theorem witness_touchDecided : let r : ElemRt := { started := true, count := 2 }
    let p : ElemPar := ⟨400, 250, 3, 8, 3, 100, 2⟩
    r.started = true ∧ r.state = .idle ∧ p.ton ≤ 400 - r.b ∧ p.deb ≤ r.count + 1 := by decide +kernel
theorem witness_releaseDecided : let r : ElemRt := { started := true, count := 2, state := .stuck }
    let p : ElemPar := ⟨400, 250, 3, 8, 3, 100, 2⟩
    r.started = true ∧ r.state = .stuck ∧ 249 - r.b < p.toff ∧ p.deb ≤ r.count + 1 := by decide +kernel
theorem witness_touchHeld : let r : ElemRt := { started := true, state := .pressed }
    let p : ElemPar := ⟨400, 250, 3, 8, 3, 100, 2⟩
    r.started = true ∧ r.state = .pressed ∧ p.toff ≤ 250 - r.b := by decide +kernel
theorem witness_repeat : let s : State := { touching with elems := [(0, { state := .pressed, started := true, touchTick := some 3, repeatDue := true })] }
    s.coreRuns = true ∧ (s.elem (elementNum (.electrode 0))).state = .pressed ∧
      (s.elem (elementNum (.electrode 0))).touchTick = some 3 := by decide
theorem witness_repeat_none : (touching.elem (elementNum (.electrode 23))).state ≠ .pressed ∧
    (touching.elem (elementNum (.press 15))).touchTick = none := by decide
theorem witness_restLimit : let s : State := { touching with elems :=
      [(0, { state := .pressed, started := true, timerOn := true, timer := limitCycles 120, limitDue := true })] }
    s.coreRuns = true ∧ s.restDue (s.elemNext (elementNum (.electrode 0))) = true ∧ (s.elem 0).limitDue = true ∧
      touching.restDue (touching.elemNext 0) = false ∧ (touching.elem 0).limitDue = false := by decide +kernel
theorem witness_startLimit : let s : State := { touching with elems :=
      [(47, { state := .startHeld, started := true, timerOn := true, timer := limitCycles 60, limitDue := true })] }
    s.coreRuns = true ∧ s.startDue (s.elemNext (elementNum (.press 15))) = true ∧ (s.elem 47).limitDue = true ∧
      touching.startDue (touching.elemNext 47) = false := by decide +kernel
theorem witness_plugSample : let s := withConf [(0x2740, 1, 1), (0x2740, 6, 1)]
    s.coreRuns = true ∧ s.boundaryDue = true ∧ 0 ∈ plugsOn s.active ∧ (s.pin (s.acfg (0x2740 + 0) 2)).fault = 0 ∧
      plugClass s.active 0 (s.acfg 0x2740 4) ≠ (s.plug 0).state ∧ s.acfg (0x2740 + 0) 6 ≤ 1 := by decide
theorem witness_plugSample_standby : let s : State := { withConf [(0x2740, 1, 1), (0x2740, 6, 2)] with pow := { state := .standby } }
    s.pow.state = .standby ∧ 0 ∈ plugsOn s.active ∧ plugClass s.active 0 0xffff = (s.plug 0).state ∧ 1 < s.acfg (0x2740 + 0) 6 := by decide
theorem witness_settleHold : let s : State := { withConf [(0x2740, 1, 1)] with plugs := [(0, { state := .plugged, hold := some 1 })] }
    s.boundaryDue = true ∧ (s.plug 0).hold = some 1 := by decide

/-! Premises of the statements: monitors, outputs, journal. -/

/-- Monitor 0 in use on slot 0's result. -/
def oneMonitor : State := withConf [(0x2800, 1, 1)]

theorem witness_comparatorEdge : oneMonitor.coreRuns = true ∧ oneMonitor.monitorOn 0 = true ∧
    (oneMonitor.begin.at 0).monHeld 0 0 = false ∧ (oneMonitor.monitor 0).faulted = false ∧
    (oneMonitor.monitor 0).comp ≠ (oneMonitor.begin.at 0).compare302 0 6000000000 2500000 ∧
    (oneMonitor.monitor 0).comp = (oneMonitor.begin.at 0).compare302 0 0 2500000 := by decide +kernel
theorem witness_comparatorEdge_held : let s := withConf [(0x2800, 1, 1), (0x2800, 2, 0x80), (0x2180, 1, 1)]
    s.monitorOn 0 = true ∧ (s.begin.at 0).monHeld 0 0 = true := by decide +kernel
theorem witness_monitorOutput : let s : State := { withConf [(0x2800, 1, 1), (0x2800, 7, 2), (0x2810, 8, 1)] with mons := [(0, { comp := true })] }
    s.coreRuns = true ∧ s.monitorOn 0 = true ∧ s.samplerOn = true ∧ (s.monitor 0).faulted = false ∧ (s.monitor 0).comp = true ∧
      (s.monitor 0).out ≠ true ∧ (s.monitor 0).since + 3 + s.acfg (0x2800 + 0) 7 ≤ 5 ∧
      ¬ (s.monitor 0).since + 3 + s.acfg (0x2800 + 0) 7 ≤ 4 ∧ s.routed 8 0 = true ∧ s.tick.on = true := by decide
theorem witness_readback : oneMonitor.samplerOn = true ∧ oneMonitor.monitorOn 0 = true ∧ (oneMonitor.monitor 0).faulted = false ∧
    (((oneMonitor.thresholdCode 0 false + 2 : Nat) : Int) - (oneMonitor.thresholdCode 0 false : Int)).natAbs ≤ 2 ∧
    2 < (((oneMonitor.thresholdCode 0 false + 3 : Nat) : Int) - (oneMonitor.thresholdCode 0 false : Int)).natAbs := by decide
/-- R310: 150 ns are 7.37 system clock cycles, so a reading 7 cycles after a change of the code is dropped, one 8 cycles after it is not. -/
theorem witness_readback_fresh : let s : State := { oneMonitor with mons := [(0, { loAt := 0, hiAt := -1 })] }
    ((7 : Int) - (s.monitor 0).loAt) * 100000 < 737280 ∧ ¬ ((8 : Int) - (s.monitor 0).loAt) * 100000 < 737280 ∧
      ¬ ((7 : Int) - (s.monitor 0).hiAt) * 100000 < 737280 := by decide
theorem witness_readback_faulted : let s : State := { oneMonitor with mons := [(0, { faulted := true })] }
    s.monitorOn 0 = true ∧ s.samplerOn = true ∧ (s.monitor 0).faulted = true := by decide
theorem witness_updateEvent : let s := withConf [(0x2900, 1, 1), (0x2900, 7, 1)]
    s.coreRuns = true ∧ s.tick.on = true ∧ s.acfg (0x2900 + 0) 7 = 1 ∧ s.updateTick 0 = true := by decide
theorem witness_phaseReset : let s : State := { base with gens := [(3, { armed := true, next := 0 })] }
    s.coreRuns = true ∧ s.tick.on = true ∧ s.tick.part = .prologue ∧ (s.gen 3).armed = true ∧ (s.gen 3).next = s.tick.counter := by decide
theorem witness_phaseReset_waits : let s : State := { base with gens := [(3, { armed := true, next := 1 })] }
    (s.gen 3).armed = true ∧ (s.gen 3).next ≠ s.tick.counter := by decide
theorem witness_updateEvent_follows : let s : State := { withConf [(0x2900, 1, 1), (0x2900, 7, 1)] with
      outs := [(0, { hiZ := false, released := true, driven := true })] }
    s.outFollows 0 = true ∧ (withConf [(0x2900, 7, 1)]).outFollows 0 = false := by decide
theorem witness_outputReading : base.coreRuns = true ∧ base.converterOn = true ∧ base.outMode 0 = 0 ∧
    (withConf [(0x2903, 1, 1)]).outMode 3 ≠ 0 := by decide
/-- A cause that has held over the readings before and holds now is decided; one that has not is not. -/
theorem witness_outputReading_decided : let r : OutRt := { runCompl := 2 }
    1 ≤ 3 ∧ (r.reading { compl := true } false).decided 3 = some 2 ∧ (({} : OutRt).reading { compl := true } false).decided 3 = none := by
  decide
theorem witness_outputReading_fault : (({ base with outs := [(3, { fault := true })] } : State).output 3).fault = true := by decide
theorem witness_causes : let x : Holds := { compl := true, readback := true }
    (x.openLoad && decide (1 ≤ 0 + 1)) = false ∧ (x.compl && decide (1 ≤ 0 + 1)) = true ∧ (x.compl && decide (2 ≤ 0 + 1)) = false := by decide

/-- A device-state record under program at the start of sector 0. -/
def aProgram : Prog := { jr := ⟨4, 0, [1, 0, 0, 0], true⟩, seq := 1, addr := 0, image := recordImage 4 0 1 [1, 0, 0, 0],
                         spare := false, margin := false }

theorem witness_recordProgram : ({ base with jn := { prog := some aProgram } } : State).jn.prog = some aProgram := rfl
theorem witness_recordImage : 4 < 256 ∧ 0 < 256 ∧ 1 < 2 ^ 32 ∧ ([1, 0, 0] : List Byte).length ≤ 240 := by decide
/-- A close record under program as the last of its request, on a first and on a third attempt. -/
def closing (tries : Nat) : State := { base with jn := {
  prog := some { aProgram with jr := ⟨2, 1, [], false⟩ }, plans := [⟨1, [], []⟩], queue := [{ isStore := true, classes := [1] }], retries := tries } }
theorem witness_close : (closing 0).jn.prog = some { aProgram with jr := ⟨2, 1, [], false⟩ } ∧ (closing 0).jn.compact = .idle ∧
    (closing 0).jn.cut = none ∧ (closing 0).jn.plans = [⟨1, [], []⟩] ∧
    (closing 0).jn.queue = { isStore := true, classes := [1] } :: [] := by decide +kernel
theorem witness_close_weak : (closing 2).jn.plans ≠ [] ∧ (closing 2).sup.shutdown = false ∧ (closing 2).jn.retries = 2 := by decide
theorem witness_attemptRecord : aProgram.jr.typ = 4 ∧ aProgram.jr.own = true := by decide
theorem witness_erase : let s : State := { base with jn := { erase := some 1 } }
    s.coreRuns = true ∧ s.jn.erase = some 1 ∧ s.jn.prog = none ∧ s.sup.shutdown = false ∧ s.netHalted = false ∧
      s.pow.state ≠ .standby ∧ base.jn.erase = none := by decide

/-! Premises of the statements: ports and the network. -/

theorem witness_frame_none : ([] : List Byte) = [] ∧ ([0] : List Byte).head? = some 0 := by decide
theorem witness_frame_long : 300 < (List.replicate 301 (1 : Byte)).length ∧ (List.replicate 301 (1 : Byte)).head? ≠ some 0 := by
  decide +kernel
theorem witness_frame_op : (4 : Byte) ≠ 0 ∧ opCounts (4 : Byte).toNat = none := by decide
theorem witness_frame_request :
    (match frameOf true [0x01, 0x5a, 0x18, 0x10, 0x03, 0x00, 0xe8] with
      | .req r => decide (r.op = 1 ∧ r.tag = 0x5a ∧ r.idx = 0x1018 ∧ r.sub = 3 ∧ r.count = 0)
      | _ => false) = true := by decide +kernel
theorem witness_frame_count : opCounts (1 : Byte).toNat = some (0, 0) ∧ opCounts (2 : Byte).toNat = some (1, 32) ∧
    opCounts (3 : Byte).toNat = some (1, 16) := by decide
theorem witness_frame_crc : ([1, 0, 0, 0, 0, 0, 0xff] : List Byte).length ≤ 300 ∧ crc8 (([1, 0, 0, 0, 0, 0, 0xff] : List Byte).take 6) ≠ 0xff := by
  decide +kernel
theorem witness_spiFrame : base.coreRuns = true ∧ base.begin.portServes .h = true ∧ ([0] : List Byte) ≠ [] ∧ frameOf true [0] = .none ∧
    frameOf true [4] = .form ∧ frameOf true [1, 0, 0, 0, 0, 0, 0xff] = .crc ∧ base.spi.resp = none := by decide +kernel
theorem witness_spiFrame_held : let s : State := { base with spi := { resp := some [0x5a, 0, 0, 0, 0, 0] } }
    (s.begin.at 0).spi.resp.isSome = true ∧ ¬ ((s.begin.at 0).spi.resp.getD []).length < ([0, 0, 0, 0, 0, 0] : List Byte).length ∧
      ((s.begin.at 0).spi.resp.getD []).length < ([0, 0, 0, 0, 0, 0, 0] : List Byte).length := by decide
theorem witness_response_bytes : 0 < 1 ∧ ({ base with spi := { resp := some [0x5a] } } : State).spi.resp = some [0x5a] := by decide
theorem witness_serviceFrame : base.coreRuns = true ∧ base.begin.portServes .s = true ∧ frameOf false [4] = .form ∧
    frameOf false [1, 0, 0, 0, 0, 0, 0xff] = .crc := by decide +kernel
theorem witness_repeat_response : base.reached host ∧ host.port = .h ∧ base.spi.resp = none ∧ base.reached svc ∧ svc.port = .s :=
  ⟨⟨rfl, by decide⟩, rfl, rfl, ⟨rfl, by decide⟩, rfl⟩

/-- A device on the network in OPERATIONAL. -/
def onNet : State := { base with can := { started := true, nmt := .operational } }

theorem witness_usdo : onNet.coreRuns = true ∧ onNet.begin.portServes .n = true ∧ (BitVec.ofNat 7 onNet.nodeId).toNat = onNet.nodeId ∧
    onNet.canOn = true ∧ onNet.can.sessions = [] ∧ base.canOn = false := by decide
/-- A read of 1018h.03 is not refused, one of 3000h is; a write of 2002h.01 is not refused, one of 3000h is. -/
theorem witness_usdo_read : let s := (onNet.begin.at 0).canRx
    (s.read { port := .n, cyc := 0 } 0x1018 3 1 false true).1 = 0 ∧ (s.read { port := .n, cyc := 0 } 0x3000 0 1 false true).1 ≠ 0 ∧
      (s.write { port := .n, cyc := 0 } 0x1017 0 [1, 0] true).1 = 0 ∧ (s.write { port := .n, cyc := 0 } 0x3000 0 [1] true).1 ≠ 0 := by
  decide +kernel
theorem witness_usdo_timeout : onNet.nodeId ∈ ({ onNet with can := { onNet.can with sessions := [onNet.nodeId] } } : State).can.sessions := by
  decide
theorem witness_nmt : onNet.coreRuns = true ∧ onNet.canTakes = true ∧ (0 : Byte).toNat = 0 ∧ onNet.jn.prog = none ∧ onNet.jn.gen 1 = none ∧
    (5 : Byte).toNat ≠ 0 ∧ (5 : Byte).toNat ≠ onNet.nodeId := by decide
theorem witness_comm : liveComm (key 0x1017 0) = true ∧ liveComm (key 0x2810 11) = false := by decide
theorem witness_heartbeat : let s : State := { onNet with live := conf [(0x1017, 0, 1000)] }
    s.canTakes = true ∧ s.lcfg 0x1017 0 ≠ 0 := by decide
theorem witness_heartbeat_none : onNet.lcfg 0x1017 0 = 0 ∧ base.canTakes = false := by decide
theorem witness_confinement : (128 : Byte).toNat = 128 ∧ (127 : Byte).toNat = 127 ∧ onNet.can.busState = 0 := by decide
theorem witness_emcy : onNet.emcyOn = true ∧ base.emcyOn = false := by decide
theorem witness_busOffRecovery : let s : State := { onNet with can := { onNet.can with busState := 2 } }
    s.can.started = true ∧ s.can.busState = 2 ∧ s.netHalted = false ∧ s.pow.state ≠ .standby := by decide
theorem witness_sync : onNet.canTakes = true ∧ onNet.can.nmt ≠ .stopped ∧ onNet.can.nmt = .operational ∧ base.canTakes = false := by decide
theorem witness_sync_preOperational : let s : State := { base with can := { started := true, nmt := .preOperational } }
    s.canTakes = true ∧ s.can.nmt ≠ .stopped ∧ s.can.nmt ≠ .operational := by decide

/-- RPDO 0 and TPDO 0 valid, each with one entry mapped. -/
def withPdos (ty : Nat) : State :=
  let l := conf [(0x1400, 1, 0x201), (0x1400, 2, ty), (0x1600, 0, 1), (0x1600, 1, 0x25000810), (0x1800, 1, 0x181), (0x1800, 2, 0xfe), (0x1800, 5, 10),
    (0x1a00, 0, 1), (0x1a00, 1, 0x20010220)]
  { onNet with live := l }

theorem witness_tpdoSync : let s : State := { withPdos 0 with live := tput dflt (withPdos 0).live (key 0x1800 2) 2 }
    s.tpdoOn 0 = true ∧ s.lcfg (0x1800 + 0) 2 ≤ 0xf0 ∧ (s.tpdoRt 0).syncs + 1 < s.lcfg (0x1800 + 0) 2 ∧ s.tpdoOn 1 = false := by decide
theorem witness_tpdoSync_due : let s : State := { withPdos 0 with live := tput dflt (withPdos 0).live (key 0x1800 2) 1 }
    s.tpdoOn 0 = true ∧ s.lcfg (0x1800 + 0) 2 ≤ 0xf0 ∧ s.lcfg (0x1800 + 0) 2 ≤ (s.tpdoRt 0).syncs + 1 := by decide
theorem witness_rpdo_held : (withPdos 0xf0).canTakes = true ∧ (withPdos 0xf0).can.nmt = .operational ∧
    (withPdos 0xf0).pdoValid (0x1400 + 0) = true ∧ (withPdos 0xf0).lcfg (0x1400 + 0) 2 ≤ 0xf0 := by decide
theorem witness_rpdo_short : 0xf0 < (withPdos 0xfe).lcfg (0x1400 + 0) 2 ∧
    [(0 : Byte)].length < (((withPdos 0xfe).pdoMap (0x1600 + 0)).map (· % 256)).sum / 8 := by decide
theorem witness_rpdo_whole : (((withPdos 0xfe).pdoMap (0x1600 + 0)).map (· % 256)).sum / 8 ≤ [(0 : Byte), 0].length ∧
    base.pdoValid 0x1400 = false := by decide
theorem witness_rpdo_refused : ∃ p, rpdoParts ((withPdos 0xfe).pdoMap 0x1600) [0, 0x20] = [] ++ p :: [] ∧
    (([] : List (Nat × Nat × List Byte)).foldl State.stage (withPdos 0xfe)).writeRefusal { port := .n, cyc := 0 } p.1 p.2.1 p.2.2 ≠ 0 :=
  ⟨(0x2500, 8, [0, 0x20]), by decide +kernel, by decide +kernel⟩
theorem witness_rpdo_passes : State.firstRefused { port := .n, cyc := 0 } (withPdos 0xfe) (rpdoParts ((withPdos 0xfe).pdoMap 0x1600) [0, 0x10]) =
    none := by decide +kernel
theorem witness_tpdo : (withPdos 0).tpdoOn 0 = true ∧ (withPdos 0).tpdoRing 0 = none ∧ (withPdos 0).tpdoByEvent 0 = true ∧
    (withPdos 0).lcfg (0x1800 + 0) 5 ≠ 0 ∧ (withPdos 0).canTakes = true ∧ ((withPdos 0).tpdoRt 0).inhibit = false ∧
    (withPdos 0).tpdoOn 7 = false ∧ base.canTakes = false := by decide
/-- TPDO 0 carries up to two records of ring 0, consumed by the network. -/
def withRecords (unread : List Rec) : State := { onNet with
  live := conf [(0x1800, 1, 0x181), (0x1800, 2, 0xfe), (0x1a00, 0, 2), (0x1a00, 1, 0x25000a80), (0x1a00, 2, 0x25000a80)]
  active := conf [(0x2500, 3, 1)], rings := [(0, { free := 255, unread := unread })] }
theorem witness_tpdo_records : (withRecords [aRecord]).tpdoOn 0 = true ∧ (withRecords [aRecord]).tpdoRing 0 = some (0, 2) ∧
    (withRecords [aRecord]).acfg (0x2500 + 0) 3 = 1 ∧ min 2 ((withRecords [aRecord]).ring 0).unread.length ≠ 0 ∧
    min 2 ((withRecords []).ring 0).unread.length = 0 := by decide
theorem witness_tpdo_otherConsumer : let s : State := { withRecords [aRecord] with active := [] }
    s.tpdoRing 0 = some (0, 2) ∧ s.acfg (0x2500 + 0) 3 ≠ 1 := by decide
theorem witness_inhibitEnd : let s : State := { withPdos 0 with can := { (withPdos 0).can with tpdo := [(0, { inhibit := true, deferred := true })] } }
    (s.tpdoRt 0).inhibit = true ∧ (s.tpdoRt 0).deferred = true ∧ s.tpdoOn 0 = true ∧ s.pow.state ≠ .standby := by decide
theorem witness_inhibitEnd_plain : let s : State := { withPdos 0 with can := { (withPdos 0).can with tpdo := [(0, { inhibit := true })] } }
    (s.tpdoRt 0).inhibit = true ∧ (s.tpdoRt 0).deferred = false := by decide
theorem witness_transmitted : let s : State := { withPdos 0 with
      can := { (withPdos 0).can with tpdo := [(0, { queued := [(0, 1, [0])] })] }
      active := conf [(0x2500, 3, 1)]
      rings := [(0, { free := 255, outstanding := [aRecord] })] }
    s.canTakes = true ∧ s.can.nmt = .operational ∧ (s.tpdoRt 0).queued = (0, 1, [0]) :: [] ∧ s.tpdoRing 0 = none ∧
      s.acfg (0x2500 + 0) 3 = 1 ∧ 1 ≤ (s.ring 0).outstanding.length := by decide

/-- A password attempt whose record has been verified. -/
def attempting (v : BitVec 128) : State := { base with
  live := conf [(0x2c10, 9, 0x1234)]
  lock := { state := .isSealed, fuse := true, fails := 1, pwStored := true, attempt := some ⟨false, v, 0, true⟩ } }

theorem witness_verdict_right : (attempting 0x1234).pow.state ≠ .standby ∧ (attempting 0x1234).coreRuns = true ∧ (attempting 0x1234).lock.verifyFailed = false ∧
    (attempting 0x1234).accepts ⟨false, 0x1234, 0, true⟩ = true := by decide
theorem witness_verdict_wrong : (attempting 1).accepts ⟨false, 1, 0, true⟩ = false := by decide
theorem witness_verdict_waits : let s : State := { attempting 0 with lock := { (attempting 0).lock with attempt := some ⟨true, 0, 0, false⟩ } }
    s.lock.attempt = some ⟨true, 0, 0, false⟩ := by decide
theorem witness_verdict_unwritten : ({ attempting 0 with lock := { (attempting 0).lock with verifyFailed := true } } : State).lock.verifyFailed =
    true := by decide
theorem witness_lockTimers : let s : State := { base with lock := { state := .unlockedL2, backOff := 1, chalLeft := 1, unlock := 1 } }
    s.coreRuns = true ∧ s.tick.on = true ∧ s.lockDue s.lock.backOff = true ∧ s.lockDue s.lock.chalLeft = true ∧
      s.lockDue s.lock.unlock = true ∧ s.lock.state = .unlockedL2 := by decide +kernel
theorem witness_lockTimers_later : let k := base.tickCycles / 8
    base.lockDue k = false ∧ base.lockDue (k - 1) = true ∧ ({ base with tick := { base.tick with on := false } } : State).lockDue k = true ∧
      ({ base with pow := { base.pow with state := .standby } } : State).lockDue 0 = false ∧ base.lock.state = .unsealed := by decide +kernel
/-- R442: a back-off of 1 ms that ends in a stop of the tick brings the clock to its end. -/
theorem test_backOffEnd : seen .backOffEnd { base with tick := { base.tick with on := false }, lock := { backOff := 6144 } }
    (fun t => (t.lock.backOff, t.tick.cyc)) = some (0, 49152) := by decide +kernel

/-! Premises of the statements: the ring of devices, supply, power. -/

/-- A member with address 1 of a closed ring, and a master. -/
def member : State := { withConf [(0x2d00, 1, 1), (0x2500, 3, 2)] with galt := { addr := 1, state := 2, locked := true, fresh := false } }
/-- Node 0 of a closed ring with one member. -/
def master : State := { withConf [(0x2d00, 1, 1)] with
  galt := { glmaster := true, state := 2, nodes := [(1, { present := true, serial := 7 })] } }

/-- The head of a frame that arrives whole. -/
def whole (dst org : BitVec 8) (typ : Nat) (p : List Byte) : FrameHead :=
  { dst := dst, org := org, crc := crc16 (frameBody (BitVec.ofNat 8 typ) dst org p), clean := true }

theorem witness_brokenFrame : member.coreRuns = true ∧ member.galtOn = true ∧ State.reset.galtOn = false ∧
    carries (.breakFrame ⟨0xff, 0, 0, false⟩ 2) = some (⟨0xff, 0, 0, false⟩, 10, [2]) ∧ headGood ⟨0xff, 0, 0, false⟩ 10 [2] = false ∧
    headGood { whole 0xff 0 10 [2] with crc := ~~~(whole 0xff 0 10 [2]).crc } 10 [2] = false ∧ headGood (whole 0xff 0 10 [2]) 10 [2] = true := by
  decide +kernel
theorem witness_frameGoes : member.galt.state ≠ 3 ∧ member.ownFrame ⟨0xff, 0, 0, true⟩ = false ∧ member.netHalted = false ∧
    (⟨0xff, 0, 0, true⟩ : FrameHead).dst = 0xff ∧ member.mine ⟨2, 0, 0, true⟩ = false ∧
    (member.mine ⟨1, 0, 0, true⟩ = true ∧ (⟨1, 0, 0, true⟩ : FrameHead).dst ≠ 0xff) ∧ member.ownFrame ⟨0xff, 1, 0, true⟩ = true ∧
    ({ member with galt := { member.galt with state := 3 } } : State).galt.state = 3 := by decide
theorem witness_break : member.galt.detected = false ∧ member.ownFrame ⟨0xff, 0, 0, true⟩ = false ∧
    member.ownFrame ⟨0xff, 1, 0, true⟩ = true ∧ ({ member with galt := { member.galt with detected := true } } : State).galt.detected = true := by
  decide
theorem witness_enum : member.galtOn = true ∧ member.mine (whole 0xff 0 1 []) = true ∧ member.role = 2 ∧ member.netHalted = false ∧ (63 : BitVec 8).toNat ≤ 63 ∧
    63 < (64 : BitVec 8).toNat ∧ headGood (whole 0xff 0 1 (enumPayload 63 [])) 1 (enumPayload 63 []) = true := by decide +kernel
theorem witness_enumReturns : master.galtOn = true ∧ master.role = 1 ∧ (64 : BitVec 8).toNat ≤ 64 ∧ 64 < (65 : BitVec 8).toNat ∧
    headGood (whole 0xff 0 1 (enumPayload 65 [])) 1 (enumPayload 65 []) = true ∧ (whole 0xff 0 1 []).org = 0 ∧ (whole 0xff 1 1 []).org ≠ 0 := by
  decide +kernel
theorem witness_masterEnumerates : master.galtOn = true ∧ master.role = 1 ∧ master.netHalted = false ∧ master.galt.locked = false ∧
    ({ master with galt := { master.galt with retry := true } } : State).galt.retry = true ∧ master.galt.retry = false ∧
    member.role ≠ 1 ∧ member.galt.locked = true ∧ headGood (whole 0xff 1 0x0b [1]) 0x0b [1] = true := by decide +kernel
theorem witness_ringCloses : let s : State := { member with galt := { addr := 1, state := 1, gotDelay := true, gotTime := true, table := some [] } }
    s.galt.state = 1 ∧ s.galt.broke = false ∧ s.galt.gotDelay = true ∧ s.galt.gotTime = true ∧ s.galt.table = some [] ∧ member.galt.table = none := by decide
theorem witness_tableAndDelay : headGood (whole 0xff 0 2 (enumPayload 0 [])) 2 (enumPayload 0 []) = true ∧
    headGood (whole 1 0 4 (leBytes 4 9)) 4 (leBytes 4 (9 : BitVec 32).toNat) = true ∧ member.mine (whole 1 0 4 (leBytes 4 9)) = true ∧
    member.mine (whole 2 0 4 (leBytes 4 9)) = false ∧ member.mine (whole 0xff 0 2 []) = true := by decide +kernel
theorem witness_tickSymbol : member.galtOn = true ∧ member.netHalted = false ∧ member.role = 2 ∧ member.galt.state = 2 ∧ master.role ≠ 2 := by
  decide
theorem witness_boundaryBreak : let s : State := { member with galt := { member.galt with state := 3, detected := true, broke := true } }
    s.galtOn = true ∧ s.galt.detected = true ∧ s.netHalted = false := by decide
theorem witness_boundaryTick : master.galtOn = true ∧ master.galt.detected = false ∧ master.role = 1 ∧ master.netHalted = false ∧
    master.galt.cableNext = none ∧ member.role ≠ 1 ∧
    ({ member with galt := { member.galt with cableNext := some 5 } } : State).galt.cableNext = some 5 := by decide
theorem witness_soundingStart : let s : State := { master with tick := { on := true, counter := 512 } }
    s.role = 1 ∧ s.galt.soundDue = false ∧ s.tick.on = true ∧ s.tick.counter.toNat % 1024 = 512 ∧ s.netHalted = false ∧
      (List.replicate 16 (2 * 7)).length = 16 ∧ (List.replicate 16 (2 * 7)).sum = 32 * 7 := by decide
theorem witness_soundingDue : let s : State := { master with galt := { master.galt with soundDue := true } }
    s.netHalted = false ∧ s.role = 1 ∧ s.galt.soundDue = true ∧ member.role ≠ 1 ∧ member.galt.state ≠ 3 := by decide
theorem witness_timeSend : master.coreRuns = true ∧ master.galtOn = true ∧ master.role = 1 ∧ master.tick.on = true ∧
    master.tick.counter.toNat % 1024 = 0 ∧ master.addressOf 7 = some 1 ∧ master.addressOf 8 = none := by decide
theorem witness_timeTaken : headGood (whole 0xff 0 3 (timePayload 0 0 [])) 3 (timePayload 0 0 []) = true ∧ (whole 0xff 0 3 []).org = 0 ∧
    (whole 0xff 1 3 []).org ≠ 0 ∧ member.role ≠ 1 ∧ member.mine (whole 0xff 0 3 []) = true ∧ member.mine (whole 2 0 3 []) = false := by
  decide +kernel
theorem witness_timeSetsNumber : let s : State := { member with tick := { on := true, lock := .acquiring } }
    s.tick.lock = .acquiring ∧ s.boundaryNumber 1000 = s.tick.counter ∧ (5 : TickNo) ≠ s.tick.counter ∧ member.tick.lock = .free ∧
      2 * ratAbs (psCycles 1000) < s.tickLen := by decide +kernel
/-- A boundary of node 0 one tick, 49 152 cycles or 1 ms, before, and one tick after, that of the running tick. -/
theorem witness_timeSetsNumber_later : let s : State := { member with tick := { on := true, lock := .locked, counter := 8 } }
    s.boundaryNumber (-1000000000) = 7 ∧ s.boundaryNumber 1000000000 = 9 ∧ (s.tickLen : Rat) < 2 * psCycles 1000000000 ∧
      2 * psCycles 1000000000 < 3 * s.tickLen := by decide +kernel
theorem witness_relayedAccess : member.galtOn = true ∧ member.mine ⟨1, 0, 0, true⟩ = true ∧ member.ownFrame ⟨1, 0, 0, true⟩ = false ∧
    member.begin.portServes .g = true ∧ ({ member with boot := .checked } : State).begin.portServes .g = false ∧
    member.mine ⟨2, 0, 0, true⟩ = false := by decide
theorem witness_relayedAccess_read : let p := (3 : Byte) :: 2 :: ([(1 : Byte)] ++ leBytes 2 (0x1018 : BitVec 16).toNat ++ [(3 : BitVec 8)] ++ [])
    let via : Via := { port := .g, cyc := 0, origin := 2, node := 0 }
    headGood (whole 1 0 5 p) 5 p = true ∧ ((member.begin.at 0).read via 0x1018 3 1 false false).1 < 65536 ∧
      ((member.begin.at 0).write via 0x1018 3 [0] false).1 < 65536 := by decide +kernel
theorem witness_relaySession : let s : State := { master with can := onNet.can, galt := { master.galt with sessions := [⟨3, 5, false⟩] } }
    s.galtOn = true ∧ s.mine ⟨0, 1, 0, true⟩ = true ∧ s.ownFrame ⟨0, 1, 0, true⟩ = false ∧ s.mine ⟨1, 1, 0, true⟩ = false ∧
      s.galt.sessions.find? (fun q => q.id = 3) = some ⟨3, 5, false⟩ ∧ s.galt.sessions.find? (fun q => q.id = 4) = none := by decide
theorem witness_relayResponse : headGood (whole 0 1 6 (responsePayload 3 false 0x1018 3 0 0 [])) 6 (responsePayload 3 false 0x1018 3 0 0 []) = true ∧
    (0x102 : BitVec 16) ≠ 0 := by decide +kernel
theorem witness_masterNmt : let s : State := { member with can := { started := true } }
    s.mine ⟨1, 0, 0, true⟩ = true ∧ s.role = 2 ∧ s.can.started = true ∧ member.can.started = false ∧ (3 : Byte) ∉ [1, 2, 0x80, 0x81, 0x82] ∧
      headGood (whole 1 0 0x0c [0x82]) 0x0c [0x82] = true := by decide +kernel
theorem witness_streamSend : let s : State := { member with rings := [(0, { free := 255, unread := [aRecord] })] }
    s.coreRuns = true ∧ s.streams (0 : BitVec 8).toNat = true ∧
      min 4 (min ((s.ring 0).unread.length - (s.stream 0).sent) (16 - (s.stream 0).sent)) ≠ 0 ∧
      min 4 (min ((member.ring 0).unread.length - (member.stream 0).sent) (16 - (member.stream 0).sent)) = 0 ∧
      member.streams (1 : BitVec 8).toNat = false := by decide
theorem witness_streamWindow : let s : State := { member with
      rings := [(0, { free := 200, unread := List.replicate 20 aRecord })], galt := { member.galt with streams := [(0, { sent := 16 })] } }
    s.streams 0 = true ∧ min 4 (min ((s.ring 0).unread.length - (s.stream 0).sent) (16 - (s.stream 0).sent)) = 0 := by decide
theorem witness_streamResend : let s : State := { member with
      rings := [(0, { free := 255, unread := [aRecord] })]
      galt := { member.galt with streams := [(0, { sent := 1, taken := 1 })] } }
    s.streams 0 = true ∧ (s.stream 0).sent ≠ 0 ∧ min 4 (min ((s.ring 0).unread.length - 0) (16 - 0)) ≠ 0 ∧
      (member.stream 0).sent = 0 := by decide
theorem witness_streamResend_empty : let s : State := { member with galt := { member.galt with streams := [(0, { sent := 1 })] } }
    s.streams 0 = true ∧ (s.stream 0).sent ≠ 0 ∧ min 4 (min ((s.ring 0).unread.length - 0) (16 - 0)) = 0 := by decide
theorem witness_streamFrame : master.galtOn = true ∧ master.role = 1 ∧ master.mine ⟨0, 1, 0, true⟩ = true ∧
    master.ownFrame ⟨0, 1, 0, true⟩ = false ∧ (master.node (1 : BitVec 8).toNat).present = true ∧ (master.node 2).present = false ∧
    headGood (whole 0 1 7 (streamPayload 0 0 [0])) 7 (streamPayload (0 : BitVec 8).toNat 0 [0]) = true := by decide +kernel
theorem witness_streamJudged : (master.origin 7 0).last = none ∧ (master.ring 0).takes = true ∧ master.acfg (0x2500 + 0) 1 ≠ 0 ∧
    master.acfg (0x2500 + 0) 3 ≠ 2 ∧ (({ master with rings := [(0, { closed := true })] } : State).ring 0).takes = false := by decide
theorem witness_streamJudged_after : let s : State := { master with galt := { master.galt with origins := [⟨7, 0, some 5, 0⟩] } }
    (s.origin 7 0).last = some (6 - 1) ∧ (s.origin 7 0).last = some 5 ∧ (5 : BitVec 16) ≠ 5 + 1 ∧ ((5 : BitVec 16) - 5).toNat < 32768 ∧
      (7 : BitVec 16) ≠ 5 + 1 ∧ 32768 ≤ ((5 : BitVec 16) - 7).toNat := by decide
theorem witness_ackFrame : let s : State := { member with
      rings := [(0, { free := 255, unread := [aRecord] })], galt := { member.galt with streams := [(0, { sent := 1, taken := 1 })] } }
    s.role = 2 ∧ s.mine ⟨1, 0, 0, true⟩ = true ∧ s.ownFrame ⟨1, 0, 0, true⟩ = false ∧ s.acfg (0x2500 + 0) 3 = 2 ∧
      ((0 : BitVec 16) - (s.stream 0).seq).toNat + 1 ≤ (s.stream 0).taken ∧ (s.stream 0).taken < ((1 : BitVec 16) - (s.stream 0).seq).toNat + 1 ∧
      headGood (whole 1 0 8 (leBytes 1 0 ++ leBytes 2 0)) 8 (leBytes 1 (0 : BitVec 8).toNat ++ leBytes 2 (0 : BitVec 16).toNat) = true := by
  decide +kernel
theorem witness_creditFrame : let s : State := { member with rings := [(0, { free := 255, outstanding := [aRecord] })] }
    ((0 : BitVec 16) - (s.stream 0).credit).toNat = 0 ∧ ((1 : BitVec 16) - (s.stream 0).credit).toNat ≠ 0 ∧
      ((1 : BitVec 16) - (s.stream 0).credit).toNat ≤ (s.ring 0).outstanding.length ∧
      (s.ring 0).outstanding.length < ((2 : BitVec 16) - (s.stream 0).credit).toNat ∧ s.acfg (0x2500 + 0) 3 = 2 ∧ s.acfg (0x2500 + 1) 3 ≠ 2 ∧
      headGood (whole 1 0 9 (leBytes 1 0 ++ leBytes 2 1)) 9 (leBytes 1 (0 : BitVec 8).toNat ++ leBytes 2 (1 : BitVec 16).toNat) = true := by
  decide +kernel
theorem witness_sweep : let s : State := { base with sup := { stopCause := 1, sweeping := true } }
    (s.sup.sweeping && decide (s.sup.stopCause ≠ 0) && !s.clockFault && decide (s.pow.state ≠ .standby)) = true ∧
      base.sup.sweeping = false := by decide
theorem witness_clearStops : let s : State := { base with sup := { stopCause := 1, clearDue := true, shutClear := true, shutdown := true } }
    s.sup.clearDue = true ∧ base.sup.clearDue = false := by decide
theorem witness_dieWarns : base.converterOn = true ∧ base.sup.warning = false ∧ 15000 ≤ clampInt (-32768) 32767 15000 ∧
    clampInt (-32768) 32767 14999 < 15000 ∧ onNet.emcyOn = true := by decide
theorem witness_thermalShutdown : base.coreRuns = true ∧ base.sup.shutdown = false ∧ base.boot ≠ .inReset ∧ base.pow.state ≠ .standby ∧
    ({ base with pow := { state := .standby } } : State).pow.state = .standby ∧ State.reset.boot = .inReset := by decide
theorem witness_bothStops : let s : State := { base with sup := { stopCause := 3, shutdown := true } }
    s.pow.state ≠ .standby ∧ s.sup.shutdown = true ∧ s.sup.stopCause ≠ 0 ∧ base.lanesRun = true := by decide
theorem witness_stopClear : ({ base with sup := { stopCause := 1 } } : State).admits host 0x2e00 7 [1] := by unfold State.admits; decide
theorem witness_shutdownClear : ({ base with sup := { shutdown := true } } : State).admits host 0x2e01 3 [1] := by
  unfold State.admits; decide
theorem witness_powerRequests : base.admits host 0x2e02 1 [0] ∧ base.admits host 0x2e02 1 [1] ∧
    (withConf [(0x2e02, 2, 1)]).admits host 0x2e02 1 [2] := by unfold State.admits; decide
theorem witness_dozeEntry : let s : State := { base with pow := { request := some .doze, noTrig := true, reqAt := -492 } }
    s.coreRuns = true ∧ s.tick.on = true ∧ s.tick.part = .prologue ∧ s.pow.due = true ∧ s.pow.request ≠ none ∧
      s.pow.noTrig = true ∧ s.anyTrigger = false ∧ s.pow.lanesOff = false := by decide
theorem witness_dozeEntry_waits : ({ base with slots := [(0, { run := some ⟨0⟩ })] } : State).anyTrigger = true := by decide
theorem witness_standbyEntry : let s : State := { base with pow := { request := some .standby, noTrig := true, lanesOff := true, reqAt := -492 } }
    s.coreRuns = true ∧ s.tick.on = true ∧ s.tick.part = .prologue ∧ s.pow.due = true ∧ s.pow.request = some .standby ∧
      s.pow.lanesOff = true ∧ s.jn.quiet = true ∧ base.pow.lanesOff = false ∧
      ({ base with jn := { prog := some aProgram } } : State).jn.quiet = false := by decide
theorem witness_wakeRequest : let s : State := { withConf [(0x2e02, 2, 8)] with pow := { state := .standby } }
    (decide (s.pow.state = .standby) && decide (s.acfg 0x2e02 2 / 2 ^ (3 : Fin 4).val % 2 = 1) && s.wakeReady 3 0) = true ∧
      (decide (s.acfg 0x2e02 2 / 2 ^ (2 : Fin 4).val % 2 = 1)) = false := by decide
theorem witness_wakeSources : let s : State := { withConf [(0x2740, 1, 1), (0x2740, 9, 8), (0x2800, 1, 1), (0x2810, 7, 1)] with
      elems := [(0, { wakeHits := 2 })], plugs := [(0, { moved := true })], mons := [(0, { comp := true })] }
    s.wakeReady 0 0 = true ∧ s.wakeReady 1 0 = true ∧ s.wakeReady 2 2 = true ∧ s.wakeReady 2 1 = false := by decide
theorem witness_wakeReturn : let s : State := { base with pow := { state := .standby, wakePin := true } }
    s.pow.state = .standby ∧ s.pow.wakePin = true ∧ s.galt.counterNext = none ∧ s.pow.request = none ∧ base.pow.wakePin = false := by decide

theorem witness_withinLimits (p j : Nat) : ∃ z sp : Int, sp ≠ z ∧
    withinLimits p j ((z : Rat), (7864320 : Rat) / ((sp - z : Int) : Rat) - 1) = true := withinLimits_reachable p j

/-! Single commands, with results worked out from the manual. -/

/-- R426, example: the host reads 1018h.03 with tag 5Ah; the held response carries 0002 0103h and CRC 88h. -/
theorem test_spiRead : seen (.spiFrame [0x01, 0x5a, 0x18, 0x10, 0x03, 0x00, 0xe8] 0 true) base (fun t => (t.spi.resp, t.out)) =
    some (some [0x5a, 0x00, 0x00, 0x04, 0x00, 0x03, 0x01, 0x02, 0x00, 0x88], [.spi [0x05, 0xff, 0xff, 0xff, 0xff, 0xff, 0xff]]) := by
  decide +kernel
/-- R426, example: the op 00h frame that fetches it. -/
theorem test_spiFetch : seen (.spiFrame (List.replicate 11 0) 0 true)
      { base with spi := { resp := some [0x5a, 0x00, 0x00, 0x04, 0x00, 0x03, 0x01, 0x02, 0x00, 0x88] } } (fun t => (t.spi.resp, t.out)) =
    some (none, [.spi [0x85, 0x5a, 0x00, 0x00, 0x04, 0x00, 0x03, 0x01, 0x02, 0x00, 0x88]]) := by decide +kernel
/-- R19: the counter wraps to 0 and the epoch steps. -/
theorem test_tickBoundary_wraps : seen .tickBoundary { base with tick := { on := true, counter := 0xffffffff, epoch := 0xffff } }
    (fun t => (t.tick.counter, t.tick.epoch)) = some (0, 0) := by decide +kernel
/-- R53, R58: an every-tick trigger starts its slot's run at t0. -/
theorem test_tickBoundary_latches : seen .tickBoundary oneSlot (fun t => ((t.slot 0).run, t.ledger.accepted)) = some (some ⟨1⟩, 1) := by
  decide +kernel
/-- R490: TICK_ZERO before the PLL locks is no event of this device. -/
theorem test_tickZero_waits : seen .tickZero { boot := .checked, clk := { pll := 1 } } (·.boot) = some .checked := by decide +kernel
/-- R482: AVDD of 5.000 V stamps (5.000 − 2.000) ÷ 0.015 = 200. -/
theorem test_supplyStamp : seen (.supplyStamp ⟨5000000, 3300⟩) base (·.sup.stamp) = some 200 := by decide +kernel
/-- R482: the code is clamped to 255 above 5.825 V. -/
theorem test_supplyStamp_clamped : seen (.supplyStamp ⟨6000000, 3300⟩) base (·.sup.stamp) = some 255 := by decide +kernel
/-- R53, R56: both edges count for a slot of source 03h, three cycles after the edge. -/
theorem test_trigEdge_both : seen (.trigEdge false 100) (withConf [(0x2180, 1, 1), (0x2180, 11, 3)])
    (fun t => (t.tick.latches, ((t.at 102).slot 0).events, ((t.at 103).slot 0).events)) = some ([(103, 2), (103, 3)], 0, 1) := by decide +kernel
/-- R53: a rising edge is no event of a slot of source 02h. -/
theorem test_trigEdge_other : seen (.trigEdge true 100) (withConf [(0x2180, 1, 1), (0x2180, 11, 2)]) (fun t => ((t.at 103).slot 0).events) =
    some 0 := by decide +kernel
/-- R47, R249: the record of a conversion, its wait of 2 ticks as DLY. -/
theorem test_conversionEnd_dly : seen (.conversionEnd 0 0 .ok) { oneSlot with
      tick := { on := true, counter := 7 }
      lanes := [(0, { conv := some { aConv with trig := ⟨5⟩ }, points := [(0, (0, 0))] })]
      slots := [(0, { run := some ⟨5⟩ })] } (fun t => t.formed.map (fun f => (f.r.tick, f.r.word12))) = some [(7, 0x2000)] := by
  decide +kernel
/-- R205: the window of the first settled sample begins a after the connection, so the sample lies one occupancy behind it: 4178
modulator cycles, or 33 424 of the system clock, for preset 2 (R46). -/
theorem test_outputSample_settles : [33423, 33424].map (fun c =>
      seen (.dedicatedOutputSample 0 0 .ok 0) { withConf [(0x2180, 1, 1), (0x2200, 1, 1)] with lanes := [(0, { conn := some c, points := [(0, (0, 0))] })] }
        (fun t => ((t.lane 0).last.map (·.settled)))) = [some (some false), some (some true)] := by decide +kernel
/-- R254: the next record of a ring carries the next SEQ, modulo 4096. -/
theorem test_recordStore_seq : seen .recordStore { base with
      formed := [⟨0, aRecord, 1⟩]
      rings := [(0, { free := 256, seq := 4095 })] } (fun t => ((t.ring 0).unread.map (·.word12), (t.ring 0).seq)) =
    some ([0x0fff], 0) := by decide +kernel
/-- R95, R97: a commit stands at CHECKING with the shadow copy frozen, and an empty configuration passes its check. -/
theorem test_commit : seen (.commit host) base (fun t => (t.com.result.toNat, t.com.frozen.isSome, t.com.fail.isNone)) = some (1, true, true) := by
  decide +kernel
/-- R15: 12 + G ≥ N is refused with 0301h. -/
theorem test_commit_guard : seen (.commit host) (withConf [(0x2000, 1, 192), (0x2000, 3, 292)]) (fun t => t.com.fail.map (·.1)) =
    some (some 0x301) := by decide +kernel
/-- R95: DISCARD takes the shadow copy back to the active one. -/
theorem test_discard : seen (.discard host) { base with shadow := conf [(0x2000, 1, 192)] } (fun t => (t.shadow, t.com.dirty)) =
    some ([], false) := by decide +kernel
/-- R3: 2001h.02 is read only. -/
theorem test_objectWrite_readOnly : seen (.objectWrite host 0x2001 2 [0, 0, 0, 0]) base (fun t => t.diag.refusals.map (·.code)) =
    some [0x101] := by decide +kernel
/-- R437: in SEALED a sealed entry is refused with 0201h. -/
theorem test_objectWrite_sealed : seen (.objectWrite host 0x2180 0x15 [0, 0, 0x80, 0x3f]) { base with lock := { state := .isSealed } }
    (fun t => t.diag.refusals.map (·.code)) = some [0x201] := by decide +kernel
/-- R258: more credits than outstanding places free none and are refused with 0601h. -/
theorem test_creditReturn_beyond : seen (.creditReturn host 0 2) { base with rings := [(0, { free := 255, outstanding := [aRecord] })] }
    (fun t => ((t.ring 0).free, t.ledger.overReturn, t.diag.refusals.map (·.code))) = some (255, 1, [0x601]) := by decide +kernel
/-- R257: fewer unread records than asked for are no refusal. -/
theorem test_readRecords_few : seen (.readRecords host 0 16) { base with rings := [(0, { free := 255, unread := [aRecord] })] }
    (fun t => ((t.ring 0).unread.length, (t.ring 0).outstanding.length, t.diag.refusals.length)) = some (0, 1, 0) := by decide +kernel
/-- R137: a clock fault begins an INTEGRITY-STOP with cause 03h. -/
theorem test_clockFault : seen (.clockFault .xoLoss 0) { base with clk := { seen := true } } (fun t => (t.sup.stopCause, t.clk.causes, t.tick.on)) =
    some (3, [1], false) := by decide +kernel
/-- R144: a pin above its range faults with 01h. -/
theorem test_pinFault : seen (.pinFaultEntry 39 true) base (fun t => ((t.pin 39).fault, (t.pin 39).entries, (t.pin 38).fault)) =
    some (1, 1, 0) := by decide +kernel
/-- R152: 0.4 V of headroom is COMPLIANCE in current mode, not CLIP. -/
theorem test_excitation_compliance : seen (.excitationReading 0 100000 4600000 5000000)
      { oneSource with active := conf [(0x2140, 1, 1), (0x2140, 2, 1)] } (fun t => ((t.source 0).compl, (t.source 0).clip)) =
    some (true, false) := by decide +kernel
/-- R514: 2.4979 V is outside the limits of VREFO. -/
theorem test_vrefo_low : seen (.vrefoReading 2497999) base (·.sense.vrefoOut) = some true := by decide +kernel
/-- R188: a lane fault counts and takes its lane off its input. -/
theorem test_laneFault : seen (.laneFault 1) base (fun t => ((t.lane 1).faulted, (t.lane 1).trips, (t.lane 0).faulted)) =
    some (true, 1, false) := by decide +kernel
/-- R216: a swap request waits for its sample. -/
theorem test_swapRequest : seen (.swapRequest host 15) base (·.sense.swaps) = some [(15, 0)] := by decide +kernel
/-- R277: no scan starts in a tick that is no multiple of S, here 10. -/
theorem test_scanStart_other_tick : seen .scanStart { touching with tick := { on := true, counter := 9 } } (·.touch.scan) = some none := by
  decide +kernel
/-- R277: two electrodes of measure code 2 take 2 × (32 × 4 + 8) = 272 µs. -/
theorem test_scanEnd_duration : seen (.scanEnd [0, 0]) { touching with touch := { scan := some (0, [0, 23]) } } (·.touch.lastUs) =
    some 272 := by decide +kernel
/-- R291: a voltage above .05 is UNPLUGGED: the state stays, and no change is counted. -/
theorem test_plugSample_unplugged : seen (.plugSample 0 0xffff) (withConf [(0x2740, 1, 1), (0x2740, 6, 1)])
    (fun t => ((t.plug 0).state, (t.plug 0).changes)) = some (.unplugged, 0) := by decide +kernel
/-- R289: ones clear bits of 2720h.09, zeros leave them. -/
theorem test_interruptPendingClear : seen (.interruptPendingClear host 0xf0) { base with touch := { pending := 0xff } } (·.touch.pending) =
    some 0x0f := by decide +kernel
/-- R309: a re-arm releases the capture registers of its ones. -/
theorem test_captureRearm : seen (.captureRearm host 1) { base with caps := [(0, { held := true }), (1, { held := true })] }
    (fun t => ((t.capture 0).held, (t.capture 1).held)) = some (false, true) := by decide +kernel
/-- R324: the last code written is the one held. -/
theorem test_staticCode : seen (.staticCode host 2 0x1234) base (fun t => ((t.output 2).held, (t.output 1).held)) =
    some (0x1234, 0x8000) := by decide +kernel
/-- R332: a reset with q = 0 is made once. -/
theorem test_phaseReset_once : seen (.phaseReset 3) { base with gens := [(3, { phi := 5, armed := true })] }
    (fun t => ((t.gen 3).phi, (t.gen 3).armed, (t.gen 3).resets)) = some (0, false, 1) := by decide +kernel
/-- R353: the timeout is ABORTED, cause 2. -/
theorem test_calibrationTimeout : seen .calibrationTimeout { base with cal := { run := some .span } }
    (fun t => (t.cal.run, t.cal.result, t.cal.cause)) = some (none, 6, 2) := by decide +kernel
/-- R373: sub-index 01h stores all three classes. -/
theorem test_store_all : seen (.store host 1) base (fun t => t.jn.queue.map (·.classes) ++ t.jn.plans.map (fun p => [p.cls])) ≠ some [] := by
  decide +kernel
/-- R377: JOURNAL_SCAN of an erased flash restores nothing: the default configuration, lock OPEN with an intact fuse. -/
theorem test_journalScan_empty : seen (.journalScan 0) { boot := .fuses } (fun t => (t.boot, t.com.startCfg, t.lock.state)) =
    some (.checked, [], .unsealed) := by decide +kernel
/-- R413: with a blown fuse and no record the device is SEALED. -/
theorem test_journalScan_sealed : seen (.journalScan 0) { boot := .fuses, lock := { fuse := true } } (fun t => t.lock.state) =
    some .isSealed := by decide +kernel
/-- R431: 000h 01h 00h starts every node. -/
theorem test_nmtStart : seen (.nmtStart 0) { base with can := { started := true } } (·.can.nmt) = some .operational := by decide +kernel
/-- R431: the heartbeat of a node in OPERATIONAL carries 05h on 700h + node-ID. -/
theorem test_heartbeat : seen .heartbeat { onNet with live := conf [(0x1017, 0, 1000)] } (·.out) =
    some [.can (0x700 + onNet.nodeId) [5] onNet.canBrs] := by decide +kernel
/-- R433: a mapped TPDO of 2001h.02 carries the counter. -/
theorem test_tpdoEventTimer : seen (.tpdoEventTimer 0) { withPdos 0 with tick := { on := true, counter := 0x01020304 } }
    (fun t => (t.tpdoRt 0).queued.map (·.2.2)) = some [[4, 3, 2, 1]] := by decide +kernel
/-- R438: SEAL blows the fuse. -/
theorem test_seal : seen (.seal svc) base (fun t => (t.lock.state, t.lock.fuse)) = some (.isSealed, true) := by decide +kernel
/-- R442: after the third failure in a row the back-off is 4 s. -/
theorem test_verdict_backOff : seen .unlockVerdict { attempting 0 with lock := { (attempting 0).lock with fails := 3 } }
    (fun t => (t.lock.state, t.lock.backOff)) = some (.isSealed, 4 * 6144000) := by decide +kernel
/-- R461: TICK goes on with the offset raised by h and r, modulo 2^32. -/
theorem test_tickSymbol : seen (.tickSymbol 0xffffffff 3) { member with galt := { member.galt with hop := 2 } } (·.out) =
    some [.galtTick 4] := by decide +kernel
/-- R472: the second notice of one break is not counted. -/
theorem test_break_once : seen .breakDetected { member with galt := { member.galt with detected := true, breaks := 1 } } (·.galt.breaks) =
    some 1 := by decide +kernel
/-- R454, 8b/10b: the special characters and D0.0, D31.7, D17.7, D11.7 as the code has them from negative, and from positive, disparity. -/
theorem test_lineCode :
    [Char8.idle, .tick, .sound, .sof, .eof, .abort, .data 0, .data 0xff, .data 0xf1].map (fun c => (c.code false).1) =
      [0b0011111010, 0b0011111001, 0b0011111000, 0b1101101000, 0b1011101000, 0b0111101000, 0b1001110100, 0b1010110001, 0b1000110111] ∧
    ([Char8.idle, .data 0, .data 0xeb].map (fun c => (c.code true).1)) = [0b1100000101, 0b0110001011, 0b1101001000] := by decide +kernel
/-- R456: CRC-16 with polynomial 1021h and initial value FFFFh of "123456789" is 29B1h. -/
theorem test_crc16 : crc16 [0x31, 0x32, 0x33, 0x34, 0x35, 0x36, 0x37, 0x38, 0x39] = 0x29b1 := by decide +kernel
/-- R529: a logic output is high impedance while VIO is below 2.5 V, and a level from there on. -/
theorem test_vio : [2499, 2500].map (fun mv => ({ base with sup := { vioMv := mv } } : State).drive false .tickout) = [.highZ, .low] := by
  decide
/-- R173, R491: VREFO is driven in RUN where 2210h.05 is 1, and high impedance where it is 0. -/
theorem test_vrefo_drive : [0, 1].map (fun x => (withConf [(0x2210, 5, x)]).drive false .vrefo) = [.highZ, .active] := by decide
/-- R486: a mismatch while a stop is in force only counts. -/
theorem test_rindCheck_again : seen (.rindCheck true false) { base with sup := { stopCause := 3, mismatches := 1 } }
    (fun t => (t.sup.stopCause, t.sup.mismatches)) = some (3, 2) := by decide +kernel
/-- R492: the warning stays between 145 °C and 150 °C. -/
theorem test_die_hysteresis : [true, false].map (fun w => seen (.dieTemperatureReading 14500) { base with sup := { warning := w } }
    (·.sup.warning)) = [some true, some false] := by decide +kernel
/-- R496: with a trigger in flight DOZE is not entered. -/
theorem test_doze_waits : seen .dozeEntry { oneSlot with
      pow := { request := some .doze, noTrig := true, reqAt := -492 }
      slots := [(0, { run := some ⟨0⟩ })] } (·.pow.state) = some .run := by decide +kernel
/-- R488: reset keeps the fuse and loses the rest. -/
theorem test_nrst : seen (.nrst 0) { onNet with lock := { fuse := true, state := .isSealed } } (fun t => (t.lock.fuse, t.boot, t.can.started)) =
    some (true, .inReset, false) := by decide +kernel

end Sys2Proof.Tests
end

section
/-! PROOFS. Writes that the checks of R392 refuse, and why every write of an identity object is one of them (R9, R392, R398). -/
namespace Sys2Proof.Machine
open Sys2Proof

/-- A write that fails a check is refused with that check's code; a judged one of 2C10h.05 spends the challenge (R392, R440). -/
theorem State.write_of_refusal {s : State} {v : Via} {idx sub c : Nat} {data : List Byte} {abort : Bool}
    (h : s.writeRefusal v idx sub data = c) (hc : c ≠ 0) :
    s.write v idx sub data abort = (c, if spends idx sub c then (s.refuse v idx sub c abort).spendChallenge
      else s.refuse v idx sub c abort) := by
  unfold State.write
  rw [h, if_pos hc]

/-- What a write that reaches its port and fails a check leaves. -/
theorem State.portWrite_of_refusal {s : State} {v : Via} {idx sub c : Nat} {data : List Byte}
    (hp : s.begin.portServes v.port = true) (h : (s.heard v).writeRefusal v idx sub data = c) (hc : c ≠ 0) :
    s.begin.portWrite v idx sub data =
      if spends idx sub c then ((s.heard v).refuse v idx sub c (decide (v.port = .n))).spendChallenge
      else (s.heard v).refuse v idx sub c (decide (v.port = .n)) := by
  unfold State.portWrite
  rw [if_pos hp]
  exact congrArg Prod.snd (State.write_of_refusal h hc)

/-- An entry with the letter c on every port (R3). -/
def Entry.isConstant (e : Entry) : Prop := ∀ p, e.letter p = .c

/-- The code of the third check of R392 on a constant entry: the relay rule of R435 comes before the letter. -/
def constantRefusal (v : Via) : Nat := if v.port = .g ∧ v.origin = 2 then 0x105 else 0x103

/-- A write of a constant entry is refused by its letter check, whatever the state. -/
theorem State.letterRefusal_of_isConstant {e : Entry} (he : e.isConstant) (s : State) (v : Via) :
    s.letterRefusal e v = constantRefusal v := by
  simp [State.letterRefusal, constantRefusal, he v.port, Letter.writes]

/-- The codes of a constant entry are of the 01xxh family. -/
theorem constantRefusal_family (v : Via) : constantRefusal v / 256 = 1 := by
  unfold constantRefusal
  split <;> rfl

/-- A constant entry's write never passes its checks, whose pass is the code 0. -/
theorem constantRefusal_ne_zero (v : Via) : constantRefusal v ≠ 0 := by
  have h := constantRefusal_family v
  omega

/-- Only a code of the 02xxh family spends the challenge (R440). -/
theorem spends_family {idx sub c : Nat} (h : spends idx sub c = true) : c / 256 = 2 := by
  simp only [spends, Bool.and_eq_true, Bool.or_eq_true, decide_eq_true_eq] at h
  omega

/-- The letter check comes before the lock, the data and the state of the device: its code is that of the write (R392). -/
theorem State.writeRefusal_of_isConstant {idx sub : Nat} {e : Entry} (ho : entryOf idx sub = some e) (he : e.isConstant)
    (s : State) (v : Via) (data : List Byte) : s.writeRefusal v idx sub data = constantRefusal v := by
  have hform : s.formRefusal v idx sub data = (constantRefusal v, some e) := by
    unfold entryOf at ho
    unfold State.formRefusal
    split at ho
    next f hf => simp [hf, ho, State.letterRefusal_of_isConstant he, constantRefusal_ne_zero v]
    next => cases ho
  simp [State.writeRefusal, hform, constantRefusal_ne_zero v]

/-- OBJECT_WRITE of a constant entry ends refused. -/
theorem ends_objectWrite_of_isConstant {s : State} {v : Via} {idx : BitVec 16} {sub : BitVec 8} {data : List Byte} {e : Entry}
    (ho : entryOf idx.toNat sub.toNat = some e) (he : e.isConstant) (hr : s.reached v) :
    Ends (.objectWrite v idx sub data) s
      ((s.heard v).refuse v idx.toNat sub.toNat (constantRefusal v) (decide (v.port = .n))) := by
  obtain ⟨hcore, hport⟩ := hr
  refine State.ends_of_run (f := fun s => s.portWrite v idx.toNat sub.toNat data) hcore rfl ?_
  have hc := State.writeRefusal_of_isConstant ho he (s.heard v) v data
  have hkeep : ¬ spends idx.toNat sub.toNat (constantRefusal v) = true := fun h => by
    have h1 := constantRefusal_family v
    have h2 := spends_family h
    omega
  exact (State.portWrite_of_refusal hport hc (constantRefusal_ne_zero v)).trans (if_neg hkeep)

/-- The constant entries of the table are those built by `eC`. -/
theorem isConstant_of_eC {ty : Ty} {d : Nat} {e : Entry} (h : eC ty d = some e) : e.isConstant := by
  cases h
  intro p
  cases p <;> rfl

/-- An index with one constant entry has no other entry. -/
theorem isConstant_of_objSingle {ty : Ty} {d sub : Nat} {e : Entry} (h : objSingle (eC ty d) sub = some e) : e.isConstant := by
  unfold objSingle at h
  split at h
  · exact isConstant_of_eC h
  · cases h

/-- Every entry of 1018h is constant (R10). -/
theorem isConstant_of_objIdentity {sub : Nat} {e : Entry} (h : objIdentity sub = some e) : e.isConstant := by
  unfold objIdentity at h
  split at h
  case h_6 => cases h
  all_goals exact isConstant_of_eC h

/-- Every entry of the identity objects of R7 is constant. -/
theorem isConstant_of_identity {idx sub : Nat} {e : Entry} (hi : idx ∈ [0x1000, 0x1008, 0x1009, 0x100a, 0x1018])
    (h : entryOf idx sub = some e) : e.isConstant := by
  simp only [List.mem_cons, List.not_mem_nil, or_false] at hi
  obtain rfl | rfl | rfl | rfl | rfl := hi
  case inr.inr.inr.inr => exact isConstant_of_objIdentity h
  all_goals exact isConstant_of_objSingle h

/-- Settles O14: the letter check, which precedes the field lock, refuses every write of a constant entry. -/
theorem identityIsNeverWritten : Obligations.IdentityIsNeverWritten := by
  intro s v idx sub data hi hsome
  obtain ⟨e, ho⟩ := Option.isSome_iff_exists.mp hsome
  have he := isConstant_of_identity hi ho
  exact ⟨constantRefusal v, constantRefusal_family v, State.writeRefusal_of_isConstant ho he s v data,
    ends_objectWrite_of_isConstant ho he⟩

end Sys2Proof.Machine
end

section
/-! PROOFS. The frames of GaltLink: which stand, what a broken one changes, which go on, and breaks (R1, R456, R472). -/
namespace Sys2Proof.Machine
open Sys2Proof

/-- A frame stands where its characters were clean and its CRC is that of its body (R456). -/
theorem headGood_iff (hd : FrameHead) (typ : Nat) (p : List Byte) :
    headGood hd typ p = true ↔ hd.clean = true ∧ hd.crc = crc16 (frameBody (BitVec.ofNat 8 typ) hd.dst hd.org p) := by
  simp [headGood]

/-- A node outside the ring takes no frame. -/
theorem State.galtFrame_of_off {s : State} (h : s.galtOn = false) (hd : FrameHead) (typ : Nat) (p : List Byte)
    (f : State → State) : s.galtFrame hd typ p f = s := by
  simp [State.galtFrame, h]

/-- A frame that does not stand is counted and has no other effect. -/
theorem State.galtFrame_of_broken {s : State} (hon : s.galtOn = true) {hd : FrameHead} {typ : Nat} {p : List Byte}
    (hbad : headGood hd typ p = false) (f : State → State) :
    s.galtFrame hd typ p f = s.updGalt (fun g => { g with codeErrs := satInc g.codeErrs }) := by
  simp [State.galtFrame, hon, hbad]

/-- A frame that stands has the effect of its kind. -/
theorem State.galtFrame_of_good {s : State} (hon : s.galtOn = true) {hd : FrameHead} {typ : Nat} {p : List Byte}
    (hgood : headGood hd typ p = true) (f : State → State) : s.galtFrame hd typ p f = f s := by
  simp [State.galtFrame, hon, hgood]

/-- Every command that brings a frame first judges whether that frame stands. -/
theorem exec_of_carries {i : Instr} {hd : FrameHead} {typ : Nat} {p : List Byte} (h : carries i = some (hd, typ, p)) :
    ∃ f : State → State, ∀ s, exec i s = s.run (fun s => s.galtFrame hd typ p f) := by
  unfold carries at h
  split at h
  case h_13 => cases h
  all_goals cases h; exact ⟨_, fun _ => rfl⟩

/-- R456's layout is that of the frames sent and of the frames judged. -/
theorem framesCarryTheirCrc : Claim.FramesCarryTheirCrc := by
  intro typ dst org p crc clean
  exact ⟨rfl, headGood_iff _ _ _⟩

/-- The judgement of `galtFrame` is the whole effect of a frame that does not stand, for every kind of frame. -/
theorem brokenFramesAreOnlyCounted : Claim.BrokenFramesAreOnlyCounted := by
  intro s i hd typ p hcore hcarries
  obtain ⟨f, hexec⟩ := exec_of_carries hcarries
  constructor
  · intro hon hbad
    exact State.ends_of_run hcore (hexec s) (State.galtFrame_of_broken (s := s.begin) hon hbad f)
  · intro hoff
    exact State.ends_of_run hcore (hexec s) (State.galtFrame_of_off (s := s.begin) hoff hd typ p f)

/-- A frame of this node, one for this node alone, and every frame while the transmit domain is halted go nowhere. -/
theorem State.forward_of_stays {s : State} {hd : FrameHead}
    (h : s.ownFrame hd = true ∨ s.netHalted = true ∨ (s.mine hd = true ∧ hd.dst ≠ 0xff)) (typ : Nat) (p : List Byte) :
    s.forward typ hd p = s := by
  unfold State.forward
  rw [if_pos]
  obtain h | h | ⟨hm, hdst⟩ := h
  · simp [h]
  · simp [h]
  · simpa [hm] using .inl (.inr hdst)

/-- Every other frame goes on whole. -/
theorem State.forward_of_goesOn {s : State} {hd : FrameHead} (hown : s.ownFrame hd = false) (hnet : s.netHalted = false)
    (h : s.mine hd = false ∨ hd.dst = 0xff) (typ : Nat) (p : List Byte) :
    s.forward typ hd p = s.send (galtFrameOf (BitVec.ofNat 8 typ) hd.dst hd.org p) := by
  unfold State.forward
  rw [if_neg]
  obtain h | h := h <;> simp [hown, hnet, h]

/-- R456, R472: which frames a node passes on. -/
theorem framesGoOn : Claim.FramesGoOn := by
  intro s typ hd p
  exact ⟨fun h3 => if_pos h3, fun h3 => if_neg h3, fun h => State.forward_of_stays h typ p,
    fun hown hnet h => State.forward_of_goesOn hown hnet h typ p⟩

/-- A break not yet detected is noted, counted and logged. -/
theorem State.breakDetected_first {s : State} (hon : s.galtOn = true) (h : s.galt.detected = false) :
    s.breakDetected = (s.updGalt (fun g => { g with
      state := 3, detected := true, broke := true, locked := false, breaks := satInc g.breaks })).event 0x2d00 7
        (satInc s.galt.breaks) := by
  simp [State.breakDetected, hon, h]

/-- A break detected already changes nothing. -/
theorem State.breakDetected_again {s : State} (h : s.galt.detected = true) : s.breakDetected = s := by
  simp [State.breakDetected, h]

/-- BREAK that has returned to its sender ends there (R472). -/
theorem State.breakFrame_of_own {s : State} (hon : s.galtOn = true) {hd : FrameHead} {a : Byte}
    (hgood : headGood hd 0x0a [a] = true) (hown : s.ownFrame hd = true) : s.breakFrame hd a = s :=
  (State.galtFrame_of_good hon hgood _).trans (if_pos hown)

/-- BREAK of another node brings ring state 03h and goes on (R472). -/
theorem State.breakFrame_of_other {s : State} (hon : s.galtOn = true) {hd : FrameHead} {a : Byte}
    (hgood : headGood hd 0x0a [a] = true) (hown : s.ownFrame hd = false) :
    s.breakFrame hd a = (s.updGalt (fun g => { g with state := 3 })).forward 0x0a hd [a] :=
  (State.galtFrame_of_good hon hgood _).trans (if_neg (by simp [hown]))

/-- R472: detection and report of a break. -/
theorem breaksAreCountedOnce : Claim.BreaksAreCountedOnce := by
  intro s hcore hon
  refine ⟨fun hnew => ?_, fun hold => ?_, fun hd a hgood => ⟨fun hown => ?_, fun hown => ?_⟩⟩
  · exact State.ends_of_run hcore rfl (State.breakDetected_first (s := s.begin) hon hnew)
  · exact State.ends_of_run hcore rfl (State.breakDetected_again (s := s.begin) hold)
  · exact State.ends_of_run (f := (·.breakFrame hd a)) hcore rfl (State.breakFrame_of_own (s := s.begin) hon hgood hown)
  · exact State.ends_of_run (f := (·.breakFrame hd a)) hcore rfl (State.breakFrame_of_other (s := s.begin) hon hgood hown)

/-- Settles O53, clause by clause. -/
theorem galtLinkBreaks : Obligations.GaltLinkBreaks :=
  ⟨framesCarryTheirCrc, brokenFramesAreOnlyCounted, framesGoOn, breaksAreCountedOnce⟩

end Sys2Proof.Machine
end

section
/-! PROOFS. What a walk over a list keeps, and what the end of a command leaves alone. -/
namespace Sys2Proof.Machine
open Sys2Proof

/-- A property that every step of a walk keeps is kept by the walk. -/
theorem foldl_keeps {α β : Type} (g : State → β) (f : State → α → State) (h : ∀ s a, g (f s a) = g s) (l : List α) (s : State) :
    g (l.foldl f s) = g s := by
  induction l generalizing s with
  | nil => rfl
  | cons a t ih => exact (ih (f s a)).trans (h s a)

/-- States that agree apart from the CAN port and what is sent. -/
theorem State.eq_of_apart {s u : State} (h : s.apart = u.apart) : s = { u with can := s.can, out := s.out } :=
  calc s = { s.apart with can := s.can, out := s.out } := rfl
    _ = { u.apart with can := s.can, out := s.out } := by rw [h]
    _ = { u with can := s.can, out := s.out } := rfl

/-- The end of a command leaves the tick machinery alone. -/
theorem State.settle_tick (s : State) : s.settle.tick = s.tick := by
  rw [State.eq_of_apart s.apart_settle]

end Sys2Proof.Machine
end

section
/-! PROOFS. The instants within a tick: what time brings, TICKOUT, and the parts of the tick (R13, R17). -/
namespace Sys2Proof.Machine
open Sys2Proof

/-- A verdict changes the calibration, the slot's status and the event log. -/
theorem State.verdict_sameButTriggers (s : State) (v : Verdict) (cause : Nat) : (s.verdict v cause).sameButTriggers s := rfl

/-- A calibration that a resolved trigger ends (R353). -/
theorem State.calWhey_sameButTriggers (s : State) : s.calWhey.sameButTriggers s := by
  unfold State.calWhey
  split
  · split
    · exact s.verdict_sameButTriggers ..
    · split
      · exact s.verdict_sameButTriggers ..
      · exact s.sameButTriggers_refl
  · exact s.sameButTriggers_refl

/-- What is latched up to a cycle changes triggers only (R53). -/
theorem State.latchTo_sameButTriggers (s : State) (c : Nat) : (s.latchTo c).sameButTriggers s :=
  State.sameButTriggers_trans (State.calWhey_sameButTriggers _)
    (foldl_sameButTriggers _ _ _ fun s c => s.latchCycle_sameButTriggers c)

/-- The time that a command names changes triggers only. -/
theorem State.at_sameButTriggers (s : State) (c : Nat) : (s.at c).sameButTriggers s :=
  State.sameButTriggers_trans (s := (s.latchTo c).startsBefore (c + 1)) rfl
    (State.sameButTriggers_trans (State.startsBefore_sameButTriggers _ _) (s.latchTo_sameButTriggers c))

/-- Where only triggers change, TICKOUT stays. -/
theorem State.tickout_of_sameButTriggers {s u : State} (h : s.sameButTriggers u) : s.tick.tickout = u.tick.tickout :=
  congrArg (·.tick.tickout) h

/-- HALF_TICK of a running tick with TICKOUT high. -/
theorem State.halfTick_of_on {s : State} (hon : s.tick.on = true) (hout : s.tick.tickout = true) :
    s.halfTick = ({ s with tick := { s.tick with tickout := false } } : State).at (8 * (tickN s.active / 2)) := by
  simp [State.halfTick, hon, hout]

/-- BODY_OPEN opens the body of a running tick. -/
theorem State.bodyOpen_part {s : State} (hon : s.tick.on = true) (hpart : s.tick.part = .prologue) :
    s.bodyOpen.tick.part = .body := by
  simp [State.bodyOpen, hon, hpart]

/-- GUARD_WINDOW_OPEN opens the guard window of a running tick. -/
theorem State.guardWindow_part {s : State} (hon : s.tick.on = true) (hpart : s.tick.part ≠ .guard) :
    s.guardWindow.tick.part = .guard := by
  simp [State.guardWindow, hon, hpart]

/-- Settles O11: each event acts on the part it names; number and configuration are kept by every operation it is made of. -/
theorem tickPartsFollow : Obligations.TickPartsFollow := by
  intro s hcore hon
  refine ⟨fun hout => ?_, fun hpart => ?_, fun hpart => ?_⟩
  · have hhalf := State.halfTick_of_on (s := s.begin) hon hout
    refine ⟨State.ends_of_run hcore rfl hhalf, State.reaches_of_run hcore rfl ⟨?_, ?_, ?_⟩⟩
    · rw [State.settle_tick, hhalf]
      exact State.tickout_of_sameButTriggers (State.at_sameButTriggers _ _)
    all_goals simp
  · exact State.reaches_of_run hcore rfl ⟨by simpa using State.bodyOpen_part (s := s.begin) hon hpart, by simp, by simp⟩
  · exact State.reaches_of_run hcore rfl ⟨by simpa using State.guardWindow_part (s := s.begin) hon hpart, by simp, by simp⟩

end Sys2Proof.Machine
end

section
/-! PROOFS. The first rule of the commit check (R15, R105). -/
namespace Sys2Proof.Machine
open Sys2Proof

/-- The codes of the rules after the first are other than 0301h (R105). -/
theorem later_rule_code_ne {c : CheckIn} {ch : List Nat} {r : Nat × Option Failure} (h : r ∈ (commitRules c ch).tail) : r.1 ≠ 0x301 := by
  have hcodes : 0x301 ∉ (commitRules c ch).tail.map (·.1) := by simp [commitRules]
  exact fun he => hcodes (he ▸ List.mem_map_of_mem h)

/-- R15's rule fails where the prologue and the guard window leave no room. -/
theorem rule0301_of_le {f : Tbl Nat} (h : tickN f ≤ 12 + guardG f) :
    rule0301 f = some (12 + guardG f + 1 - tickN f, key 0x2000 3, 0) := by
  simp [rule0301, failIf, h]

/-- R15's rule passes where they do. -/
theorem rule0301_of_lt {f : Tbl Nat} (h : 12 + guardG f < tickN f) : rule0301 f = none := by
  simp [rule0301, failIf, h]

/-- R15's rule is the first of R105's table. -/
theorem commitCheck_of_rule0301 {c : CheckIn} {x : Failure} (h : rule0301 c.frozen = some x) : commitCheck c = some (0x301, x) := by
  simp [commitCheck, commitRules, h]

/-- Settles O23: 0301h is the first rule of R105's table and the code of no other. -/
theorem guardMustLeaveRoom : Obligations.GuardMustLeaveRoom := by
  intro c
  refine ⟨fun hle => ⟨_, commitCheck_of_rule0301 (rule0301_of_le hle)⟩, fun hlt x hx => ?_⟩
  have hpass := rule0301_of_lt hlt
  obtain ⟨r, hr, hfound⟩ := List.exists_of_findSome?_eq_some hx
  obtain ⟨_, hfail, hcode⟩ := Option.map_eq_some_iff.mp hfound
  obtain rfl | hr := List.mem_cons.mp hr
  · simp [hpass] at hfail
  · exact later_rule_code_ne hr (congrArg Prod.fst hcode)

end Sys2Proof.Machine
end

section
/-! PROOFS. What reaches the lock loop between its evaluations (R20–R23, R30). -/
namespace Sys2Proof.Machine
open Sys2Proof

/-- A reference event has arrived: it belongs to the instants of its block, and ends lock fault 2 (R25, R30). -/
def TickSt.arrival (t : TickSt) (x : Rat) : TickSt :=
  { t with arrived := t.arrived + 1, blockSeen := t.blockSeen ++ [x], fault := if t.fault = 2 then 0 else t.fault }

/-- A reference event of the source in force that is heard waits for the evaluation, or is an outlier (R20, R21, R23). -/
theorem State.refEvent_of_heard {s : State} {src : RefSource} {inst : Int} (hon : s.tick.on = true)
    (hsrc : s.acfg 0x2000 2 = refNum src)
    (hsync : src = .sync → s.can.started = true ∧ s.can.nmt ≠ .stopped ∧ s.netHalted = false)
    (hgalt : src = .galtlink → s.tickCounts = true) :
    let x : Rat := s.refInstant src inst + s.acfg 0x2000 4
    let t := s.tick.arrival x
    s.refEvent src inst =
      if s.tick.anchored && !inWindow s.tick.anchor (lockWindow (refNum src) (interval s.active)) x then
        { s with tick := { t with outliers := satInc t.outliers } }
      else { s with tick := { t with events := t.events ++ [x] } } := by
  have hcfg : cfg s.active 0x2000 2 = refNum src := hsrc
  refine if_pos ?_
  cases src with
  | tickin => simp [hon, hcfg]
  | sync =>
    obtain ⟨hstarted, hnmt, hnet⟩ := hsync rfl
    simp [hon, hcfg, hstarted, hnmt, hnet]
  | galtlink => simp [hon, hcfg, hgalt rfl]

/-- R20–R23: the two ways of an event that is heard. -/
theorem referenceEventsEnterTheLoop : Claim.ReferenceEventsEnterTheLoop := by
  intro s src inst hcore hon hsrc hsync hgalt x inside
  have hevent := State.refEvent_of_heard (s := s.begin) (inst := inst) hon hsrc hsync hgalt
  refine ⟨fun hin => ?_, fun hanchored hout => ?_⟩
  · have hkept : (s.tick.anchored && !inside) = false := by
      obtain h | h := hin <;> simp [h]
    exact State.ends_of_run (f := (·.refEvent src inst)) hcore rfl (hevent.trans (if_neg (ne_true_of_eq_false hkept)))
  · have houtlier : (s.tick.anchored && !inside) = true := by simp [hanchored, hout]
    exact State.ends_of_run (f := (·.refEvent src inst)) hcore rfl (hevent.trans (if_pos houtlier))

/-- HOLDOVER_LIMIT in the tick that makes HOLDOVER reach 2000h.05, with no transition decided (R30). -/
theorem State.holdoverLimit_of_reached {s : State} (hon : s.tick.on = true) (hlock : s.tick.lock = .holdover)
    (hnext : s.tick.lockNext = none) (hlimit : s.acfg 0x2000 5 ≠ 0) (hreach : s.acfg 0x2000 5 ≤ s.tick.holdover + 1) :
    s.holdoverLimit = { s with tick := { s.tick with lockNext := some .adrift } } := by
  simp [State.holdoverLimit, hon, hlock, hnext, hlimit, hreach]

/-- R30: the limit of HOLDOVER. -/
theorem holdoverLimitAsksForAdrift : Claim.HoldoverLimitAsksForAdrift := by
  intro s hcore hon hlock hnext hlimit hreach
  exact State.ends_of_run hcore rfl (State.holdoverLimit_of_reached (s := s.begin) hon hlock hnext hlimit hreach)

/-- Settles O34, clause by clause. -/
theorem lockLoopInputs : Obligations.LockLoopInputs := ⟨referenceEventsEnterTheLoop, holdoverLimitAsksForAdrift⟩

end Sys2Proof.Machine
end

section
/-! PROOFS. The evaluation of the lock loop at an anchor boundary, and what a usable event leaves alone (R23–R25, R30). -/
namespace Sys2Proof.Machine
open Sys2Proof

/-- The capture window has closed: no event waits, and a block in progress spans one interval more (R23, R25). -/
def TickSt.closeWindow (t : TickSt) : TickSt :=
  { t with events := [], blockSpan := if t.blockFirst.isSome then t.blockSpan + 1 else t.blockSpan }

/-- The loop looks to the anchor boundary that follows (R21, R23). -/
def TickSt.aimNext (t : TickSt) (i : Nat) : TickSt :=
  { t with anchor := t.nextAnchor i, arrived := 0, blockSeen := if t.blockFirst.isSome then t.blockSeen else [] }

/-- The window closes with an event used, which ends a run of misses, and `more` behind it, which are outliers (R23, R30). -/
def TickSt.takeFirst (t : TickSt) (more : Nat) : TickSt :=
  { t.closeWindow with unusable := 0, outliers := satAdd t.outliers more }

/-- An anchored loop uses the first event of the window (R23). -/
def State.useFirst (s : State) (x : Rat) (more : Nat) : State :=
  ({ s with tick := s.tick.takeFirst more } : State).usable x (s.tick.anchor - x) 0

/-- LOCK_LOOP_EVALUATION without a usable event. -/
theorem State.lockEval_of_no_event {s : State} (hon : s.tick.on = true) (hsrc : s.acfg 0x2000 2 ≠ 0) (hnone : s.tick.events = []) :
    s.lockEval = { s with tick := s.tick.closeWindow.miss.aimNext (interval s.active) } := by
  have hruns : (s.tick.on && decide (cfg s.active 0x2000 2 ≠ 0)) = true := Bool.and_eq_true_iff.mpr ⟨hon, decide_eq_true hsrc⟩
  refine (if_pos hruns).trans ?_
  rw [hnone]
  rfl

/-- LOCK_LOOP_EVALUATION of an anchored loop that has seen an event. -/
theorem State.lockEval_of_event {s : State} {x : Rat} {more : List Rat} (hon : s.tick.on = true) (hsrc : s.acfg 0x2000 2 ≠ 0)
    (hsome : s.tick.events = x :: more) (hanchored : s.tick.anchored = true) :
    s.lockEval = { s.useFirst x more.length with
      tick := (s.useFirst x more.length).tick.aimNext (interval s.active) } := by
  have hruns : (s.tick.on && decide (cfg s.active 0x2000 2 ≠ 0)) = true := Bool.and_eq_true_iff.mpr ⟨hon, decide_eq_true hsrc⟩
  refine (if_pos hruns).trans ?_
  rw [hsome]
  simp only [if_pos hanchored]
  rfl

/-- Closing the window and missing leave the anchor boundary and the stretch in force alone. -/
theorem TickSt.miss_nextAnchor (t : TickSt) (i : Nat) : t.closeWindow.miss.nextAnchor i = t.nextAnchor i := rfl

/-- The third miss in a row of an anchored and locked loop, with no transition decided, asks for HOLDOVER, cause 1 (R30). -/
theorem TickSt.miss_asks_holdover {t : TickSt} (hlock : t.lock = .locked) (hanchored : t.anchored = true) (hrun : 2 ≤ t.unusable)
    (hnext : t.lockNext = none) : t.miss.lockNext = some .holdover ∧ t.miss.holdCause = 1 := by
  simp [TickSt.miss, hlock, hanchored, hrun, hnext]

/-- R23, R25, R30: an anchor boundary without a usable event. -/
theorem missingEventsAreCounted : Claim.MissingEventsAreCounted := by
  intro s hcore hon hsrc hnone
  refine State.reaches_of_run hcore rfl ?_
  rw [State.eq_of_apart (State.apart_settle _), State.lockEval_of_no_event (s := s.begin) hon hsrc hnone]
  refine ⟨rfl, rfl, TickSt.miss_nextAnchor _ _, rfl, rfl, rfl, rfl, ?_, ?_⟩
  · exact fun hlock hanchored hrun hnext => TickSt.miss_asks_holdover (t := s.tick.closeWindow) hlock hanchored hrun hnext
  · simp [State.sameConfig, State.sameLanes, State.sameResults, State.sameIo, State.sameRest, State.begin]

/-- Tick state `t` is `u` but for what a usable event sets: phase error, block, verdict, correction and the transition it
decides (R23, R25, R30). -/
def TickSt.sameButLoop (t u : TickSt) : Prop :=
  t = { u with
    phaseErr := t.phaseErr, good := t.good, measured := t.measured, fault := t.fault, lockNext := t.lockNext
    holdCause := t.holdCause, f := t.f, integ := t.integ, fLast := t.fLast, blockFirst := t.blockFirst
    blockCount := t.blockCount, blockSpan := t.blockSpan, blockSeen := t.blockSeen }

/-- Changes of the loop add up. -/
theorem TickSt.sameButLoop_trans {t u v : TickSt} (h : t.sameButLoop u) (k : u.sameButLoop v) : t.sameButLoop v := by
  unfold TickSt.sameButLoop at *
  rw [h, k]

/-- What the loop leaves alone: the events that wait, the counts at the anchor boundary, the lock state, the next anchor boundary. -/
theorem TickSt.window_of_sameButLoop {t u : TickSt} (h : t.sameButLoop u) :
    t.events = u.events ∧ t.outliers = u.outliers ∧ t.unusable = u.unusable ∧ t.missing = u.missing ∧ t.lock = u.lock ∧
      ∀ i, t.nextAnchor i = u.nextAnchor i := by
  unfold TickSt.sameButLoop at h
  rw [h]
  exact ⟨rfl, rfl, rfl, rfl, rfl, fun _ => rfl⟩

/-- The block measurement (R25). -/
theorem TickSt.blockEvent_sameButLoop (t : TickSt) (x : Rat) (back : Nat) : (t.blockEvent x back).sameButLoop t := by
  unfold TickSt.blockEvent
  split <;> rfl

/-- The judgement of a completed block (R25, R30). -/
theorem State.judgeBlock_sameButLoop (s : State) (x : Rat) : (s.judgeBlock x).tick.sameButLoop s.tick := by
  unfold State.judgeBlock
  split
  · rfl
  · dsimp only
    split <;> rfl

/-- The judgement of a block changes the tick machinery and the event log only. -/
theorem State.judgeBlock_frame (s : State) (x : Rat) :
    s.judgeBlock x = { s with tick := (s.judgeBlock x).tick, diag := (s.judgeBlock x).diag } := by
  unfold State.judgeBlock
  split
  · rfl
  · dsimp only
    split <;> rfl

/-- The correction (R23, R32). -/
theorem TickSt.steer_sameButLoop (t : TickSt) (src i : Nat) (e : Rat) : (t.steer src i e).sameButLoop t := by
  unfold TickSt.steer
  split <;> rfl

/-- The transition decided (R30). -/
theorem TickSt.afterEvent_sameButLoop (t : TickSt) : t.afterEvent.sameButLoop t := by
  unfold TickSt.afterEvent
  repeat' split
  all_goals rfl

/-- A number held within bounds lies within them. -/
theorem clampRat_mem {m : Rat} (hm : 0 ≤ m) (x : Rat) : -m ≤ clampRat m x ∧ clampRat m x ≤ m := by
  unfold clampRat
  repeat' split
  all_goals constructor <;> linarith

/-- The correction of a loop that steers stays within 1000 ppm (R23). -/
theorem TickSt.steer_f_mem {t : TickSt} (hlock : t.lock = .acquiring ∨ t.lock = .locked) (src i : Nat) (e : Rat) :
    -(1 / 1000 : Rat) ≤ (t.steer src i e).f ∧ (t.steer src i e).f ≤ 1 / 1000 := by
  have hm : mkRat 1 1000 = (1 / 1000 : Rat) := by norm_num [Rat.mkRat_eq_div]
  unfold TickSt.steer
  rw [if_pos hlock, ← hm]
  exact clampRat_mem (by rw [hm]; norm_num) _

/-- The transition decided leaves the correction alone. -/
theorem TickSt.afterEvent_f (t : TickSt) : t.afterEvent.f = t.f := by
  unfold TickSt.afterEvent
  repeat' split
  all_goals rfl

/-- What a usable event sets before it steers: phase error, count and block (R25). -/
def State.blockTaken (s : State) (x e : Rat) (back : Nat) : State :=
  ({ s with tick := { s.tick.blockEvent x back with
    phaseErr := clampInt (-0x80000000) 0x7fffffff (roundEven (e * 1000000 / 49152))
    good := if ratAbs e ≤ lockThreshold (s.acfg 0x2000 2) then s.tick.good + 1 else 0 } } : State).judgeBlock x

/-- A usable event is taken into its block, then steers, then decides a transition. -/
theorem State.usable_eq (s : State) (x e : Rat) (back : Nat) :
    s.usable x e back = { s.blockTaken x e back with
      tick := ((s.blockTaken x e back).tick.steer (s.acfg 0x2000 2) (interval s.active) e).afterEvent } := rfl

/-- The block measurement and its judgement. -/
theorem State.blockTaken_sameButLoop (s : State) (x e : Rat) (back : Nat) :
    (s.blockTaken x e back).tick.sameButLoop s.tick :=
  TickSt.sameButLoop_trans (State.judgeBlock_sameButLoop _ x)
    (TickSt.sameButLoop_trans (u := s.tick.blockEvent x back) rfl (TickSt.blockEvent_sameButLoop _ x back))

/-- A usable event changes of the tick machinery what belongs to the loop. -/
theorem State.usable_sameButLoop (s : State) (x e : Rat) (back : Nat) : (s.usable x e back).tick.sameButLoop s.tick :=
  TickSt.sameButLoop_trans (TickSt.afterEvent_sameButLoop _)
    (TickSt.sameButLoop_trans (TickSt.steer_sameButLoop _ _ _ e) (s.blockTaken_sameButLoop x e back))

/-- A usable event changes the tick machinery and the event log only. -/
theorem State.usable_frame (s : State) (x e : Rat) (back : Nat) :
    s.usable x e back = { s with tick := (s.usable x e back).tick, diag := (s.usable x e back).diag } := by
  rw [State.usable_eq]
  unfold State.blockTaken
  rw [State.judgeBlock_frame]

/-- A usable event of a loop in ACQUIRING or LOCKED leaves the correction within 1000 ppm (R23). -/
theorem State.usable_f_mem {s : State} (hlock : s.tick.lock = .acquiring ∨ s.tick.lock = .locked) (x e : Rat) (back : Nat) :
    -(1 / 1000 : Rat) ≤ (s.usable x e back).tick.f ∧ (s.usable x e back).tick.f ≤ 1 / 1000 := by
  obtain ⟨_, _, _, _, hkeeps, _⟩ := TickSt.window_of_sameButLoop (s.blockTaken_sameButLoop x e back)
  rw [State.usable_eq, TickSt.afterEvent_f]
  exact TickSt.steer_f_mem (by rwa [hkeeps]) _ _ e

/-- Using the first event of a window empties it, counts the others as outliers and ends a run of misses (R23, R25). -/
theorem State.useFirst_window (s : State) (x : Rat) (more : Nat) :
    let t := (s.useFirst x more).tick
    t.events = [] ∧ t.outliers = satAdd s.tick.outliers more ∧ t.unusable = 0 ∧ t.missing = s.tick.missing ∧
      ∀ i, t.nextAnchor i = s.tick.nextAnchor i := by
  obtain ⟨hevents, houtliers, hunusable, hmissing, _, hanchor⟩ :=
    TickSt.window_of_sameButLoop (State.usable_sameButLoop _ x (s.tick.anchor - x) 0)
  exact ⟨hevents, houtliers, hunusable, hmissing, hanchor⟩

/-- Using an event of a loop in ACQUIRING or LOCKED leaves the correction within 1000 ppm (R23). -/
theorem State.useFirst_f_mem {s : State} (hlock : s.tick.lock = .acquiring ∨ s.tick.lock = .locked) (x : Rat) (more : Nat) :
    -(1 / 1000 : Rat) ≤ (s.useFirst x more).tick.f ∧ (s.useFirst x more).tick.f ≤ 1 / 1000 :=
  State.usable_f_mem (s := { s with tick := s.tick.takeFirst more }) hlock _ _ _

/-- Using an event changes the tick machinery and the event log only. -/
theorem State.useFirst_frame (s : State) (x : Rat) (more : Nat) :
    s.useFirst x more = { s with tick := (s.useFirst x more).tick, diag := (s.useFirst x more).diag } :=
  State.usable_frame _ _ _ _

/-- R23, R24: the first event of the window steers, the others are outliers. -/
theorem usableEventSteersWithinLimits : Claim.UsableEventSteersWithinLimits := by
  intro s x more hcore hon hsrc hsome hanchored hlock
  obtain ⟨hevents, houtliers, hunusable, hmissing, hanchor⟩ := State.useFirst_window s.begin x more.length
  obtain ⟨hlow, hhigh⟩ := State.useFirst_f_mem (s := s.begin) hlock x more.length
  refine State.reaches_of_run hcore rfl ?_
  rw [State.eq_of_apart (State.apart_settle _), State.lockEval_of_event (s := s.begin) hon hsrc hsome hanchored]
  refine ⟨hevents, houtliers, hunusable, hlow, hhigh, hmissing, hanchor _, ?_⟩
  rw [State.useFirst_frame]
  simp [State.sameConfig, State.sameLanes, State.sameResults, State.begin]

/-- Settles O35, clause by clause. -/
theorem lockLoopEvaluates : Obligations.LockLoopEvaluates := ⟨missingEventsAreCounted, usableEventSteersWithinLimits⟩

end Sys2Proof.Machine
end

section
/-! PROOFS. What the tick that ends hands to the boundary, and the boundaries that open a tick (R16, R18, R19, R99, R121, R490). -/
namespace Sys2Proof.Machine
open Sys2Proof

/-- What a boundary takes from the tick that ends, besides its number and the active copy: its span, the commit machinery, the
shadow copy, and the number a GaltLink member is to adopt. -/
def State.handover (s : State) : Nat × CommitSt × Tbl Nat × Option (TickNo × BitVec 16) :=
  (s.tickSpan, s.com, s.shadow, s.galt.counterNext)

/-- Starting a conversion (R49). -/
theorem State.startConv_handover (s : State) (l n : Nat) (t : Trig) (e : Nat) : (s.startConv l n t e).handover = s.handover := by
  unfold State.startConv
  dsimp only
  split <;> rfl

/-- A free lane that starts what waits, or nothing (R48). -/
theorem State.startLane_handover (e : Nat) (s : State) (l : Nat) : (State.startLane e s l).handover = s.handover := by
  unfold State.startLane
  split
  · split
    · exact s.startConv_handover ..
    · rfl
  · rfl

/-- Every free lane at one edge. -/
theorem State.startAll_handover (s : State) (e : Nat) : (s.startAll e).handover = s.handover :=
  foldl_keeps State.handover _ (fun s l => s.startLane_handover e l) _ _

/-- The start edges before a cycle. -/
theorem State.startsBefore_handover (s : State) (c : Nat) : (s.startsBefore c).handover = s.handover :=
  foldl_keeps State.handover _ (fun s e => s.startAll_handover e) _ _

/-- Accepting a trigger (R55–R62). -/
theorem State.accept_handover (s : State) (n : Nat) (t : TickNo) : (s.accept n t).handover = s.handover := by
  unfold State.accept
  dsimp only
  repeat' split
  all_goals rfl

/-- An event of a slot (R54). -/
theorem State.slotEvent_handover (s : State) (t : TickNo) (n : Nat) : (s.slotEvent t n).handover = s.handover := by
  unfold State.slotEvent
  dsimp only
  split
  · rfl
  · split
    · exact State.accept_handover ..
    · rfl

/-- What one latch cycle takes (R53, R56). -/
theorem State.latchCycle_handover (s : State) (c : Nat) : (s.latchCycle c).handover = s.handover := by
  unfold State.latchCycle
  exact (foldl_keeps State.handover _ (fun s n => s.slotEvent_handover _ n) _ _).trans (s.startsBefore_handover c)

/-- A calibration that a resolved trigger ends (R353). -/
theorem State.calWhey_handover (s : State) : s.calWhey.handover = s.handover := by
  unfold State.calWhey
  repeat' split
  all_goals rfl

/-- What is latched up to a cycle (R53). -/
theorem State.latchTo_handover (s : State) (c : Nat) : (s.latchTo c).handover = s.handover :=
  (State.calWhey_handover _).trans (foldl_keeps State.handover _ State.latchCycle_handover _ _)

/-- A record that takes its place, or is counted. -/
theorem State.recordDue_handover (s : State) (g : Nat) (r : Rec) : (s.recordDue g r).handover = s.handover := by
  unfold State.recordDue
  dsimp only
  split
  · split <;> rfl
  · split <;> rfl

/-- The records formed in the tick that ends. -/
theorem State.flush_handover (s : State) : s.flush.handover = s.handover :=
  foldl_keeps State.handover _ (fun s (f : Formed) => s.recordDue_handover f.ring f.r) _ _

/-- A generator that runs on (R328). -/
theorem State.genAdvance_handover (s : State) (n c : Nat) : (s.genAdvance n c).handover = s.handover := by
  unfold State.genAdvance
  dsimp only
  split <;> rfl

/-- A change of a generator. -/
theorem State.updGen_handover (s : State) (g : Nat) (f : GenRt → GenRt) : (s.updGen g f).handover = s.handover := rfl

/-- A change of an output. -/
theorem State.updOutput_handover (s : State) (n : Nat) (f : OutRt → OutRt) : (s.updOutput n f).handover = s.handover := rfl

/-- An output and its generator at the end of the tick. -/
theorem State.outTickOver_handover (c : Nat) (s : State) (n : Nat) : (s.outTickOver c n).handover = s.handover := by
  refine (State.updOutput_handover _ n _).trans ((State.updGen_handover _ n _).trans ?_)
  split
  · exact s.genAdvance_handover n (c / 2)
  · rfl

/-- The end of a tick counts the verdict of the commit from the boundary; the rest of the commit machinery, the shadow copy and the
number to adopt stay. -/
theorem State.closeTick_handover (s : State) :
    s.closeTick.com = { s.com with verdictAt := s.com.verdictAt - (s.tickSpan : Int) } ∧ s.closeTick.shadow = s.shadow ∧
      s.closeTick.galt.counterNext = s.galt.counterNext := by
  have houts := foldl_keeps State.handover _ (State.outTickOver_handover s.tickSpan) [0, 1, 2, 3] s
  have hslots := foldl_keeps State.handover
    (fun acc n => acc.updSlot n (fun r => { r with totSince := r.totSince.map (· + (s.tickSpan : Int)) })) (fun _ _ => rfl)
    (totSlots s.active) ([0, 1, 2, 3].foldl (State.outTickOver s.tickSpan) s)
  have hall := hslots.trans houts
  simp only [State.handover, Prod.mk.injEq] at hall
  obtain ⟨_, hcom, hshadow, hnext⟩ := hall
  exact ⟨congrArg (fun c : CommitSt => { c with verdictAt := c.verdictAt - (s.tickSpan : Int) }) hcom, hshadow, hnext⟩

/-- The tick has ended: what it latched is taken, its event records are stored, instants count from the boundary (R16, R53). -/
def State.ended (s : State) : State := (s.latchTo (s.tickCycles - 1)).flush.closeTick

/-- What a tick that has ended hands over. -/
theorem State.ended_handover (s : State) :
    s.ended.com = { s.com with verdictAt := s.com.verdictAt - (s.tickSpan : Int) } ∧ s.ended.shadow = s.shadow ∧
      s.ended.galt.counterNext = s.galt.counterNext := by
  have hstored := ((s.latchTo (s.tickCycles - 1)).flush_handover).trans (s.latchTo_handover _)
  simp only [State.handover, Prod.mk.injEq] at hstored
  obtain ⟨hspan, hcom, hshadow, hnext⟩ := hstored
  obtain ⟨hcom', hshadow', hnext'⟩ := (s.latchTo (s.tickCycles - 1)).flush.closeTick_handover
  rw [hspan, hcom] at hcom'
  exact ⟨hcom', hshadow'.trans hshadow, hnext'.trans hnext⟩

/-- A tick that has ended has its number and its configuration still. -/
theorem State.ended_keeps (s : State) : s.ended.active = s.active ∧ s.ended.tick.counter = s.tick.counter := by
  simp [State.ended]

/-- The tick machinery opens tick `num` in its prologue, whatever transition, activation or resumption the boundary brings. -/
theorem TickSt.step_opens (t : TickSt) (num : TickNo × BitVec 16) (old new : Tbl Nat) (act resume : Bool) :
    (t.step num old new act resume).counter = num.1 ∧ (t.step num old new act resume).on = true ∧
      (t.step num old new act resume).part = .prologue := by
  unfold TickSt.step
  dsimp only
  split <;> split <;> simp

/-- The boundary opens the tick of its number. -/
theorem State.openTick_opens (s : State) (new : Tbl Nat) (act resume : Bool) :
    (s.openTick new act resume).tick.counter = s.openNumber.1 ∧ (s.openTick new act resume).tick.on = true ∧
      (s.openTick new act resume).tick.part = .prologue := by
  obtain ⟨hcounter, hon, hpart⟩ := s.tick.step_opens s.openNumber s.active new act resume
  simp [State.openTick, hcounter, hon, hpart]

/-- The number that follows, where no other is to be adopted (R19). -/
theorem State.openNumber_of_none {s : State} (h : s.galt.counterNext = none) : s.openNumber.1 = s.tick.counter + 1 := by
  simp [State.openNumber, h]

/-- An activation makes the new copy the active one. -/
theorem State.activate_active (s : State) (new : Tbl Nat) : (s.activate new).active = new := by
  simp only [State.activate, State.galtRole_keeps]
  split <;>
    simp only [State.canBoot_keeps, State.oneShotActivation_keeps, State.ioActivation_keeps, foldl_keeps_active,
      State.ringActivation_keeps, State.quadOff_keeps, State.updSlot_keeps, State.overlapActivation_keeps, implies_true]

/-- What ends a boundary leaves the number and the part of its tick alone, whatever coefficient it brings. -/
theorem State.boundaryTail_tick (s : State) (coef : Option (Nat × Bool × Nat)) :
    (s.boundaryTail coef).tick.counter = s.tick.counter ∧ (s.boundaryTail coef).tick.on = s.tick.on ∧
      (s.boundaryTail coef).tick.part = s.tick.part := by
  unfold State.boundaryTail
  cases coef <;> simp

/-- Without a coefficient it leaves the active copy alone. -/
theorem State.boundaryTail_active (s : State) : (s.boundaryTail none).active = s.active := by
  unfold State.boundaryTail
  simp

/-- The copy that is active from the boundary on which the tick has ended (R99). -/
def State.nextActive (s : State) : Tbl Nat := if s.activationDue then s.com.frozen.getD s.shadow else s.active

/-- The tick is open, and what precedes the deliveries of its boundary is done. -/
def State.opened (s : State) (resume : Bool) : State :=
  (s.openTick s.nextActive s.activationDue resume).clearStops.powerBoundary.beforeDeliveries

/-- What arrives with the boundary has been delivered, under the outgoing copy (R50, R99). -/
def State.delivered (s : State) (resume : Bool) : State := (s.opened resume).takeDeliveries

/-- The copy of a commit that is due has become the active one (R99). -/
def State.activated (s : State) (resume : Bool) : State :=
  if s.activationDue then (s.delivered resume).activate s.nextActive else s.delivered resume

/-- Lanes that run again are connected. -/
def State.connected (s : State) (resume : Bool) : State :=
  if !s.lanesRun && (s.activated resume).lanesRun then (s.activated resume).connectAll else s.activated resume

/-- Lanes that have delivered and whose slot still has a running trigger (R50). -/
def State.servedLanes (s : State) (resume : Bool) : List Nat :=
  [0, 1, 2, 3].filter fun l =>
    (s.opened resume).serves s.active l && (s.activated resume).slotRuns (dedSlot s.active l)

/-- A boundary ends the tick, opens the next one, and does the work of its prologue (R16). -/
theorem State.boundary_eq (s : State) (resume : Bool) : s.boundary resume =
    ((((s.ended.connected resume).boundaryMarkers s.ended.tick s.ended.counterStep).prologue s.ended.active
      (s.ended.servedLanes resume) (if s.ended.activationDue then some (changes s.ended.active s.ended.nextActive) else none)
      ).boundaryTail s.cal.coef).ringEvents s := by
  unfold State.boundary
  rfl

/-- Number and part of the tick in which the boundary delivers. -/
theorem State.delivered_opens (s : State) (resume : Bool) :
    (s.delivered resume).tick.counter = s.openNumber.1 ∧ (s.delivered resume).tick.on = true ∧
      (s.delivered resume).tick.part = .prologue := by
  simpa [State.delivered, State.opened] using s.openTick_opens s.nextActive s.activationDue resume

/-- The deliveries find the outgoing copy (R99). -/
theorem State.delivered_active (s : State) (resume : Bool) : (s.delivered resume).active = s.active := by
  simp [State.delivered, State.opened]

/-- An activation keeps number and part of the tick opened. -/
theorem State.activated_opens (s : State) (resume : Bool) :
    (s.activated resume).tick.counter = s.openNumber.1 ∧ (s.activated resume).tick.on = true ∧
      (s.activated resume).tick.part = .prologue := by
  unfold State.activated
  split <;> simpa using s.delivered_opens resume

/-- The active copy once the boundary has activated what is due (R99). -/
theorem State.activated_active (s : State) (resume : Bool) : (s.activated resume).active = s.nextActive := by
  unfold State.activated
  split
  · exact State.activate_active _ _
  next h => simp [State.delivered_active, State.nextActive, h]

/-- Connecting lanes keeps number, part and configuration. -/
theorem State.connected_keeps (s : State) (resume : Bool) :
    (s.connected resume).active = (s.activated resume).active ∧
      (s.connected resume).tick.counter = (s.activated resume).tick.counter ∧
      (s.connected resume).tick.on = (s.activated resume).tick.on ∧
      (s.connected resume).tick.part = (s.activated resume).tick.part := by
  unfold State.connected
  split <;> simp

/-- A boundary opens the tick of its number in its prologue (R16). -/
theorem State.boundary_opens (s : State) (resume : Bool) :
    (s.boundary resume).tick.counter = s.ended.openNumber.1 ∧ (s.boundary resume).tick.on = true ∧
      (s.boundary resume).tick.part = .prologue := by
  rw [State.boundary_eq]
  simpa [State.boundaryTail_tick, State.connected_keeps] using s.ended.activated_opens resume

/-- A boundary without a calibration coefficient leaves active what it has activated. -/
theorem State.boundary_active {s : State} (hcoef : s.cal.coef = none) (resume : Bool) :
    (s.boundary resume).active = s.ended.nextActive := by
  rw [State.boundary_eq, hcoef]
  simp [State.boundaryTail_active, State.connected_keeps, State.activated_active]

/-- The copy that is active next, in terms of the tick that ends: a commit PASSED whose verdict lies 10 µs before the boundary
activates (R99). -/
theorem State.ended_nextActive (s : State) : s.ended.nextActive =
    if s.com.result = 2 ∧ (s.com.verdictAt - (s.tickSpan : Int)) * 1000 ≤ -491520 then s.com.frozen.getD s.shadow else s.active := by
  obtain ⟨hcom, hshadow, _⟩ := s.ended_handover
  obtain ⟨hactive, _⟩ := s.ended_keeps
  simp [State.nextActive, State.activationDue, hcom, hshadow, hactive]

/-- Settles O10: the tick that ends hands its commit over, and the stages of the boundary keep what the first of them has opened. -/
theorem tickBoundaryOpensNextTick : Obligations.TickBoundaryOpensNextTick := by
  intro s hcore hdue hnext hcoef
  obtain ⟨_, _, hkept⟩ := s.begin.ended_handover
  obtain ⟨_, hcounted⟩ := s.begin.ended_keeps
  obtain ⟨hcounter, hon, hpart⟩ := s.begin.boundary_opens (!s.begin.tick.on)
  have hactive := State.boundary_active (s := s.begin) hcoef (!s.begin.tick.on)
  rw [State.openNumber_of_none (hkept.trans hnext), hcounted] at hcounter
  rw [State.ended_nextActive] at hactive
  refine State.reaches_of_run hcore rfl ?_
  have hboundary : s.begin.tickBoundary = s.begin.boundary (!s.begin.tick.on) := if_pos hdue
  rw [hboundary]
  simp only [State.settle_keeps]
  exact ⟨hcounter, hon, hpart, hactive⟩

/-- Tick 0 opens in its prologue on the checked values, or on the Defaults where these failed the check (R18, R121). -/
theorem State.firstTick_opens (s : State) :
    s.firstTick.boot = .running ∧ s.firstTick.tick.on = true ∧ s.firstTick.tick.counter = 0 ∧ s.firstTick.tick.part = .prologue ∧
      s.firstTick.active = if s.com.startOk then s.com.startCfg else [] := by
  simp [State.firstTick]

/-- The boundary that opens tick 0 keeps what `firstTick` has set. -/
theorem State.tickZero_keeps_firstTick {s : State} (hboot : s.boot = .checked) (hpll : s.clk.pll = 2) (hclk : s.clockFault = false) :
    s.tickZero.boot = s.closeTick.firstTick.boot ∧ s.tickZero.active = s.closeTick.firstTick.active ∧
      s.tickZero.tick.on = s.closeTick.firstTick.tick.on ∧ s.tickZero.tick.counter = s.closeTick.firstTick.tick.counter ∧
      s.tickZero.tick.part = s.closeTick.firstTick.tick.part := by
  have hopens : (decide (s.boot = .checked) && decide (s.clk.pll = 2) && !s.clockFault) = true := by simp [hboot, hpll, hclk]
  unfold State.tickZero
  rw [if_pos hopens]
  dsimp only
  split <;> simp [State.boundaryTail_tick, State.boundaryTail_active]

/-- Settles O9: the tick machinery opens tick 0 on the checked values, and the rest of the boundary keeps both. -/
theorem tickZeroOpens : Obligations.TickZeroOpens := by
  intro s hcore hboot hpll hclk
  obtain ⟨hcom, _, _⟩ := s.begin.closeTick_handover
  obtain ⟨hrun, hactive, hon, hcounter, hpart⟩ := State.tickZero_keeps_firstTick (s := s.begin) hboot hpll hclk
  obtain ⟨hrun', hon', hcounter', hpart', hactive'⟩ := s.begin.closeTick.firstTick_opens
  rw [hcom] at hactive'
  refine State.reaches_of_run hcore rfl ?_
  simp only [State.settle_keeps]
  exact ⟨hrun.trans hrun', hon.trans hon', hcounter.trans hcounter', hpart.trans hpart', hactive.trans hactive'⟩

end Sys2Proof.Machine
end

section
/-! PROOFS. What a write to one slot or lane leaves of the others. -/
namespace Sys2Proof.Machine
open Sys2Proof

/-- A write to one slot leaves every other. -/
theorem State.slot_setSlot_other (s : State) {n m : Nat} (h : m ≠ n) (r : SlotRt) : (s.setSlot n r).slot m = s.slot m :=
  tget_tput_other _ _ _ _ _ h

/-- What a write to a slot keeps of that slot, it keeps of every slot. -/
theorem State.slot_setSlot_keeps {β : Type} (g : SlotRt → β) (s : State) {n : Nat} {r : SlotRt} (h : g r = g (s.slot n))
    (m : Nat) : g ((s.setSlot n r).slot m) = g (s.slot m) := by
  by_cases hm : m = n
  · subst hm
    rw [State.slot_setSlot, h]
  · rw [s.slot_setSlot_other hm]

end Sys2Proof.Machine
end

section
/-! PROOFS. Triggers: acceptance on a full queue, the latch of an edge, and what time takes (R53–R62). -/
namespace Sys2Proof.Machine
open Sys2Proof

/-- A trigger that nothing resolves at its latch, on a QUEUE slot that serves one trigger and keeps another, is BUSY (R61). -/
theorem State.accept_of_full_queue {s : State} {n : Nat} {t : TickNo} {a b : Trig} (hstop : s.stopped = false)
    (habsent : (s.slot n).absent = false) (hlane : s.laneLost n t = false) (hqueue : slotCfg s.active n 13 = 0)
    (hrun : (s.slot n).run = some a) (hpend : (s.slot n).pend = some b) :
    s.accept n t = ({ s with ledger := { s.ledger with accepted := s.ledger.accepted + 1 } } : State).resolve n .busy t 1 := by
  simp [State.accept, hstop, habsent, hlane, hrun, hqueue, hpend]

/-- Settles O27: of the outcomes of a latch only the collision with the pending trigger is left. -/
theorem fullQueueIsBusy : Obligations.FullQueueIsBusy := by
  intro s n t a b hstop habsent hlane hqueue hrun hpend
  exact State.accept_of_full_queue hstop habsent hlane hqueue hrun hpend

/-- What triggers leave alone besides the frame of `sameButTriggers`: the tick machinery and the sources. -/
def State.besideSlots (s : State) : TickSt × Tbl SourceRt := (s.tick, s.sources)

/-- Accepting a trigger starts nothing (R55). -/
theorem State.accept_besideSlots (s : State) (n : Nat) (t : TickNo) : (s.accept n t).besideSlots = s.besideSlots := by
  unfold State.accept
  dsimp only
  repeat' split
  all_goals rfl

/-- Accepting a trigger counts it in the ledger, whatever becomes of it (R55, R264). -/
theorem State.accept_accepted (s : State) (n : Nat) (t : TickNo) :
    (s.accept n t).ledger.accepted = s.ledger.accepted + 1 := by
  unfold State.accept
  dsimp only
  repeat' split
  all_goals rfl

/-- Accepting a trigger changes at most what its slot runs and keeps waiting (R55, R58). -/
theorem State.accept_slots (s : State) (n : Nat) (t : TickNo) : (s.accept n t).slots = s.slots ∨
    ∃ run pend, (s.accept n t).slots = (s.setSlot n { s.slot n with run := run, pend := pend }).slots := by
  unfold State.accept
  dsimp only
  repeat' split
  case isTrue => exact .inl rfl
  case isFalse.isTrue => exact .inl rfl
  case isFalse.isFalse.isTrue => exact .inl rfl
  case h_1 => exact .inr ⟨_, _, rfl⟩
  case h_1.isTrue => exact .inr ⟨_, _, rfl⟩
  case h_1.isFalse => exact .inl rfl
  case h_2 => exact .inr ⟨some ⟨t⟩, (s.slot n).pend, rfl⟩
  case h_3 => exact .inl rfl

/-- Accepting a trigger is no event of its own. -/
theorem State.accept_events (s : State) (n : Nat) (t : TickNo) (m : Nat) :
    ((s.accept n t).slot m).events = (s.slot m).events := by
  unfold State.slot
  obtain h | ⟨run, pend, h⟩ := s.accept_slots n t
  · rw [h]
  · rw [h]
    exact s.slot_setSlot_keeps SlotRt.events (n := n) (r := { s.slot n with run := run, pend := pend }) rfl m

/-- In a drain an event does nothing (R496; DESIGN CHOICE, log entry 69). -/
theorem State.slotEvent_of_noTrig {s : State} (h : s.pow.noTrig = true) (t : TickNo) (n : Nat) : s.slotEvent t n = s := if_pos h

/-- Outside a drain an event of a slot is counted, and every k-th is a trigger (R54). -/
theorem State.slotEvent_of_trig {s : State} (h : s.pow.noTrig = false) (t : TickNo) (n : Nat) :
    s.slotEvent t n =
      let s1 := s.setSlot n { s.slot n with events := (s.slot n).events + 1 }
      if (s.slot n).events % slotCfg s.active n 12 = 0 then s1.accept n t else s1 := by
  unfold State.slotEvent
  rw [h]
  rfl

/-- An event starts nothing. -/
theorem State.slotEvent_besideSlots (s : State) (t : TickNo) (n : Nat) : (s.slotEvent t n).besideSlots = s.besideSlots := by
  unfold State.slotEvent
  dsimp only
  split
  · rfl
  · split
    · exact State.accept_besideSlots ..
    · rfl

/-- An event counts for its own slot alone (R54). -/
theorem State.slotEvent_events {s : State} (h : s.pow.noTrig = false) (t : TickNo) (n m : Nat) :
    ((s.slotEvent t n).slot m).events = (s.slot m).events + [n].count m := by
  have hcounted : ((s.setSlot n { s.slot n with events := (s.slot n).events + 1 }).slot m).events =
      (s.slot m).events + [n].count m := by
    by_cases hm : m = n
    · subst hm
      simp
    · rw [s.slot_setSlot_other hm, List.count_singleton, if_neg (by simpa using Ne.symm hm), Nat.add_zero]
  rw [State.slotEvent_of_trig h]
  dsimp only
  split
  · exact (State.accept_events _ n t m).trans hcounted
  · exact hcounted

/-- An event is a trigger where the count of its slot has come round (R54). -/
theorem State.slotEvent_accepted {s : State} (h : s.pow.noTrig = false) (t : TickNo) (n : Nat) :
    (s.slotEvent t n).ledger.accepted =
      s.ledger.accepted + if (s.slot n).events % slotCfg s.active n 12 = 0 then 1 else 0 := by
  rw [State.slotEvent_of_trig h]
  dsimp only
  split
  · exact State.accept_accepted ..
  · rfl

/-- In a drain the events of any number of slots do nothing. -/
theorem State.slotEvents_of_noTrig {s : State} (h : s.pow.noTrig = true) (t : TickNo) (l : List Nat) :
    l.foldl (State.slotEvent · t) s = s := by
  induction l with
  | nil => rfl
  | cons n l ih => rwa [List.foldl_cons, State.slotEvent_of_noTrig h]

/-- Outside a drain a slot counts one event each time it is listed (R54, R56). -/
theorem State.slotEvents_events {s : State} (h : s.pow.noTrig = false) (t : TickNo) (l : List Nat) (m : Nat) :
    ((l.foldl (State.slotEvent · t) s).slot m).events = (s.slot m).events + l.count m := by
  induction l generalizing s with
  | nil => rfl
  | cons n l ih =>
    have hpow : (s.slotEvent t n).pow = s.pow := congrArg (·.pow) (s.slotEvent_sameButTriggers t n : _ = _)
    rw [List.foldl_cons, ih (by rwa [hpow]), State.slotEvent_events h, ← List.singleton_append (l := l), List.count_append]
    omega

/-- Where no start edge lies before a cycle, nothing starts before it. -/
theorem State.startsBefore_of_none {s : State} {c : Nat} (h : s.tick.starts.filter (fun e => decide (8 * e < c)) = []) :
    s.startsBefore c = s := by
  have hall : s.tick.starts.filter (fun e => decide (c ≤ 8 * e)) = s.tick.starts := by
    rw [List.filter_eq_self]
    intro e he
    have := List.filter_eq_nil_iff.mp h e he
    simpa using this
  unfold State.startsBefore
  rw [h, hall]
  rfl

/-- Starting a conversion leaves the tick machinery alone (R49). -/
theorem State.startConv_tick (s : State) (l n : Nat) (t : Trig) (e : Nat) : (s.startConv l n t e).tick = s.tick := by
  unfold State.startConv
  dsimp only
  split <;> rfl

/-- A free lane that starts what waits, or nothing (R48). -/
theorem State.startLane_tick (e : Nat) (s : State) (l : Nat) : (State.startLane e s l).tick = s.tick := by
  unfold State.startLane
  split
  · split
    · exact s.startConv_tick ..
    · rfl
  · rfl

/-- Every free lane at one edge. -/
theorem State.startAll_tick (s : State) (e : Nat) : (s.startAll e).tick = s.tick :=
  foldl_keeps State.tick _ (fun s l => s.startLane_tick e l) _ _

/-- Of the tick machinery, the start edges reached are the only thing that reaching them takes. -/
theorem State.startsBefore_tick (s : State) (c : Nat) :
    (s.startsBefore c).tick = { s.tick with starts := s.tick.starts.filter (fun e => decide (c ≤ 8 * e)) } :=
  foldl_keeps State.tick _ State.startAll_tick _ _

/-- A calibration that a resolved trigger ends (R353). -/
theorem State.calWhey_tick (s : State) : s.calWhey.tick = s.tick := by
  unfold State.calWhey
  repeat' split
  all_goals rfl

/-- A latch cycle takes what is latched at it and no other event, and names no later instant (R53, R56). -/
theorem State.latchCycle_tick (s : State) (c : Nat) :
    (s.latchCycle c).tick.latches = s.tick.latches.filter (fun k => decide (k.1 ≠ c)) ∧ (s.latchCycle c).tick.cyc = s.tick.cyc := by
  have hstarts := s.startsBefore_tick c
  have hevents := fun (l : List Nat) (t : TickNo) (u : State) =>
    congrArg Prod.fst (foldl_keeps State.besideSlots (State.slotEvent · t) (fun s n => s.slotEvent_besideSlots t n) l u)
  simp only [State.besideSlots] at hevents
  unfold State.latchCycle
  simp only [hevents, hstarts, and_self]

/-- A walk over latch cycles takes what is latched at one of them (R53). -/
theorem State.latchCycles_tick (l : List Nat) (s : State) :
    (l.foldl State.latchCycle s).tick.latches = s.tick.latches.filter (fun k => decide (k.1 ∉ l)) ∧
      (l.foldl State.latchCycle s).tick.cyc = s.tick.cyc := by
  induction l generalizing s with
  | nil => simp
  | cons c l ih =>
    obtain ⟨hlatches, hcyc⟩ := s.latchCycle_tick c
    obtain ⟨hrest, hcycs⟩ := ih (s.latchCycle c)
    refine ⟨?_, hcycs.trans hcyc⟩
    rw [List.foldl_cons, hrest, hlatches, List.filter_filter]
    exact List.filter_congr fun k _ => by simp [Bool.and_comm]

/-- What is latched up to a cycle and before the end of a running tick waits no more; the rest does (R53, R54, R115). -/
theorem State.latchTo_tick (s : State) (c : Nat) :
    (s.latchTo c).tick.latches =
        s.tick.latches.filter (fun k => decide (c < k.1) || (s.tick.on && decide (s.tickCycles ≤ k.1))) ∧
      (s.latchTo c).tick.cyc = s.tick.cyc := by
  obtain ⟨hlatches, hcyc⟩ := State.latchCycles_tick (((s.tick.latches.map (·.1)).filter
    (fun k => decide (k ≤ c) && (!s.tick.on || decide (k < s.tickCycles)))).eraseDups) s
  unfold State.latchTo
  rw [State.calWhey_tick]
  refine ⟨hlatches.trans (List.filter_congr fun k hk => ?_), hcyc⟩
  have hmem : k.1 ∈ s.tick.latches.map (·.1) := List.mem_map_of_mem hk
  simp [hmem, -List.mem_map, ← decide_not]

/-- What triggers leave alone: configuration, pins and outputs, records formed and stored (R49, R53–R62). -/
theorem State.frame_of_sameButTriggers {s u : State} (h : s.sameButTriggers u) :
    s.sameConfig u ∧ s.sameIo u ∧ s.formed = u.formed ∧ s.rings = u.rings := by
  unfold State.sameButTriggers at h
  rw [h]
  simp [State.sameConfig, State.sameIo]

/-- R53: the edge, its own instant and its latch. -/
theorem edgesGoToTheirLatch : Claim.EdgesGoToTheirLatch := by
  intro s rising cyc hcore
  refine ⟨fun hon => ?_, fun hoff => ?_⟩
  · exact State.ends_of_run (f := (·.trigEdge rising cyc)) hcore rfl (if_pos hon)
  · exact State.ends_of_run (f := (·.trigEdge rising cyc)) hcore rfl (if_neg (by simp [State.begin, hoff]))

/-- The state in which the slots judge what is latched at a cycle: it waits no more. -/
def State.untilLatch (s : State) (c : Nat) : State :=
  { s with tick := { s.tick with latches := s.tick.latches.filter (fun k => decide (k.1 ≠ c)) } }

/-- The source codes latched at a cycle. -/
def State.latchedCodes (s : State) (c : Nat) : List Nat := (s.tick.latches.filter (fun k => decide (k.1 = c))).map (·.2)

/-- The slots have judged what is latched at a cycle (R54–R56). -/
def State.latched (s : State) (c : Nat) : State :=
  (slotsWith s.active (s.latchedCodes c)).foldl (State.slotEvent · (s.tickOf c)) (s.untilLatch c)

/-- Where no start precedes it, a latch cycle is the events of its slots, and a start edge is noted (R49, R56). -/
theorem State.latchCycle_of_no_start {s : State} {c : Nat} (h : s.tick.starts.filter (fun e => decide (8 * e < c)) = []) :
    s.latchCycle c = { s.latched c with tick := { (s.latched c).tick with
      starts := if (s.latched c).tick.starts.contains (edgeAt c) then (s.latched c).tick.starts
        else (s.latched c).tick.starts ++ [edgeAt c] } } := by
  unfold State.latchCycle
  rw [State.startsBefore_of_none h]
  rfl

/-- R54–R56, R115: one event a slot, of which every k-th is a trigger. -/
theorem latchedEventsAreTakenOnce : Claim.LatchedEventsAreTakenOnce := by
  intro s c hstart
  obtain ⟨hconfig, hio, hformed, hrings⟩ := State.frame_of_sameButTriggers (s.latchCycle_sameButTriggers c)
  refine ⟨fun n => ?_, fun hdrain => ?_, fun n htrig hone => ?_, (s.latchCycle_tick c).1, hconfig, hio, hformed, hrings, ?_⟩
  all_goals rw [State.latchCycle_of_no_start hstart]
  · show ((s.latched c).slot n).events = _
    cases htrig : s.pow.noTrig
    · exact State.slotEvents_events (s := s.untilLatch c) htrig _ _ n
    · rw [State.latched, State.slotEvents_of_noTrig (s := s.untilLatch c) htrig]
      rfl
  · rw [State.latched, State.slotEvents_of_noTrig (s := s.untilLatch c) hdrain]
    exact ⟨rfl, rfl⟩
  · have hslots : slotsWith s.active (s.latchedCodes c) = [n] := hone
    rw [State.latched, hslots]
    exact State.slotEvent_accepted (s := s.untilLatch c) htrig _ n
  · have hbeside := foldl_keeps State.besideSlots (State.slotEvent · (s.tickOf c)) (fun s n => s.slotEvent_besideSlots _ n)
      (slotsWith s.active (s.latchedCodes c)) (s.untilLatch c)
    exact congrArg Prod.snd hbeside

/-- R53–R62: what time takes. -/
theorem timeTakesWhatIsLatched : Claim.TimeTakesWhatIsLatched := by
  intro s c
  obtain ⟨hlatches, hcyc⟩ := s.latchTo_tick c
  have htick := (s.latchTo c).startsBefore_tick (c + 1)
  refine ⟨s.at_sameButTriggers c, ?_, ?_⟩
  · show max ((s.latchTo c).startsBefore (c + 1)).tick.cyc c = _
    rw [htick, ← hcyc]
  · show ((s.latchTo c).startsBefore (c + 1)).tick.latches = _
    rw [htick, ← hlatches]

/-- Settles O28, clause by clause. -/
theorem trigEdgeIsAnEvent : Obligations.TrigEdgeIsAnEvent :=
  ⟨edgesGoToTheirLatch, latchedEventsAreTakenOnce, timeTakesWhatIsLatched⟩

end Sys2Proof.Machine
end

section
/-! PROOFS. What an accepted write leaves of the CAN port: the RPDO frames that wait for a SYNC (R402, R433). -/
namespace Sys2Proof.Machine
open Sys2Proof

/-- The journal goes on. -/
@[simp] theorem State.jnMove_can (s : State) : s.jnMove.can = s.can := by
  unfold State.jnMove
  split <;> rfl

/-- A device-state record is due. -/
@[simp] theorem State.devRecord_can (s : State) (f : FieldLock) (n : Nat) (own : Bool) : (s.devRecord f n own).can = s.can :=
  State.jnMove_can _

/-- The field lock changes its state. -/
@[simp] theorem State.lockChange_can (s : State) (f : FieldLock) (n u : Nat) : (s.lockChange f n u).can = s.can :=
  State.devRecord_can ..

/-- An unlock attempt is recorded. -/
@[simp] theorem State.attempt_can (s : State) (r : Bool) (v : BitVec 128) : (s.attempt r v).can = s.can :=
  State.devRecord_can ..

/-- A completed access times an unlock anew. -/
@[simp] theorem State.lockServed_can (s : State) (p : Port) : (s.lockServed p).can = s.can := by
  unfold State.lockServed
  split <;> rfl

/-- A relayed access is noted. -/
@[simp] theorem State.noteRelay_can (s : State) (v : Via) (b : Bool) : (s.noteRelay v b).can = s.can := by
  unfold State.noteRelay
  split <;> rfl

/-- An access completes. -/
@[simp] theorem State.complete_can (s : State) (v : Via) : (s.complete v).can = s.can :=
  (State.lockServed_can _ _).trans (State.noteRelay_can _ _ _)

/-- An access is refused. -/
@[simp] theorem State.refuse_can (s : State) (v : Via) (idx sub code : Nat) (abort : Bool) :
    (s.refuse v idx sub code abort).can = s.can := by
  unfold State.refuse
  dsimp only
  split <;> exact State.noteRelay_can ..

/-- A GaltLink frame goes out, or does not. -/
@[simp] theorem State.galtSend_can (s : State) (t d : Nat) (p : List Byte) : (s.galtSend t d p).can = s.can := by
  unfold State.galtSend
  split <;> rfl

/-- An origin is told its credits. -/
@[simp] theorem State.sendCredit_can (s : State) (o : OriginRt) : (s.sendCredit o).can = s.can := by
  unfold State.sendCredit
  split
  · exact State.galtSend_can ..
  · rfl

/-- Places returned to a ring. -/
@[simp] theorem State.returnCredits_can (s : State) (r n : Nat) : (s.returnCredits r n).can = s.can :=
  foldl_keeps State.can _ State.sendCredit_can _ _

/-- A lane fault is to be cleared. -/
@[simp] theorem State.faultClear_can (s : State) (p : Nat) : (s.faultClear p).can = s.can := by
  unfold State.faultClear
  split <;> rfl

/-- A commit is requested. -/
@[simp] theorem State.commitRequest_can (s : State) (v : Nat) (p : Port) : (s.commitRequest v p).can = s.can := by
  unfold State.commitRequest
  dsimp only
  split <;> rfl

/-- A monitor fault is to be cleared. -/
@[simp] theorem State.monClear_can (s : State) (m : Nat) : (s.monClear m).can = s.can := by
  unfold State.monClear
  split <;> rfl

/-- An output fault is to be cleared. -/
@[simp] theorem State.outClear_can (s : State) (n cyc : Nat) : (s.outClear n cyc).can = s.can := by
  unfold State.outClear
  split <;> rfl

/-- A generator's reset is armed or disarmed. -/
@[simp] theorem State.genArmWrite_can (s : State) (g v : Nat) : (s.genArmWrite g v).can = s.can := by
  unfold State.genArmWrite
  split <;> rfl

/-- A generator's frequency or amplitude is written. -/
@[simp] theorem State.genWrite_can (s : State) (g sub v cyc : Nat) : (s.genWrite g sub v cyc).can = s.can := by
  unfold State.genWrite
  repeat' split
  all_goals rfl

/-- A calibration starts, or ends at once. -/
@[simp] theorem State.calStart_can (s : State) (k : CalKind) : (s.calStart k).can = s.can := by
  unfold State.calStart
  dsimp only
  repeat' split
  all_goals rfl

/-- A calibration is requested. -/
@[simp] theorem State.calRequest_can (s : State) (v : Nat) : (s.calRequest v).can = s.can := by
  unfold State.calRequest
  dsimp only
  split
  case h_4 => rfl
  all_goals exact State.calStart_can ..

/-- No live entry from 2600h concerns the CAN port. -/
@[simp] theorem State.liveHigh_can (s : State) (v : Via) (idx sub x : Nat) : (s.liveHigh v idx sub x).can = s.can := by
  simp only [State.liveHigh, apply_ite State.can, State.setLive, State.dacsMoved, State.updMonitor, State.monPendClear,
    State.capRearm, State.writeCode, State.updOutput, State.sealDevice, State.relockDevice, State.spendChallenge,
    State.stopClear, State.shutdownClear, State.powerRequest, State.monClear_can, State.outClear_can, State.genArmWrite_can,
    State.genWrite_can, State.calRequest_can, State.lockChange_can, State.attempt_can, ite_self]

/-- Of the live entries below, 1003h clears the list of EMCYs; none drops an RPDO frame. -/
theorem State.liveLow_held (s : State) (v : Via) (idx sub x : Nat) : (s.liveLow v idx sub x).can.held = s.can.held := by
  simp only [State.liveLow, apply_ite State.can, apply_ite CanSt.held, State.enqueue, State.commitRequest_can,
    State.faultClear_can, State.totClear, State.swapRequest, State.returnCredits_can, State.setLive, ite_self]

/-- No write drops an RPDO frame that waits for a SYNC. -/
theorem State.writeEffect_held (s : State) (v : Via) (idx sub : Nat) (e : Entry) (x : Nat) :
    (s.writeEffect v idx sub e x).can.held = s.can.held := by
  unfold State.writeEffect
  split
  · rfl
  · split
    · exact State.liveLow_held ..
    · exact congrArg CanSt.held (State.liveHigh_can ..)

/-- A CAN frame goes out, or does not. -/
theorem State.sendCan_held (s : State) (cob : Nat) (data : List Byte) : (s.sendCan cob data).can.held = s.can.held := by
  unfold State.sendCan
  split <;> rfl

/-- An EMCY goes out, or does not. -/
theorem State.emcy_held (s : State) (code detail : Nat) : (s.emcy code detail).can.held = s.can.held := by
  unfold State.emcy
  split
  · exact State.sendCan_held ..
  · rfl

/-- The end of a command. -/
theorem State.settle_held (s : State) : s.settle.can.held = s.can.held := by
  unfold State.settle
  dsimp only
  split
  · exact State.emcy_held ..
  · rfl

/-- The entries of an RPDO are written. -/
theorem State.writeParts_held (s : State) (v : Via) (parts : List (Nat × Nat × List Byte)) :
    (s.writeParts v parts).can.held = s.can.held :=
  foldl_keeps (fun s => s.can.held) _ (fun s p => by
    split
    · exact State.writeEffect_held ..
    · rfl) _ _

/-- Writing an RPDO leaves the others waiting (R433). -/
theorem State.rpdoWrite_held (s : State) (k : Nat) (data : List Byte) (cyc : Nat) :
    (s.rpdoWrite k data cyc).can.held = s.can.held := by
  unfold State.rpdoWrite
  dsimp only
  split
  · exact State.emcy_held ..
  · split
    · rw [State.refuse_can]
    · rw [State.complete_can]
      exact State.writeParts_held ..

end Sys2Proof.Machine
end

section
/-! PROOFS. SYNC frames and received PDOs (R57, R402, R432, R433). -/
namespace Sys2Proof.Machine
open Sys2Proof

/-- The frames held for a SYNC wait no more once they are written (R433). -/
theorem State.writeHeld_held (s : State) (cyc : Nat) : (s.writeHeld cyc).can.held = [] :=
  foldl_keeps (fun s => s.can.held) _ (fun s e => by
    split
    · exact State.rpdoWrite_held ..
    · rfl) _ _

/-- Time changes neither the SYNCs counted for the next prologue nor the CAN port. -/
theorem State.at_syncs_can (s : State) (cyc : Nat) : (s.at cyc).tick.syncs = s.tick.syncs ∧ (s.at cyc).can = s.can := by
  have h : s.at cyc = _ := s.at_sameButTriggers cyc
  exact ⟨congrArg (·.tick.syncs) h, congrArg (·.can) h⟩

/-- A SYNC has been received at a cycle: one frame more, and one event for the next prologue (R57). -/
def State.syncHeard (s : State) (cyc : Nat) : State :=
  { (s.at cyc).canRx with tick := { (s.at cyc).canRx.tick with syncs := s.tick.syncs + 1 } }

/-- What a SYNC does to a port that takes it: in OPERATIONAL the TPDOs count it, then the RPDOs held are written (R433). -/
theorem State.syncFrame_of_taken {s : State} (htakes : s.canTakes = true) (hnmt : s.can.nmt ≠ .stopped) (cyc : Nat) :
    s.syncFrame cyc = if s.can.nmt = .operational then ((List.range 8).foldl State.tpdoSync (s.syncHeard cyc)).writeHeld cyc
      else s.syncHeard cyc := by
  have hheard : s.syncHeard cyc =
      { (s.at cyc).canRx with tick := { (s.at cyc).canRx.tick with syncs := (s.at cyc).canRx.tick.syncs + 1 } } := by
    rw [State.syncHeard, ← (s.at_syncs_can cyc).1]
    rfl
  rw [hheard]
  exact if_pos (by simp [htakes, hnmt])

/-- R57, R433: SYNC frames. -/
theorem syncFramesCount : Claim.SyncFramesCount := by
  intro s cyc hcore
  refine ⟨fun hignored => ?_, fun htakes hnmt hpre => ?_, fun htakes hop => ?_⟩
  · refine State.ends_of_run (f := (·.syncFrame cyc)) hcore rfl (if_neg ?_)
    obtain h | h := hignored
    · simp [show s.begin.canTakes = false from h]
    · simp [State.begin, h]
  · exact State.ends_of_run (f := (·.syncFrame cyc)) hcore rfl
      ((State.syncFrame_of_taken (s := s.begin) htakes hnmt cyc).trans (if_neg hpre))
  · have hnmt : s.begin.can.nmt ≠ .stopped := by simp [State.begin, hop]
    have hdone := (State.syncFrame_of_taken (s := s.begin) htakes hnmt cyc).trans (if_pos hop)
    refine ⟨State.ends_of_run (f := (·.syncFrame cyc)) hcore rfl hdone,
      State.reaches_of_run (f := (·.syncFrame cyc)) hcore rfl ?_⟩
    rw [hdone, State.settle_held, State.writeHeld_held]

/-- R433: what a SYNC is to a TPDO. -/
theorem syncsCountForTpdos : Claim.SyncsCountForTpdos := by
  intro s k
  refine ⟨fun hout => if_neg ?_, fun hon hn hmore => ?_, fun hon hn hdue => ?_⟩
  · obtain h | h := hout <;> simp [h]
  all_goals refine (if_pos (by simp [hon, hn])).trans ?_
  · exact if_neg (Nat.not_le.mpr hmore)
  · exact if_pos hdue

/-- R402, R433: an RPDO waits or is written. -/
theorem rpdosWaitOrAreWritten : Claim.RpdosWaitOrAreWritten := by
  intro s k data cyc hcore h takes
  have hcan : h.can.held = s.can.held := congrArg (·.held) ((s.begin.at_syncs_can cyc).2 : _ = s.can)
  refine ⟨fun hno => ?_, fun hyes hsync => ⟨?_, tget_tput_same ..⟩, fun hyes hnow => ?_⟩
  · exact State.ends_of_run (f := (·.rpdoFrame k.val data cyc)) hcore rfl (if_neg (Bool.eq_false_iff.mp hno))
  · refine State.ends_of_run (f := (·.rpdoFrame k.val data cyc)) hcore rfl ((if_pos hyes).trans ((if_pos hsync).trans ?_))
    rw [← hcan]
  · exact State.ends_of_run (f := (·.rpdoFrame k.val data cyc)) hcore rfl
      ((if_pos hyes).trans (if_neg (Nat.not_le.mpr hnow)))

/-- Whether a write passes its checks with the values of those before it in place (R402; DEDUCED, log entry 61). -/
def State.judgedAfter (s : State) (via : Via) (before : List (Nat × Nat × List Byte)) (p : Nat × Nat × List Byte) : Nat :=
  (before.foldl State.stage s).writeRefusal via p.1 p.2.1 p.2.2

/-- Every write of a group passes its checks in its turn. -/
def State.acceptsGroup (s : State) (via : Via) (l : List (Nat × Nat × List Byte)) : Prop :=
  ∀ a p b, l = a ++ p :: b → s.judgedAfter via a p = 0

/-- A group that begins with a write that passes is judged on from there. -/
theorem State.acceptsGroup_cons {s : State} {via : Via} {p : Nat × Nat × List Byte} {l : List (Nat × Nat × List Byte)}
    (h : s.acceptsGroup via (p :: l)) :
    s.writeRefusal via p.1 p.2.1 p.2.2 = 0 ∧ (s.stage p).acceptsGroup via l :=
  ⟨h [] p l rfl, fun a q b hl => h (p :: a) q b (congrArg (p :: ·) hl)⟩

/-- Writes that pass precede the first that fails. -/
theorem State.firstRefused_append {s : State} {via : Via} {a : List (Nat × Nat × List Byte)} (h : s.acceptsGroup via a)
    (l : List (Nat × Nat × List Byte)) :
    State.firstRefused via s (a ++ l) = State.firstRefused via (a.foldl State.stage s) l := by
  induction a generalizing s with
  | nil => rfl
  | cons p a ih =>
    obtain ⟨hp, ha⟩ := State.acceptsGroup_cons h
    rw [List.cons_append, State.firstRefused, if_neg (by simpa using hp), ih ha, List.foldl_cons]

/-- The first write that fails is found with its code. -/
theorem State.firstRefused_of_refused {s : State} {via : Via} {a b : List (Nat × Nat × List Byte)} {p : Nat × Nat × List Byte}
    (h : s.acceptsGroup via a) (hp : s.judgedAfter via a p ≠ 0) :
    State.firstRefused via s (a ++ p :: b) = some (p, s.judgedAfter via a p) := by
  rw [State.firstRefused_append h]
  exact if_pos hp

/-- A group whose every write passes has no first that fails. -/
theorem State.firstRefused_of_accepts {s : State} {via : Via} {l : List (Nat × Nat × List Byte)} (h : s.acceptsGroup via l) :
    State.firstRefused via s l = none := by
  simpa [State.firstRefused] using State.firstRefused_append h []

/-- An EMCY that is sent is entered first in 1003h (R432). -/
theorem State.emcy_errs {s : State} (h : s.emcyOn = true) (code detail : Nat) :
    (s.emcy code detail).can.errs.head? = some (BitVec.ofNat 32 (code % 65536 + 65536 * (detail % 65536))) := by
  unfold State.emcy
  rw [if_pos h]
  unfold State.sendCan
  split <;> simp

/-- An EMCY, sent or not, leaves the mark of a short RPDO. -/
theorem State.emcy_shortRpdo (s : State) (code detail : Nat) : (s.emcy code detail).can.shortRpdo = s.can.shortRpdo := by
  unfold State.emcy
  split
  · unfold State.sendCan
    split <;> rfl
  · rfl

/-- An RPDO shorter than its mapping is in the refusal log and marked, before its EMCY (R432). -/
def State.shortNoted (s : State) (k : Nat) : State :=
  { s.refusal 0x409 .n (key (0x1600 + k) 0) 0 with can := { s.can with shortRpdo := true } }

/-- R402, R432: an RPDO shorter than its mapping is logged, marked and reported, and writes nothing. -/
theorem State.rpdoShort_spec (s : State) (k : Nat) :
    (s.rpdoShort k).can.shortRpdo = true ∧
      (s.rpdoShort k).diag = s.diag.refusal s.tick.counter 0x409 .n (key (0x1600 + k) 0) 0 ∧
      (s.emcyOn = true →
        (s.rpdoShort k).can.errs.head? = some (BitVec.ofNat 32 (0x8210 + 65536 * ((k + 1) % 65536)))) ∧
      s.rpdoShort k = { s with can := (s.rpdoShort k).can, diag := (s.rpdoShort k).diag, out := (s.rpdoShort k).out } := by
  have hframe : s.rpdoShort k = { s.shortNoted k with can := (s.rpdoShort k).can, out := (s.rpdoShort k).out } :=
    State.eq_of_apart ((s.shortNoted k).apart_emcy 0x8210 (k + 1))
  have hdiag : (s.rpdoShort k).diag = (s.shortNoted k).diag := congrArg (·.diag) hframe
  refine ⟨(s.shortNoted k).emcy_shortRpdo _ _, hdiag, fun hon => State.emcy_errs (s := s.shortNoted k) hon 0x8210 (k + 1), ?_⟩
  rw [hdiag]
  exact hframe

/-- The parts of an RPDO are its mapping's entries, in order (R402). -/
theorem rpdoParts_entries (ms : List Nat) (data : List Byte) :
    (rpdoParts ms data).map (fun p => (p.1, p.2.1)) = ms.map (fun m => (m / 65536, m / 256 % 256)) := by
  induction ms generalizing data with
  | nil => rfl
  | cons m ms ih => rw [rpdoParts, List.map_cons, List.map_cons, ih]

/-- R402, R432: what writing an RPDO does. -/
theorem rpdosAreWrittenWhole : Claim.RpdosAreWrittenWhole := by
  intro s k data cyc ms via parts judged accepts t
  have hentries := rpdoParts_entries ms data
  refine ⟨fun hshort => ?_, fun hwhole => ⟨fun a p b hparts ha hp => ?_, fun hall => ?_⟩, ?_, hentries⟩
  · obtain ⟨hmark, hlog, herr, hframe⟩ := s.rpdoShort_spec k
    have ht : t = s.rpdoShort k := if_pos hshort
    rw [ht]
    exact ⟨hmark, by rw [hlog]; rfl, herr, hframe⟩
  · refine (if_neg (Nat.not_lt.mpr hwhole)).trans ?_
    have hfirst : State.firstRefused via s parts = some (p, judged a p) := by
      rw [hparts]
      exact State.firstRefused_of_refused ha hp
    rw [hfirst]
  · refine (if_neg (Nat.not_lt.mpr hwhole)).trans ?_
    have hnone : State.firstRefused via s parts = none := State.firstRefused_of_accepts hall
    rw [hnone]
  · simpa using congrArg List.length hentries

/-- Settles O50, clause by clause. -/
theorem syncAndRpdos : Obligations.SyncAndRpdos :=
  ⟨syncFramesCount, syncsCountForTpdos, rpdosWaitOrAreWritten, rpdosAreWrittenWhole⟩

end Sys2Proof.Machine
end

section
/-! PROOFS. What the formation of a record leaves alone: lanes, triggers, rings and whey (R47, R228, R249, R279, R352). -/
namespace Sys2Proof.Machine
open Sys2Proof

/-- A view of the state that sources, status of the inputs and event log do not enter. -/
def BlindToStatus {β : Type} (g : State → β) : Prop :=
  ∀ (s : State) (src : Tbl SourceRt) (sense : SenseSt) (diag : DiagSt),
    g { s with sources := src, sense := sense, diag := diag } = g s

/-- Saturations counted (R203). -/
theorem State.addSat_view {β : Type} {g : State → β} (hg : BlindToStatus g) (s : State) (p n : Nat) : g (s.addSat p n) = g s :=
  hg s s.sources _ s.diag

/-- An unpaired record counted, or not (R159). -/
theorem State.noteUnpaired_view {β : Type} {g : State → β} (hg : BlindToStatus g) (s : State) (a : Tbl Nat) (n : Nat)
    (unpaired : Bool) : g (s.noteUnpaired a n unpaired) = g s := by
  unfold State.noteUnpaired
  split
  · exact hg s _ s.sense s.diag
  · rfl

/-- The status that the formation of a record leaves is that of its slot, of sources and inputs, and an event (R162, R231, R235). -/
theorem State.noteFormation_view {β : Type} {g : State → β} (hg : BlindToStatus g) {s : State} {n : Nat}
    (hslot : ∀ r : SlotRt, r.run = (s.slot n).run → r.pend = (s.slot n).pend → g (s.setSlot n r) = g s)
    (a : Tbl Nat) (t : TickNo) (c : Nat) (f : Formation) (ovr : Bool) : g (s.noteFormation a n t c f ovr) = g s := by
  unfold State.noteFormation
  extract_lets r first lasts leads s1 s2 sense2 s3 s4 sense4
  have h1 : g s1 = g s := hslot _ rfl rfl
  have h2 : g s2 = g s1 := by
    dsimp only [s2]
    split
    · split
      · exact hg s1 _ s1.sense s1.diag
      · rfl
    · rfl
  have h3 : g s3 = g s2 := by
    dsimp only [s3]
    split
    · exact hg s2 s2.sources _ s2.diag
    · rfl
  have h4 : g s4 = g s3 := by
    dsimp only [s4]
    split
    · exact State.addSat_view hg s3 _ _
    · rfl
  refine Eq.trans ?_ (h4.trans (h3.trans (h2.trans h1)))
  split
  · exact hg s4 s4.sources _ _
  · rfl

/-- What a record does not touch as it is formed: lanes, the triggers that run or are pending, rings, whey and ledger, shadow copy
and live entries. -/
def State.flow (s : State) :
    Tbl LaneRt × (Nat → Option Trig × Option Trig) × Tbl Ring × List Whey × Ledger × Tbl Nat × Tbl Nat :=
  (s.lanes, fun n => ((s.slot n).run, (s.slot n).pend), s.rings, s.whey, s.ledger, s.shadow, s.live)

/-- Status is no part of it. -/
theorem flow_blindToStatus : BlindToStatus State.flow := fun _ _ _ _ => rfl

/-- Records formed are no status. -/
theorem formed_blindToStatus : BlindToStatus State.formed := fun _ _ _ _ => rfl

/-- A write to a slot that keeps its triggers. -/
theorem State.setSlot_flow (s : State) (n : Nat) {r : SlotRt} (hrun : r.run = (s.slot n).run)
    (hpend : r.pend = (s.slot n).pend) : (s.setSlot n r).flow = s.flow := by
  have htrigs : (fun m => (((s.setSlot n r).slot m).run, ((s.setSlot n r).slot m).pend)) =
      fun m => ((s.slot m).run, (s.slot m).pend) :=
    funext (s.slot_setSlot_keeps (fun r => (r.run, r.pend)) (Prod.ext hrun hpend))
  unfold State.flow
  rw [htrigs]
  rfl

/-- A verdict marks the calibrated slot and logs an event (R356). -/
theorem State.verdict_flow (s : State) (v : Verdict) (cause : Nat) : (s.verdict v cause).flow = s.flow := by
  unfold State.verdict
  dsimp only
  cases s.cal.system
  · rfl
  · exact s.setSlot_flow s.cal.slot rfl rfl

/-- A record of the calibrated slot is collected and judged (R352, R353). -/
theorem State.calCollect_flow (s : State) (n : Nat) (x : Int) (ovr : Bool) : (s.calCollect n x ovr).flow = s.flow := by
  unfold State.calCollect
  dsimp only
  repeat' split
  case isFalse => rfl
  case isTrue.isFalse.isFalse.isTrue => rfl
  all_goals exact State.verdict_flow ..

/-- Collecting forms no record. -/
theorem State.calCollect_formed (s : State) (n : Nat) (x : Int) (ovr : Bool) : (s.calCollect n x ovr).formed = s.formed := by
  unfold State.calCollect
  dsimp only
  repeat' split
  all_goals rfl

/-- An event of the touch chapter: at most its record and its pending bit (R287–R289). -/
theorem State.touchEvent_flow (s : State) (route bit code source : Nat) (value : BitVec 32) (t : TickNo) (slot : Nat) :
    (s.touchEvent route bit code source value t slot).flow = s.flow ∧
      s.formed <+: (s.touchEvent route bit code source value t slot).formed := by
  unfold State.touchEvent
  extract_lets ring lost k s1 pend
  have h1 : s1.flow = s.flow ∧ s.formed <+: s1.formed := by
    dsimp only [s1]
    split
    · exact ⟨rfl, List.prefix_rfl⟩
    · split
      · exact ⟨rfl, List.prefix_rfl⟩
      · split
        · exact ⟨rfl, List.prefix_append ..⟩
        · exact ⟨rfl, List.prefix_rfl⟩
  split
  · exact h1
  · exact h1

/-- One evaluation of an element (R278, R279). -/
theorem State.evaluate_flow (s : State) (i : Nat) (m : Rat) (t : TickNo) :
    (s.evaluate i m t).flow = s.flow ∧ s.formed <+: (s.evaluate i m t).formed := by
  unfold State.evaluate
  dsimp only
  split
  · exact State.touchEvent_flow ..
  · exact ⟨rfl, List.prefix_rfl⟩

/-- A walk over evaluations. -/
theorem State.evaluates_flow (f : Nat → Nat) (m : Rat) (t : TickNo) (l : List Nat) (s : State) :
    (l.foldl (fun acc c => acc.evaluate (f c) m t) s).flow = s.flow ∧
      s.formed <+: (l.foldl (fun acc c => acc.evaluate (f c) m t) s).formed := by
  induction l generalizing s with
  | nil => exact ⟨rfl, List.prefix_rfl⟩
  | cons c l ih =>
    obtain ⟨hflow, hformed⟩ := s.evaluate_flow (f c) m t
    obtain ⟨hflows, hformeds⟩ := ih (s.evaluate (f c) m t)
    exact ⟨hflows.trans hflow, hformed.trans hformeds⟩

/-- A data record evaluates the press channels of its slot, whose events are formed behind it (R279). -/
theorem State.pressEvaluate_flow (s : State) (n : Nat) (t : TickNo) (value : BitVec 32) (raw undef : Bool) :
    (s.pressEvaluate n t value raw undef).flow = s.flow ∧ s.formed <+: (s.pressEvaluate n t value raw undef).formed := by
  unfold State.pressEvaluate
  split
  · exact ⟨rfl, List.prefix_rfl⟩
  · exact State.evaluates_flow (32 + ·) _ t _ s

/-- The formation of a data record forms that record, and events behind it (R228, R249, R279). -/
theorem State.formData_formed (s : State) (a : Tbl Nat) (n c : Nat) (x5 : Int) (ovr cal : Bool) (dly : Nat) :
    (s.formData a n c x5 ovr cal dly).flow = s.flow ∧
    ∃ r more, (s.formData a n c x5 ovr cal dly).formed = s.formed ++ ⟨slotCfg s.active n 10, r, 1⟩ :: more ∧ r.kind = 0 ∧
      r.tick = s.tick.counter ∧ r.slot = BitVec.ofNat 7 n ∧ r.cal = cal ∧ r.word12 = BitVec.ofNat 4 dly ++ (0 : BitVec 12) := by
  unfold State.formData
  extract_lets t f bad raw s1
  have hflow : s1.flow = s.flow := State.noteFormation_view flow_blindToStatus (fun _ => s.setSlot_flow n) a t c f bad
  have hformed : s1.formed = s.formed ++ [⟨slotCfg s.active n 10,
      dataRecord n t x5 f bad cal (decide (dly ≠ 0)) (BitVec.ofNat 4 dly), 1⟩] :=
    congrArg (· ++ [_]) (State.noteFormation_view formed_blindToStatus (fun _ _ _ => rfl) a t c f bad)
  obtain ⟨hpress, more, hmore⟩ := State.pressEvaluate_flow { s1 with com := s1.com.noteDly dly } n t f.value raw f.undef
  refine ⟨(State.calCollect_flow ..).trans (hpress.trans hflow),
    dataRecord n t x5 f bad cal (decide (dly ≠ 0)) (BitVec.ofNat 4 dly), more, ?_, rfl, rfl, rfl, rfl, rfl⟩
  rw [State.calCollect_formed, ← hmore]
  show s1.formed ++ more = _
  rw [hformed, List.append_assoc]
  rfl

end Sys2Proof.Machine
end

section
/-! PROOFS. The results of lanes, multiplexed and dedicated (R47–R49, R87, R200, R205, R249). -/
namespace Sys2Proof.Machine
open Sys2Proof

/-- CONVERSION_END of a lane that converts (R47, R48). -/
theorem State.conversionEnd_of_running {s : State} {l : Nat} {c : Conv} (hc : (s.lane l).conv = some c) (x : Int)
    (ref : RefLevel) :
    let e := c.start + occupancy (slotPreset s.active c.slot)
    let h := (s.latchTo (8 * e - 1)).startsBefore (8 * e)
    s.conversionEnd l x ref =
      (((if (h.lane l).conv = some c then h.endConv l c x ref else h).latchTo (8 * e)).startAll e).at (8 * e) := by
  unfold State.conversionEnd
  rw [hc]

/-- R47, R48: the end of a conversion in order of time. -/
theorem conversionsEndAtTheirEdge : Claim.ConversionsEndAtTheirEdge := by
  intro s l x ref c hcore hc e h tail
  have hend := State.conversionEnd_of_running (s := s.begin) hc x ref
  refine ⟨fun hruns => ?_, fun htaken => ?_⟩
  · exact State.ends_of_run (f := (·.conversionEnd l.val x ref)) hcore rfl (hend.trans (congrArg tail (if_pos hruns)))
  · exact State.ends_of_run (f := (·.conversionEnd l.val x ref)) hcore rfl (hend.trans (congrArg tail (if_neg htaken)))

/-- The end of a conversion is a free lane and the filter stages, the formation of the record, and the promotion of what the slot
keeps waiting (R47, R49, R200): the stages change neither what a record leaves alone, nor the tick, nor what has been formed. -/
theorem State.endConv_eq (s : State) (l : Nat) (c : Conv) (x0 : Int) (ref : RefLevel) : ∃ (u : State) (x5 : Int) (ovr : Bool),
    s.endConv l c x0 ref =
      (u.formData s.active c.slot (8 * c.start) x5 ovr c.byE (s.delayOf c.trig.tick)).updSlot c.slot SlotRt.promote ∧
    u.flow = (s.updLane l (fun q => { q with conv := none })).flow ∧ u.formed = s.formed ∧ u.active = s.active ∧
    u.tick = s.tick := by
  unfold State.endConv
  extract_lets n r p x st2 bad st3 st5 sats guard s1 s2 s3 s4
  have hstages : ∀ {β : Type} {g : State → β}, BlindToStatus g → g s3 = g s2 := by
    intro β g hg
    refine (State.noteUnpaired_view hg _ _ _ _).trans ?_
    split
    · rfl
    · exact State.addSat_view hg s2 p sats
  refine ⟨s3, _, _, rfl, ?_, ?_, ?_, ?_⟩
  · rw [hstages flow_blindToStatus]
    exact State.setSlot_flow s1 n rfl rfl
  · exact hstages formed_blindToStatus
  · exact hstages (g := State.active) fun _ _ _ _ => rfl
  · exact hstages (g := State.tick) fun _ _ _ _ => rfl

/-- R47, R49, R87, R249: the record of a conversion, the lane and the slot after it. -/
theorem conversionFormsARecord : Claim.ConversionFormsARecord := by
  intro s l x ref c t
  obtain ⟨u, x5, ovr, hend, hstages, hformed, hactive, htick⟩ := s.endConv_eq l c x ref
  obtain ⟨hflow, r, more, hrecord, hkind, hrtick, hslot, hcal, hword⟩ :=
    u.formData_formed s.active c.slot (8 * c.start) x5 ovr c.byE (s.delayOf c.trig.tick)
  have hall := hflow.trans hstages
  simp only [State.flow, Prod.mk.injEq] at hall
  obtain ⟨hlanes, htrigs, hrings, hwhey, hledger, hshadow, hlive⟩ := hall
  have htrig := fun n => Prod.mk.inj (congrFun htrigs n)
  have ht : t = _ := hend
  rw [hactive] at hrecord
  rw [htick] at hrtick
  have hkept : t.tick.counter = s.tick.counter ∧ t.active = s.active := by simp [t]
  rw [ht] at hkept ⊢
  refine ⟨⟨r, more, hrecord.trans (by rw [hformed]), hkind, hrtick, hslot, hcal, hword⟩, ?_, ?_, ?_, fun n hn => ?_, hrings,
    hwhey, hledger, hkept.1, hkept.2, hshadow, hlive⟩
  · exact (congrArg (fun lanes => (tget (fun _ => ({} : LaneRt)) lanes l).conv) hlanes).trans
      (congrArg LaneRt.conv (s.lane_updLane l _))
  · rw [State.slot_updSlot]
    exact (htrig c.slot).2
  · rw [State.slot_updSlot]
    rfl
  · rw [State.updSlot, State.slot_setSlot_other _ hn]
    exact htrig n

/-- A change of one lane leaves every other. -/
theorem State.lane_updLane_other (s : State) {l q : Nat} (h : q ≠ l) (f : LaneRt → LaneRt) :
    (s.updLane l f).lane q = s.lane q :=
  tget_tput_other _ _ _ _ _ h

/-- What a lane's latest sample is known by outside it: when its input was connected, whether the sample is settled, and its
instant (R205). -/
def LaneRt.sampled (r : LaneRt) : Option Nat × Option (Bool × Int) := (r.conn, r.last.map (fun m => (m.settled, m.at_)))

/-- State `s` is `u` but for what the later stages make of the latest sample of lane p: that lane, slots, status and event log; when
the lane was connected and what its sample is stay (R200, R205, R219). -/
structure State.sameButStages (p : Nat) (s u : State) : Prop where
  frame : s = { u with lanes := s.lanes, slots := s.slots, sense := s.sense, draws := s.draws, diag := s.diag }
  others : ∀ q, q ≠ p → s.lane q = u.lane q
  sampled : (s.lane p).sampled = (u.lane p).sampled

/-- Nothing changed is nothing but the later stages changed. -/
theorem State.sameButStages_refl (p : Nat) (s : State) : s.sameButStages p s := ⟨rfl, fun _ _ => rfl, rfl⟩

/-- Changes of the later stages add up. -/
theorem State.sameButStages_trans {p : Nat} {s t u : State} (h : t.sameButStages p s) (k : s.sameButStages p u) :
    t.sameButStages p u := by
  refine ⟨?_, fun q hq => (h.others q hq).trans (k.others q hq), h.sampled.trans k.sampled⟩
  rw [h.frame, k.frame]

/-- A change of slots, status and event log alone. -/
theorem State.sameButStages_of_lanes {p : Nat} {s u : State}
    (h : s = { u with slots := s.slots, sense := s.sense, diag := s.diag }) : s.sameButStages p u := by
  rw [h]
  exact ⟨rfl, fun _ _ => rfl, rfl⟩

/-- Saturations counted and marked, or none (R203). -/
theorem State.markSat_sameButStages (p : Nat) (s : State) (n prof sats : Nat) : (s.markSat n prof sats).sameButStages p s := by
  refine State.sameButStages_of_lanes ?_
  unfold State.markSat
  split <;> rfl

/-- A sample enters a totaliser (R219, R221). -/
theorem State.totalise_sameButStages (p : Nat) (s : State) (n cyc period : Nat) (y : Int) :
    (s.totalise n cyc period y).sameButStages p s := by
  refine State.sameButStages_of_lanes ?_
  unfold State.totalise
  dsimp only
  split <;> rfl

/-- The settled sample of a lane passes the later stages, once (R200, R210). -/
theorem State.runSample_sameButStages (p : Nat) (s : State) (n : Nat) : (s.runSample p n).sameButStages p s := by
  unfold State.runSample
  split
  · exact State.sameButStages_refl ..
  · rename_i m hlast
    dsimp only
    split
    · exact State.sameButStages_refl ..
    · refine State.sameButStages_trans (State.markSat_sameButStages ..) ⟨rfl, fun q hq => s.lane_updLane_other hq _, ?_⟩
      rw [State.lane_updLane]
      simp [LaneRt.sampled, hlast]

/-- What an output sample does first: the lane keeps it as its latest (R200, R205). The later stages follow. -/
theorem State.outputSample_eq {s : State} {p l n conn cyc : Nat} (hfor : (s.at cyc).laneFor p = some l)
    (hconn : ((s.at cyc).lane p).conn = some conn) (hslot : dedSlot (s.at cyc).active l = some n) (x0 : Int) (ref : RefLevel) :
    ∃ (m : Sample) (ovr : Bool), m.settled = decide (8 * occupancy (slotPreset (s.at cyc).active n) ≤ conn + cyc) ∧
      m.at_ = (cyc : Int) ∧
      (s.outputSample p x0 ref cyc).sameButStages p (((s.at cyc).drawRef n l ref).updLane p
        (fun q => { q with last := some m, ovrAcc := q.ovrAcc || ovr, refLowNow := decide (ref ≠ RefLevel.ok) })) := by
  unfold State.outputSample
  extract_lets h x
  rw [show h.laneFor p = some l from hfor, show (h.lane p).conn = some conn from hconn]
  simp -zeta only [show dedSlot h.active l = some n from hslot]
  extract_lets prof pre tot ac st2 st3 settled sats s1 s1' s2
  have h1 : s1.sameButStages p _ := State.markSat_sameButStages p _ n prof sats
  have h1' : s1'.sameButStages p s1 := State.sameButStages_of_lanes rfl
  have h2 : s2.sameButStages p s1' := by
    dsimp only [s2]
    split
    · exact State.sameButStages_refl ..
    · exact State.runSample_sameButStages ..
  refine ⟨_, _, rfl, rfl, State.sameButStages_trans ?_ (State.sameButStages_trans h2 (State.sameButStages_trans h1' h1))⟩
  split
  · split
    · exact State.totalise_sameButStages ..
    · exact State.sameButStages_refl ..
  · exact State.sameButStages_refl ..

/-- Configuration, results, elements and outputs, and the tick machinery are as they were. -/
def State.sameOutside (s u : State) : Prop := s.sameConfig u ∧ s.sameResults u ∧ s.sameIo u ∧ s.tick = u.tick

/-- Configuration unchanged twice is unchanged. -/
theorem State.sameConfig_trans {s t u : State} (h : t.sameConfig s) (k : s.sameConfig u) : t.sameConfig u := by
  unfold State.sameConfig at *
  simp only [h, k, and_self]

/-- Elements and outputs unchanged twice are unchanged. -/
theorem State.sameIo_trans {s t u : State} (h : t.sameIo s) (k : s.sameIo u) : t.sameIo u := by
  unfold State.sameIo at *
  simp only [h, k, and_self]

/-- What is outside a lane, unchanged twice, is unchanged. -/
theorem State.sameOutside_trans {s t u : State} (h : t.sameOutside s) (k : s.sameOutside u) : t.sameOutside u := by
  obtain ⟨hconfig, hresults, hio, htick⟩ := h
  obtain ⟨kconfig, kresults, kio, ktick⟩ := k
  refine ⟨State.sameConfig_trans hconfig kconfig, ?_, State.sameIo_trans hio kio, htick.trans ktick⟩
  unfold State.sameResults at *
  simp only [hresults, kresults, and_self]

/-- The reading of the reference and the lane's own sample (R176). -/
theorem State.updLane_drawRef_sameOutside (s : State) (n l p : Nat) (ref : RefLevel) (f : LaneRt → LaneRt) :
    ((s.drawRef n l ref).updLane p f).sameOutside s := by
  simp [State.sameOutside, State.sameConfig, State.sameResults, State.sameIo, State.drawRef, State.updLane]

/-- The later stages. -/
theorem State.sameOutside_of_sameButStages {p : Nat} {s u : State} (h : s.sameButStages p u) : s.sameOutside u := by
  rw [h.frame]
  simp [State.sameOutside, State.sameConfig, State.sameResults, State.sameIo]

/-- The end of a command leaves the lanes alone, and everything else but the CAN port and what is sent. -/
theorem State.settle_sameOutside (s : State) : s.settle.sameOutside s ∧ s.settle.lane = s.lane := by
  rw [State.eq_of_apart s.apart_settle]
  simp [State.sameOutside, State.sameConfig, State.sameResults, State.sameIo, funext_iff, State.lane]

/-- R200, R205: the latest output sample of a lane. -/
theorem outputSampleIsKept : Claim.OutputSampleIsKept := by
  intro s p x ref cyc l n conn hcore h hfor hconn hslot
  have hactive : (s.begin.at cyc).active = s.active := by simp
  obtain ⟨hconfigAt, hioAt, _, _⟩ := State.frame_of_sameButTriggers (s.begin.at_sameButTriggers cyc)
  obtain ⟨m, ovr, hsettled, hat, hstages⟩ := State.outputSample_eq (s := s.begin) hfor hconn (hactive ▸ hslot) x ref
  obtain ⟨hend, hlane⟩ := (s.begin.outputSample p.val x ref cyc).settle_sameOutside
  have houtside := State.sameOutside_trans hend (State.sameOutside_trans (State.sameOutside_of_sameButStages hstages)
    (State.updLane_drawRef_sameOutside ..))
  obtain ⟨hconfig, hresults, hio, htick⟩ := houtside
  have hsampled := hstages.sampled
  rw [hactive] at hsettled
  simp only [LaneRt.sampled, State.lane_updLane, Option.map_some, Prod.mk.injEq, Option.map_eq_some_iff] at hsampled
  obtain ⟨hjoined, k, hlast, hk, hkat⟩ := hsampled
  refine State.reaches_of_run (f := (·.outputSample p.val x ref cyc)) hcore rfl ?_
  rw [hlane]
  refine ⟨⟨k, hlast, hk.trans hsettled, hkat.trans hat⟩, hjoined.trans hconn, fun q hq => ?_,
    State.sameConfig_trans hconfig hconfigAt, hresults, State.sameIo_trans hio hioAt, htick⟩
  exact (hstages.others q hq).trans (State.lane_updLane_other _ hq _)

/-- Settles O29, clause by clause. -/
theorem conversionsAndSamples : Obligations.ConversionsAndSamples :=
  ⟨conversionsEndAtTheirEdge, conversionFormsARecord, outputSampleIsKept⟩

end Sys2Proof.Machine
end

section
/-! PROOFS. What a transmission event of a TPDO changes, and the data record that RECORD_STORE stores (R83, R250, R254, R255, R264,
R433). -/
namespace Sys2Proof.Machine
open Sys2Proof

/-- A write to one ring leaves every other. -/
theorem State.ring_setRing_other (s : State) {r q : Nat} (h : q ≠ r) (g : Ring) : (s.setRing r g).ring q = s.ring q :=
  tget_tput_other _ _ _ _ _ h

/-- State `s` is `u` but for transmission events of TPDOs: their frames and marks, the count of events without a consumer, and the
rings that port N consumes (R256, R401, R433). -/
structure State.sameButTpdos (s u : State) : Prop where
  frame : s = { u with rings := s.rings, can := s.can, diag := s.diag }
  notConsumed : ∀ q, u.acfg (0x2500 + q) 3 ≠ 1 → s.ring q = u.ring q

/-- Nothing changed is no transmission event. -/
theorem State.sameButTpdos_refl (s : State) : s.sameButTpdos s := ⟨rfl, fun _ _ => rfl⟩

/-- Transmission events leave the active copy alone. -/
theorem State.acfg_of_sameButTpdos {s u : State} (h : s.sameButTpdos u) : s.acfg = u.acfg := by
  unfold State.acfg
  rw [h.frame]

/-- Transmission events add up. -/
theorem State.sameButTpdos_trans {s t u : State} (h : t.sameButTpdos s) (k : s.sameButTpdos u) : t.sameButTpdos u := by
  refine ⟨by rw [h.frame, k.frame], fun q hq => (h.notConsumed q ?_).trans (k.notConsumed q hq)⟩
  rwa [State.acfg_of_sameButTpdos k]

/-- Only a ring that port N consumes gives records to a TPDO (R256, R401). -/
theorem State.tpdoForm_sameButTpdos (s : State) (k : Nat) : (s.tpdoForm k).sameButTpdos s := by
  unfold State.tpdoForm
  split
  · rename_i r n _
    split
    · exact ⟨rfl, fun _ _ => rfl⟩
    · rename_i hconsumer
      dsimp only
      split
      · exact State.sameButTpdos_refl s
      · refine ⟨rfl, fun q hq => s.ring_setRing_other ?_ _⟩
        rintro rfl
        exact hconsumer hq
  · exact ⟨rfl, fun _ _ => rfl⟩

/-- A transmission event forms a frame, waits for the inhibit time, or finds the TPDO not exchanged (R433). -/
theorem State.tpdoEvent_sameButTpdos (s : State) (k : Nat) : (s.tpdoEvent k).sameButTpdos s := by
  unfold State.tpdoEvent
  split
  · split
    · exact ⟨rfl, fun _ _ => rfl⟩
    · exact s.tpdoForm_sameButTpdos k
  · exact State.sameButTpdos_refl s

/-- The walk over the eight TPDOs that follows a store makes transmission events alone (R433). -/
theorem State.ringEvents_sameButTpdos (s old : State) : (s.ringEvents old).sameButTpdos s := by
  unfold State.ringEvents
  refine List.foldlRecOn _ _ (motive := fun t : State => t.sameButTpdos s) (State.sameButTpdos_refl s) fun t ht k _ => ?_
  split
  · split
    · exact State.sameButTpdos_trans (t.tpdoEvent_sameButTpdos k) ht
    · exact ht
  · exact ht

/-- The oldest record that is no monitor event is the one to store unless it is an event record: only an
event record can be ahead of its tick (R83, R288). -/
theorem State.find_storable {s : State} {f : Formed} (hfirst : s.formed.find? (fun f => !f.r.isMonitor) = some f)
    (hkind : f.r.kind ≠ 3) : s.formed.find? (fun f => !f.r.isMonitor && !s.ahead f) = some f := by
  obtain ⟨hf, before, after, hformed, hbefore⟩ := List.find?_eq_some_iff_append.mp hfirst
  have hopen : s.ahead f = false := by rw [State.ahead, decide_eq_false hkind, Bool.false_and]
  refine List.find?_eq_some_iff_append.mpr ⟨by simp [hf, hopen], before, after, hformed, fun e he => ?_⟩
  have hmonitor : e.r.isMonitor = true := by simpa using hbefore e he
  simp [hmonitor]

/-- The first record that is no monitor event, unless it is an event record, is due to its ring at RECORD_STORE (R83, R255). -/
theorem State.storeOldest_of_first {s : State} {f : Formed} (hfirst : s.formed.find? (fun f => !f.r.isMonitor) = some f)
    (hkind : f.r.kind ≠ 3) : s.storeOldest = ({ s with formed := s.formed.erase f }).recordDue f.ring f.r := by
  unfold State.storeOldest
  rw [State.find_storable hfirst hkind]

/-- Marks are taken by every record but a relayed one (R250, R471). -/
theorem State.mark_of_own (s : State) {r : Rec} (h : r.kind ≠ 5) : s.mark r =
    { r with hold := (s.info r.tick).hold, sup := (s.info r.tick).sup, supply := (s.info r.tick).supply,
             stamped := (s.info r.tick).stamped } :=
  if_neg h

/-- Marking a record leaves its kind (R250). -/
theorem State.mark_kind (s : State) (r : Rec) : (s.mark r).kind = r.kind := by
  unfold State.mark
  split <;> rfl

/-- A data record in a free place moves no totaliser epoch (R253, R254). -/
theorem Ring.put_data (g : Ring) {r : Rec} (h : r.kind = 0) :
    g.put r = { g with free := g.free - 1, unread := g.unread ++ [r.withSeq g.seq], seq := g.seq + 1 } := by
  simp [Ring.put, Ring.noteEpoch, h]

/-- A data record due to an open ring with capacity and a free place is stored, marked for its tick, and counted in the ledger as
one trigger placed as data (R250, R253, R264). -/
theorem State.recordDue_data {s : State} {g : Nat} {r : Rec} (hkind : r.kind = 0) (hcap : s.acfg (0x2500 + g) 1 ≠ 0)
    (hopen : (s.ring g).closed = false) (hfree : (s.ring g).free ≠ 0) : s.recordDue g r =
      { s.setRing g ((s.ring g).put (s.mark r)) with ledger := { s.ledger with data := s.ledger.data + 1 } } := by
  have hmark : (s.mark r).kind = 0 := (s.mark_kind r).trans hkind
  have hcar : (s.ring g).carOf (s.mark r) = s.mark r := by simp [Ring.carOf, hmark]
  have htakes : (s.ring g).takes = true := by simp [Ring.takes, hopen, hfree]
  simp [State.recordDue, hcar, hcap, htakes, Ledger.place, hmark]

/-- The oldest record formed, a data record due to a free place: it leaves the list and enters its ring, and the ledger counts it
(R83, R255, R264). -/
theorem State.storeOldest_data {s : State} {f : Formed} (hfirst : s.formed.find? (fun f => !f.r.isMonitor) = some f)
    (hkind : f.r.kind = 0) (hcap : s.acfg (0x2500 + f.ring) 1 ≠ 0) (hopen : (s.ring f.ring).closed = false)
    (hfree : (s.ring f.ring).free ≠ 0) : s.storeOldest =
      { s.setRing f.ring ((s.ring f.ring).put (s.mark f.r)) with
        formed := s.formed.erase f, ledger := { s.ledger with data := s.ledger.data + 1 } } :=
  (State.storeOldest_of_first hfirst (by simp [hkind])).trans
    (State.recordDue_data (s := { s with formed := s.formed.erase f }) hkind hcap hopen hfree)

/-- Settles O30: the record enters its ring before the transmission events, which touch no ring but those of port N. -/
theorem recordStoreFillsAPlace : Obligations.RecordStoreFillsAPlace := by
  intro s f hcore hfirst hkind hcap hopen hfree
  have hstore := State.storeOldest_data (s := s.begin) hfirst hkind hcap hopen hfree
  obtain ⟨hframe, hring⟩ := s.begin.storeOldest.ringEvents_sameButTpdos s.begin
  refine State.reaches_of_run hcore rfl ?_
  rw [State.eq_of_apart (State.apart_settle _), State.recordStore]
  refine ⟨?_, fun hconsumer => ?_, ?_⟩
  · rw [hframe, hstore]
    rfl
  · refine (hring f.ring (by rwa [hstore])).trans ?_
    rw [hstore, ← s.mark_of_own (by simp [hkind]), ← Ring.put_data _ ((s.mark_kind f.r).trans hkind)]
    exact s.ring_setRing f.ring _
  · rw [hframe, hstore]
    simp [State.sameConfig, State.sameLanes, State.sameTime, State.sameIo, State.setRing, State.begin]

end Sys2Proof.Machine
end

section
/-! PROOFS. A command that is one write, once its checks pass: the effect of the entry it names (R94, R95, R392–R394). -/
namespace Sys2Proof.Machine
open Sys2Proof

/-- Every command that is one write of one entry arrives on its port as that write. -/
theorem exec_of_writes {i : Instr} {v : Via} {idx sub : Nat} {data : List Byte} (h : writes i = some (v, idx, sub, data))
    (s : State) : exec i s = s.run (·.portWrite v idx sub data) := by
  unfold writes at h
  split at h
  case h_34 => cases h
  all_goals cases h; rfl

/-- What passes the checks of R392 names an entry of the table: the first two checks refuse every other access. -/
theorem State.entryOf_of_admits {s : State} {v : Via} {idx sub : Nat} {data : List Byte} (h : s.admits v idx sub data) :
    ∃ e, entryOf idx sub = some e := by
  obtain ⟨_, _, hpass⟩ := h
  unfold State.writeRefusal State.formRefusal at hpass
  unfold entryOf
  cases hobj : objectAt idx with
  | none => simp [hobj] at hpass
  | some f =>
    cases hent : f sub with
    | none => simp [hobj, hent] at hpass
    | some e => exact ⟨e, hent⟩

/-- A command that is one admitted write ends in the effect of its entry, with the access completed (R392, R393). -/
theorem ends_of_admits {i : Instr} {s t : State} {v : Via} {idx sub : Nat} {data : List Byte}
    (hw : writes i = some (v, idx, sub, data)) (h : s.admits v idx sub data)
    (heffect : ∀ e, entryOf idx sub = some e → (s.heard v).writeEffect v idx sub e (leNum data) = t) :
    Ends i s (t.complete v) := by
  obtain ⟨e, he⟩ := State.entryOf_of_admits h
  obtain ⟨hcore, _⟩ := id h
  refine State.ends_of_run hcore (exec_of_writes hw s) ?_
  exact (State.portWrite_of_admits h he).trans (congrArg (·.complete v) (heffect e he))

/-- A write of a commit entry goes to the shadow copy (R94, R95). -/
theorem State.writeEffect_of_commit {e : Entry} (he : e.apply = .commit) (s : State) (v : Via) (idx sub x : Nat) :
    s.writeEffect v idx sub e x =
      { s with shadow := tput dflt s.shadow (key idx sub) x, com := { s.com with dirty := true } } :=
  if_pos he

/-- A write of an entry below 2600h that is no commit entry has its live effect (R394). -/
theorem State.writeEffect_of_low {e : Entry} (he : e.apply ≠ .commit) {idx : Nat} (hidx : idx < 0x2600) (s : State) (v : Via)
    (sub x : Nat) : s.writeEffect v idx sub e x = s.liveLow v idx sub x :=
  (if_neg he).trans (if_pos hidx)

/-- A write of an entry from 2600h that is no commit entry has its live effect (R394). -/
theorem State.writeEffect_of_high {e : Entry} (he : e.apply ≠ .commit) {idx : Nat} (hidx : 0x2600 ≤ idx) (s : State) (v : Via)
    (sub x : Nat) : s.writeEffect v idx sub e x = s.liveHigh v idx sub x :=
  (if_neg he).trans (if_neg (Nat.not_lt.mpr hidx))

end Sys2Proof.Machine
end

section
/-! PROOFS. Accepted writes reach their copy: the shadow copy, a live value, the journal's queue (R94, R302, R331, R373, R400). -/
namespace Sys2Proof.Machine
open Sys2Proof

/-- The live entries below 2600h that have no command of their own: PDO parameters and mappings, bank sections, rings but
for credit returns. -/
def isPlainLow (idx sub : Nat) : Prop :=
  0x1400 ≤ idx ∧ idx < 0x1b00 ∨ idx = 0x2381 ∨ idx = 0x2382 ∨ 0x2500 ≤ idx ∧ sub ≠ 7

/-- The live entries from 2600h that have no command of their own, nor an effect besides their value: the ledger, electrodes,
press channels, the operands of a calibration. -/
def isPlainHigh (idx sub : Nat) : Prop :=
  idx = 0x2600 ∨ 0x2700 ≤ idx ∧ idx < 0x2718 ∨ 0x2730 ≤ idx ∧ idx < 0x2740 ∨ idx = 0x2a00 ∧ 2 ≤ sub

/-- Such an entry below 2600h takes its value at once (R94). -/
theorem State.liveLow_of_plain {idx sub : Nat} (h : isPlainLow idx sub) (s : State) (v : Via) (x : Nat) :
    s.liveLow v idx sub x = s.setLive idx sub x := by
  unfold isPlainLow at h
  unfold State.liveLow
  iterate 8 rw [if_neg (by omega)]

/-- Such an entry from 2600h takes its value at once (R94). -/
theorem State.liveHigh_of_plain {idx sub : Nat} (h : isPlainHigh idx sub) (s : State) (v : Via) (x : Nat) :
    s.liveHigh v idx sub x = s.setLive idx sub x := by
  unfold isPlainHigh at h
  unfold State.liveHigh
  iterate 17 rw [if_neg (by omega)]

/-- "save" queues a request to store (R373). -/
theorem State.liveLow_of_save (s : State) (v : Via) (sub x : Nat) : s.liveLow v 0x1010 sub x = s.enqueue true sub := rfl

/-- "load" queues a request to restore (R373). -/
theorem State.liveLow_of_load (s : State) (v : Via) (sub x : Nat) : s.liveLow v 0x1011 sub x = s.enqueue false sub := rfl

/-- A threshold or a hysteresis takes its value at once and stamps the DACs it moves (R302, R310). -/
theorem State.liveHigh_of_monitor {m sub : Nat} (hm : m < 16) (hsub : sub ≠ 11) (s : State) (v : Via) (x : Nat) :
    s.liveHigh v (0x2800 + m) sub x = (s.setLive (0x2800 + m) sub x).dacsMoved m (s.codes m) v.cyc := by
  unfold State.liveHigh
  rw [if_neg (by omega), if_neg (by omega), if_pos (by omega), Nat.add_sub_cancel_left]

/-- An entry of a generator but for its arm takes its value at once; F and A wait besides for an update event (R331). -/
theorem State.liveHigh_of_generator {g sub : Nat} (hg : g < 4) (hsub : sub ≠ 8) (s : State) (v : Via) (x : Nat) :
    s.liveHigh v (0x2910 + g) sub x = (s.setLive (0x2910 + g) sub x).genWrite g sub x v.cyc := by
  unfold State.liveHigh
  iterate 8 rw [if_neg (by omega)]
  rw [if_pos (by omega), Nat.add_sub_cancel_left]

/-- No mapping count is a commit entry; the indices 1604h to 1607h have none (R400). -/
theorem apply_of_mappingCount {tx : Bool} {k : Fin 8} {e : Entry}
    (h : entryOf ((if tx then 0x1a00 else 0x1600) + k.val) 0 = some e) : e.apply ≠ .commit := by
  have hall : ∀ (tx : Bool) (k : Fin 8),
      (entryOf ((if tx then 0x1a00 else 0x1600) + k.val) 0).all (fun e => e.apply ≠ .commit) = true := by decide
  simpa [h] using hall tx k

/-- No entry of 1010h is a commit entry (R373). -/
theorem apply_of_store {sig : Nat} {sub : Fin 5} {e : Entry} (h : objStore sig sub.val = some e) : e.apply ≠ .commit := by
  fin_cases sub <;> cases h <;> exact nofun

/-- The entries of a generator at its index. -/
theorem entryOf_generator (g : Fin 4) (sub : Nat) : entryOf (0x2910 + g.val) sub = objGen sub := by
  fin_cases g <;> rfl

/-- The entries of a monitor at its index. -/
theorem entryOf_monitor (m : Fin 16) (sub : Nat) : entryOf (0x2800 + m.val) sub = objMonitor sub := by
  fin_cases m <;> rfl

/-- F, A, reset phase, reset tick and reset period of a generator are live (R331, R332). -/
theorem apply_of_generator {g : Fin 4} {sub : Nat} (hsub : sub ∈ [3, 4, 5, 6, 7]) {e : Entry}
    (h : entryOf (0x2910 + g.val) sub = some e) : e.apply ≠ .commit := by
  rw [entryOf_generator] at h
  fin_cases hsub <;> cases h <;> exact nofun

/-- Thresholds and hysteresis of a monitor are live (R302). -/
theorem apply_of_threshold {m : Fin 16} {sub : Nat} (hsub : sub ∈ [4, 5, 6]) {e : Entry}
    (h : entryOf (0x2800 + m.val) sub = some e) : e.apply ≠ .commit := by
  rw [entryOf_monitor] at h
  fin_cases hsub <;> cases h <;> exact nofun

/-- R94, R95, R393: commit entries. -/
theorem commitEntriesGoToShadow : Claim.CommitEntriesGoToShadow := by
  intro s v idx sub data e hadm hentry hcommit h
  refine ends_of_admits rfl hadm fun e' he' => ?_
  cases hentry.symm.trans he'
  exact State.writeEffect_of_commit hcommit ..

/-- A live entry without a command of its own, written by OBJECT_WRITE (R94). -/
theorem ends_objectWrite_of_plain {s : State} {v : Via} {idx : BitVec 16} {sub : BitVec 8} {data : List Byte}
    (hadm : s.admits v idx.toNat sub.toNat data)
    (hplain : idx.toNat < 0x2600 ∧ isPlainLow idx.toNat sub.toNat ∨ 0x2600 ≤ idx.toNat ∧ isPlainHigh idx.toNat sub.toNat)
    {e : Entry} (hentry : entryOf idx.toNat sub.toNat = some e) (hlive : e.apply = .live) :
    Ends (.objectWrite v idx sub data) s (((s.heard v).setLive idx.toNat sub.toNat (leNum data)).complete v) := by
  refine ends_of_admits rfl hadm fun e' he => ?_
  cases hentry.symm.trans he
  have hnot : e.apply ≠ .commit := by simp [hlive]
  obtain ⟨hidx, hlow⟩ | ⟨hidx, hhigh⟩ := hplain
  · exact (State.writeEffect_of_low hnot hidx ..).trans (State.liveLow_of_plain hlow ..)
  · exact (State.writeEffect_of_high hnot hidx ..).trans (State.liveHigh_of_plain hhigh ..)

/-- A live entry of a generator, written by OBJECT_WRITE (R331). -/
theorem ends_objectWrite_of_generator {s : State} {v : Via} {idx : BitVec 16} {sub : BitVec 8} {data : List Byte} {g : Fin 4}
    (hidx : idx.toNat = 0x2910 + g.val) (hsub : sub.toNat ∈ [3, 4, 5, 6, 7]) (hadm : s.admits v idx.toNat sub.toNat data) :
    Ends (.objectWrite v idx sub data) s ((((s.heard v).setLive idx.toNat sub.toNat (leNum data)).genWrite g.val sub.toNat
      (leNum data) v.cyc).complete v) := by
  refine ends_of_admits rfl hadm fun e he => ?_
  rw [hidx] at he ⊢
  have harm : sub.toNat ≠ 8 := fun h => by simp [h] at hsub
  exact (State.writeEffect_of_high (apply_of_generator hsub he) (by omega) ..).trans
    (State.liveHigh_of_generator g.isLt harm ..)

/-- A threshold or a hysteresis, written by OBJECT_WRITE (R302, R310). -/
theorem ends_objectWrite_of_threshold {s : State} {v : Via} {idx : BitVec 16} {sub : BitVec 8} {data : List Byte} {m : Fin 16}
    (hidx : idx.toNat = 0x2800 + m.val) (hsub : sub.toNat ∈ [4, 5, 6]) (hadm : s.admits v idx.toNat sub.toNat data) :
    Ends (.objectWrite v idx sub data) s ((((s.heard v).setLive idx.toNat sub.toNat (leNum data)).dacsMoved m.val
      ((s.heard v).codes m.val) v.cyc).complete v) := by
  refine ends_of_admits rfl hadm fun e he => ?_
  rw [hidx] at he ⊢
  have hclear : sub.toNat ≠ 11 := fun h => by simp [h] at hsub
  exact (State.writeEffect_of_high (apply_of_threshold hsub he) (by omega) ..).trans
    (State.liveHigh_of_monitor m.isLt hclear ..)

/-- R94, R302, R310, R331: live entries. -/
theorem liveEntriesTakeEffectAtOnce : Claim.LiveEntriesTakeEffectAtOnce := by
  intro s v idx sub data hadm h i k write
  refine ⟨fun hplain e hentry hlive => ?_, fun g hidx => ⟨?_, ?_, fun hsub => ?_⟩, fun m hidx hsub => ?_⟩
  · refine ends_objectWrite_of_plain hadm ?_ hentry hlive
    simp only [List.mem_cons, List.not_mem_nil, or_false] at hplain
    unfold isPlainLow isPlainHigh
    omega
  · rintro rfl
    exact ends_objectWrite_of_generator hidx (by decide) hadm
  · rintro rfl
    exact ends_objectWrite_of_generator hidx (by decide) hadm
  · simp only [List.mem_cons, List.not_mem_nil, or_false] at hsub
    obtain rfl | rfl | rfl := hsub <;> exact ends_objectWrite_of_generator hidx (by decide) hadm
  · have hsub' : sub.toNat ∈ [4, 5, 6] := by simpa using List.mem_map_of_mem (f := BitVec.toNat) hsub
    exact ends_objectWrite_of_threshold hidx hsub' hadm

/-- R400: mapping counts. -/
theorem mappingCountIsLive : Claim.MappingCountIsLive := by
  intro s v tx k n idx hadm h
  refine ends_of_admits rfl hadm fun e he => ?_
  have hpdo : 0x1400 ≤ idx ∧ idx < 0x1b00 := by
    cases tx <;> simp [idx] <;> omega
  exact (State.writeEffect_of_low (apply_of_mappingCount he) (by omega) ..).trans (State.liveLow_of_plain (.inl hpdo) ..)

/-- R373: "save" and "load". -/
theorem storeAndRestoreAreQueued : Claim.StoreAndRestoreAreQueued := by
  intro s v sub h cls
  refine ⟨fun hadm => ends_of_admits rfl hadm fun e he => ?_, fun hadm => ends_of_admits rfl hadm fun e he => ?_⟩
  · exact (State.writeEffect_of_low (apply_of_store he) (by decide) ..).trans (State.liveLow_of_save ..)
  · exact (State.writeEffect_of_low (apply_of_store he) (by decide) ..).trans (State.liveLow_of_load ..)

/-- Settles O15, clause by clause. -/
theorem writesReachTheirCopy : Obligations.WritesReachTheirCopy :=
  ⟨commitEntriesGoToShadow, liveEntriesTakeEffectAtOnce, mappingCountIsLive, storeAndRestoreAreQueued⟩

end Sys2Proof.Machine
end

section
/-! PROOFS. The requests of 2002h and the verdict of the commit check (R95–R102). -/
namespace Sys2Proof.Machine
open Sys2Proof

/-- The request entry of 2002h is no commit entry. -/
theorem apply_of_request {e : Entry} (h : entryOf 0x2002 1 = some e) : e.apply ≠ .commit := by
  cases h
  exact nofun

/-- A live write of 2002h is a request (R96). -/
theorem State.liveLow_of_request (s : State) (v : Via) (sub x : Nat) :
    s.liveLow v 0x2002 sub x = s.commitRequest x v.port := rfl

/-- The check reads nothing of 2002h (R103). -/
theorem State.checkIn_of_com (s : State) (c : CommitSt) : ({ s with com := c } : State).checkIn = s.checkIn := rfl

/-- A request other than DISCARD freezes the shadow copy and starts the check on it (R96, R98). -/
theorem State.commitRequest_of_check {r : Byte} (hr : r ≠ 2) (s : State) (p : Port) :
    s.commitRequest (leNum [r]) p = { s with com := { s.com with
      request := r, port := p, result := 1, frozen := some s.shadow, fail := commitCheck s.checkIn } } := by
  have hnum : leNum [r] = r.toNat := by simp [leNum]
  have hother : r.toNat ≠ 2 := fun h => hr (BitVec.eq_of_toNat_eq h)
  unfold State.commitRequest State.commitStart
  rw [hnum, if_neg hother, State.checkIn_of_com, BitVec.ofNat_toNat, BitVec.setWidth_eq]

/-- DISCARD copies the active copy into the shadow copy (R95, R96). -/
theorem State.commitRequest_of_discard (s : State) (p : Port) :
    s.commitRequest (leNum [2]) p = { s with
      shadow := s.active, com := { s.com with request := 2, port := p, result := 6, dirty := false } } := rfl

/-- An admitted write of 2002h.01 is the request it holds (R96). -/
theorem ends_of_request {i : Instr} {s t : State} {v : Via} {r : Byte} (hw : writes i = some (v, 0x2002, 1, [r]))
    (hadm : s.admits v 0x2002 1 [r]) (hrequest : (s.heard v).commitRequest (leNum [r]) v.port = t) :
    Ends i s (t.complete v) :=
  ends_of_admits hw hadm fun _ he =>
    (State.writeEffect_of_low (apply_of_request he) (by decide) ..).trans ((State.liveLow_of_request ..).trans hrequest)

/-- R95–R97: the three requests. -/
theorem commitRequestsTakeEffect : Claim.CommitRequestsTakeEffect := by
  intro s v h
  refine ⟨fun hadm => ?_, fun hadm => ?_, fun hadm => ?_⟩
  · exact ends_of_request rfl hadm (State.commitRequest_of_check (by decide) ..)
  · exact ends_of_request rfl hadm (State.commitRequest_of_check (by decide) ..)
  · exact ends_of_request rfl hadm (State.commitRequest_of_discard ..)

/-- The verdict of a check that no rule fails (R98, R100). -/
theorem State.commitVerdict_of_pass {s : State} (hstate : s.pow.state ≠ .standby) (hrun : s.com.result = 1)
    (hpass : s.com.fail = none) (cyc : Nat) : s.commitVerdict cyc = { s.at cyc with com := s.com.pass cyc } := by
  simp [State.commitVerdict, hstate, hrun, hpass]

/-- The verdict of a check that a rule fails (R98, R102). -/
theorem State.commitVerdict_of_fail {s : State} (hstate : s.pow.state ≠ .standby) (hrun : s.com.result = 1)
    {x : Nat × Nat × Nat × Nat} (hfail : s.com.fail = some x) (cyc : Nat) :
    s.commitVerdict cyc = ({ s.at cyc with com := s.com.refuse x } : State).refusal x.1 s.com.port x.2.2.1 0 := by
  simp [State.commitVerdict, hstate, hrun, hfail]

/-- R98, R100, R102: the verdict. -/
theorem verdictEndsTheCheck : Claim.VerdictEndsTheCheck := by
  intro s cyc hcore hstate hrun h
  refine ⟨fun hpass => ?_, fun x hfail => ?_⟩
  · exact State.ends_of_run (f := (·.commitVerdict cyc)) hcore rfl
      (State.commitVerdict_of_pass (s := s.begin) hstate hrun hpass cyc)
  · exact State.ends_of_run (f := (·.commitVerdict cyc)) hcore rfl
      (State.commitVerdict_of_fail (s := s.begin) hstate hrun hfail cyc)

/-- Settles O16, clause by clause. -/
theorem commitAndVerdict : Obligations.CommitAndVerdict := ⟨commitRequestsTakeEffect, verdictEndsTheCheck⟩

end Sys2Proof.Machine
end

section
/-! PROOFS. Every command answers, and a stopped core keeps its state (R138). -/
namespace Sys2Proof.Machine
open Sys2Proof

/-- Every command answers a next state, whatever the core does. -/
theorem everyCommandAnswers : Claim.EveryCommandAnswers := by
  intro i s
  obtain ⟨b, hreset⟩ | ⟨f, hrun⟩ := exec_eq_run i
  · exact ⟨_, hreset s⟩
  · exact ⟨_, hrun s⟩

/-- Every command but a power-on reset and NRST goes through `run`. -/
theorem exec_eq_run_of_ne_reset {i : Instr} (h : ∀ b, i ≠ .powerOnReset b ∧ i ≠ .nrst b) : ∃ f, ∀ s, exec i s = s.run f := by
  cases i
  case powerOnReset b => exact absurd rfl (h b).1
  case nrst b => exact absurd rfl (h b).2
  all_goals exact ⟨_, fun s => by unfold exec; rfl⟩

/-- R138: only a reset moves a stopped core. -/
theorem stoppedCoreKeepsState : Claim.StoppedCoreKeepsState := by
  intro i s hstopped hi
  obtain ⟨f, hrun⟩ := exec_eq_run_of_ne_reset hi
  exact (hrun s).trans (s.run_stopped f hstopped)

/-- Settles O3: what goes through `run` meets the stopped core there. -/
theorem commandsAlwaysAnswer : Obligations.CommandsAlwaysAnswer := ⟨everyCommandAnswers, stoppedCoreKeepsState⟩

end Sys2Proof.Machine
end

section
/-! PROOFS. The clocks come back, and the always-on RC is lost and recovers (R131, R133, R135–R137, R314, R499). -/
namespace Sys2Proof.Machine
open Sys2Proof

/-- The clocks, the supply and stop state, and the configuration: what the return of a clock hands on as it finds it. -/
def State.control (s : State) : ClockSt × SupplySt × Tbl Nat × Tbl Nat × Tbl Nat × CommitSt × Boot :=
  (s.clk, s.sup, s.active, s.shadow, s.live, s.com, s.boot)

/-- What equal controls say, read one by one. -/
theorem State.control_eq_iff {s u : State} : s.control = u.control ↔ s.clk = u.clk ∧ s.sup = u.sup ∧ s.sameConfig u := by
  simp [State.control, State.sameConfig]

/-- An event record of a monitor (R308). -/
theorem State.monEvent_control (s : State) (m code : Nat) (value : BitVec 32) (t : TickNo) :
    (s.monEvent m code value t).control = s.control := by
  unfold State.monEvent
  dsimp only
  repeat' split
  all_goals rfl

/-- A monitor output that takes a state (R305–R308). -/
theorem State.monOutput_control (s : State) (m : Nat) (asserted : Bool) (value : BitVec 32) (t : TickNo) (cyc : Nat) :
    (s.monOutput m asserted value t cyc).control = s.control := by
  unfold State.monOutput
  dsimp only
  split
  · rfl
  · split
    · split
      · exact State.monEvent_control ..
      · exact State.monEvent_control ..
    · exact State.monEvent_control ..

/-- The sampler restarts for one monitor (R311, R314). -/
theorem State.monResume_control (s : State) (m : Nat) : (s.monResume m).control = s.control := by
  unfold State.monResume
  dsimp only
  split
  · exact State.monOutput_control ..
  · exact State.monOutput_control ..

/-- Where only triggers change. -/
theorem State.control_of_sameButTriggers {s u : State} (h : s.sameButTriggers u) : s.control = u.control := by
  unfold State.sameButTriggers at h
  rw [h]
  rfl

/-- The sampler restarts (R314). -/
theorem State.samplerBack_control (s : State) : s.samplerBack.control = s.control := by
  unfold State.samplerBack
  split
  · rfl
  · exact (State.control_of_sameButTriggers (State.calWhey_sameButTriggers _)).trans
      (foldl_keeps State.control _ State.monResume_control _ _)

/-- The end of a command. -/
theorem State.settle_control (s : State) : s.settle.control = s.control := by
  rw [State.eq_of_apart s.apart_settle]
  rfl

/-- The PLL locks (R135): the core is back on the system output, and faults 01h and 02h are over. -/
theorem State.pllLock_spec {s : State} (hpll : s.clk.pll = 1) (hstate : s.pow.state ≠ .standby) (ext : Bool) :
    (s.pllLock ext).tick.on = s.tick.on ∧
      (s.pllLock ext).control = State.control { s with clk := { s.clk with
        pll := 2, core := .system, seen := true, external := if s.boot = .running then s.clk.external else ext,
        causes := s.clk.causes.filter (fun c => c ≠ 1 && c ≠ 2) } } := by
  refine ⟨by simp, ?_⟩
  unfold State.pllLock
  rw [if_pos (by simp [hpll, hstate])]
  dsimp only
  split
  · exact State.samplerBack_control _
  · rfl

/-- A restarted self-check RC qualifies (R136): fault 03h is over. -/
theorem State.selfCheckQualified_spec {s : State} {khz : BitVec 16} (hcause : 3 ∈ s.clk.causes) (htry : s.clk.scTry = true)
    (hgood : selfCheckGood khz = true) :
    (s.selfCheckQualified khz).tick.on = s.tick.on ∧
      (s.selfCheckQualified khz).control = State.control { s with clk := { s.clk with
        causes := s.clk.causes.filter (· ≠ 3), scKhz := khz, scTry := false } } := by
  refine ⟨by simp, ?_⟩
  unfold State.selfCheckQualified
  rw [if_pos (by simp [hcause, htry, hgood])]
  exact State.samplerBack_control _

/-- R135, R136, R499: restarts leave the state but for their mark; a lock and a qualification clear their faults. -/
theorem clocksRecover : Claim.ClocksRecover := by
  intro s hcore
  refine ⟨fun hhalted => ?_, fun ext hpll hstate => ?_, fun hcause => ?_, fun khz hcause htry hlow hhigh => ?_⟩
  · exact State.ends_of_run hcore rfl (if_pos (by rw [Bool.or_eq_true]; exact .inl hhalted))
  · obtain ⟨hon, hcontrol⟩ := State.pllLock_spec (s := s.begin) hpll hstate ext
    obtain ⟨hclk, hsup, hconfig⟩ := State.control_eq_iff.mp ((State.settle_control _).trans hcontrol)
    exact State.reaches_of_run (f := (·.pllLock ext)) hcore rfl ⟨congrArg ClockSt.pll hclk, congrArg ClockSt.core hclk,
      congrArg ClockSt.seen hclk, congrArg ClockSt.causes hclk, (congrArg TickSt.on (State.settle_tick _)).trans hon, hsup, hconfig⟩
  · exact State.ends_of_run hcore rfl (if_pos (List.contains_iff_mem.mpr hcause))
  · have hgood : selfCheckGood khz = true := by simp [selfCheckGood, hlow, hhigh]
    obtain ⟨hon, hcontrol⟩ := State.selfCheckQualified_spec (s := s.begin) hcause htry hgood
    obtain ⟨hclk, hsup, hconfig⟩ := State.control_eq_iff.mp ((State.settle_control _).trans hcontrol)
    exact State.reaches_of_run (f := (·.selfCheckQualified khz)) hcore rfl ⟨congrArg ClockSt.causes hclk,
      congrArg ClockSt.scKhz hclk, congrArg ClockSt.scTry hclk, (congrArg TickSt.on (State.settle_tick _)).trans hon, hsup, hconfig⟩

/-- R131, R133: a frequency outside 24–42 kHz is a loss where none lasts, one back inside ends the loss that lasts. -/
theorem alwaysOnLossStopsNothing : Claim.AlwaysOnLossStopsNothing := by
  intro s hz hcore
  refine ⟨fun hboot hnone hout => ?_, fun hcause hlow hhigh => ?_⟩
  · have hbad : alwaysOnGood hz = false := by simp only [alwaysOnGood, Bool.and_eq_false_iff, decide_eq_false_iff_not]; omega
    exact State.ends_of_run (f := (·.alwaysOnLoss hz)) hcore rfl (if_neg (by simp [State.begin, hboot, hnone, hbad]))
  · have hgood : alwaysOnGood hz = true := by simp [alwaysOnGood, hlow, hhigh]
    exact State.ends_of_run (f := (·.alwaysOnRecovery hz)) hcore rfl (if_pos (by simp [State.begin, hcause, hgood]))

/-- Settles O33, clause by clause. -/
theorem clocksComeBack : Obligations.ClocksComeBack := ⟨clocksRecover, alwaysOnLossStopsNothing⟩

end Sys2Proof.Machine
end

section
/-! PROOFS. Clock faults: the first one stops the tick, one without a good clock stops the core (R131, R132, R136–R138, R485). -/
namespace Sys2Proof.Machine
open Sys2Proof

/-- What a stop leaves alone once its outputs are forced and its cause is entered: the control of the block, the tick and the
outputs. -/
def State.underStop (s : State) : (ClockSt × SupplySt × Tbl Nat × Tbl Nat × Tbl Nat × CommitSt × Boot) × TickSt × Tbl OutRt :=
  (s.control, s.tick, s.outs)

/-- A generator that runs on (R328). -/
theorem State.genAdvance_underStop (s : State) (g c : Nat) : (s.genAdvance g c).underStop = s.underStop := by
  unfold State.genAdvance
  dsimp only
  split <;> rfl

/-- Every generator runs on (R330). -/
theorem State.gensNow_underStop (s : State) : s.gensNow.underStop = s.underStop := by
  unfold State.gensNow
  split
  · exact foldl_keeps State.underStop _ (fun s g => s.genAdvance_underStop g _) _ _
  · rfl

/-- Generators that run on leave the control alone. -/
theorem State.gensNow_control (s : State) : s.gensNow.control = s.control := congrArg (·.1) s.gensNow_underStop

/-- Forcing an output moves neither the control of the block nor the tick (R323). -/
theorem State.forceMid_control (s : State) (n : Nat) : (s.forceMid n).control = s.control ∧ (s.forceMid n).tick = s.tick := by
  unfold State.forceMid
  split <;> exact ⟨rfl, rfl⟩

/-- The code an output holds, once mid-scale, stays so when another is forced (R323). -/
theorem State.forceMid_held {s : State} {n : Nat} (m : Nat) (h : (s.output n).held = 0x8000 ∨ m = n ∧ s.outMode n ≠ 0) :
    ((s.forceMid m).output n).held = 0x8000 := by
  unfold State.forceMid
  by_cases hmn : n = m
  · subst hmn
    split
    · exact h.resolve_right fun hm => hm.2 ‹_›
    · rw [State.output_updOutput]
      rfl
  · have hheld := h.resolve_right fun hm => hmn hm.1.symm
    split
    · exact hheld
    · rw [State.output, State.updOutput, tget_tput_other _ _ _ _ _ hmn]
      exact hheld

/-- Every output that is not HIZ stands at mid-scale once a walk has forced it (R323, R338). -/
theorem foldl_forceMid_held {n : Nat} (l : List Nat) (s : State)
    (h : (s.output n).held = 0x8000 ∨ n ∈ l ∧ s.outMode n ≠ 0) : ((l.foldl State.forceMid s).output n).held = 0x8000 := by
  induction l generalizing s with
  | nil => simpa using h
  | cons m l ih =>
    refine ih _ ?_
    have hmode : (s.forceMid m).outMode n = s.outMode n := by simp [State.outMode, State.acfg]
    rw [hmode]
    obtain h | ⟨hn, hon⟩ := h
    · exact .inl (State.forceMid_held m (.inl h))
    · obtain rfl | hn := List.mem_cons.mp hn
      · exact .inl (State.forceMid_held n (.inr ⟨rfl, hon⟩))
      · exact .inr ⟨hn, hon⟩

/-- All outputs are forced (R338): every one that is not HIZ stands at mid-scale. -/
theorem State.forceAllMid_spec (s : State) : s.forceAllMid.control = s.control ∧ s.forceAllMid.tick = s.tick ∧
    ∀ n, n < 4 → s.outMode n ≠ 0 → (s.forceAllMid.output n).held = 0x8000 := by
  refine ⟨?_, ?_, fun n hn hmode => foldl_forceMid_held _ _ (.inr ⟨by simp; omega, ?_⟩)⟩
  · exact (foldl_keeps State.control _ (fun s m => (s.forceMid_control m).1) _ _).trans s.gensNow_control
  · exact (foldl_keeps State.tick _ (fun s m => (s.forceMid_control m).2) _ _).trans (congrArg (·.2.1) s.gensNow_underStop)
  · simpa [State.outMode, State.acfg] using hmode

/-- Resolved triggers are whey that waits (R59). -/
theorem State.resolveSlot_underStop (s : State) (n : Nat) (why : Reason) (f : TickNo → TickNo) (ring : Option Nat) :
    (s.resolveSlot n why f ring).underStop = s.underStop := by
  unfold State.resolveSlot
  dsimp only
  split <;> split <;> rfl

/-- A calibration that ends (R353). -/
theorem State.calLanesStopped_underStop (s : State) : s.calLanesStopped.underStop = s.underStop := by
  unfold State.calLanesStopped
  split <;> rfl

/-- The lanes stop (R66). -/
theorem State.lanesStop_underStop (s : State) : s.lanesStop.underStop = s.underStop :=
  foldl_keeps State.underStop State.totStop (fun _ _ => rfl) _ _

/-- The sources open (R153). -/
theorem State.openSources_underStop (s : State) : s.openSources.underStop = s.underStop := rfl

/-- A stop forces the outputs; its other steps leave them alone (R485 steps 1–4). -/
theorem State.stopAll_underStop (s : State) (why : Reason) : (s.stopAll why).underStop = s.forceAllMid.underStop := by
  unfold State.stopAll
  calc
    _ = s.forceAllMid.openSources.lanesStop.calLanesStopped.underStop :=
      foldl_keeps State.underStop _ (fun acc n => acc.resolveSlot_underStop n why _ none) _ _
    _ = s.forceAllMid.openSources.lanesStop.underStop := State.calLanesStopped_underStop _
    _ = s.forceAllMid.openSources.underStop := State.lanesStop_underStop _
    _ = s.forceAllMid.underStop := State.openSources_underStop _

/-- An INTEGRITY-STOP enters its cause, stands at mid-scale, and leaves the rest of the control and the tick alone (R485, R487). -/
theorem State.integrityStop_spec (s : State) (cause : BitVec 8) :
    (s.integrityStop cause).control = State.control { s with
      sup := { s.sup with stopCause := stopCauseAfter s.sup.stopCause cause, sweeping := false, clearDue := false } } ∧
    (s.integrityStop cause).tick = s.tick ∧
    ∀ n, n < 4 → s.outMode n ≠ 0 → ((s.integrityStop cause).output n).held = 0x8000 := by
  obtain ⟨hcontrol, htick, hheld⟩ := s.forceAllMid_spec
  have hstop := s.stopAll_underStop .integrityStop
  simp only [State.underStop, State.control, Prod.mk.injEq] at hstop hcontrol
  obtain ⟨⟨hclk, hsup, hactive, hshadow, hlive, hcom, hboot⟩, htick', houts⟩ := hstop
  obtain ⟨hclk', hsup', hactive', hshadow', hlive', hcom', hboot'⟩ := hcontrol
  refine ⟨?_, ?_, fun n hn hmode => ?_⟩
  · simp only [State.integrityStop, State.control, hclk, hsup, hactive, hshadow, hlive, hcom, hboot, hclk', hsup', hactive',
      hshadow', hlive', hcom', hboot']
  · simp only [State.integrityStop, htick', htick]
  · rw [← hheld n hn hmode]
    simp only [State.integrityStop, State.output, houts]

/-- A record that takes its place, or is counted (R261). -/
theorem State.recordDue_underStop (s : State) (g : Nat) (r : Rec) : (s.recordDue g r).underStop = s.underStop := by
  unfold State.recordDue
  dsimp only
  split
  · split <;> rfl
  · split <;> rfl

/-- The whey that waits is written (R485). -/
theorem State.writeWheyNow_underStop (s : State) : s.writeWheyNow.underStop = s.underStop :=
  foldl_keeps State.underStop _
    (fun acc _ => foldl_keeps State.underStop _ (fun s _ => s.recordDue_underStop _ _) _ acc) _ _

/-- An EMCY (R432). -/
theorem State.emcy_underStop (s : State) (code detail : Nat) : (s.emcy code detail).underStop = s.underStop := by
  rw [State.eq_of_apart (s.apart_emcy code detail)]
  rfl

/-- Transmission events (R433). -/
theorem State.ringEvents_underStop (s old : State) : (s.ringEvents old).underStop = s.underStop := by
  rw [(s.ringEvents_sameButTpdos old).frame]
  rfl

/-- A transmission event writes no event to the log. -/
theorem State.tpdoEvent_events (s : State) (k : Nat) : (s.tpdoEvent k).diag.events = s.diag.events := by
  unfold State.tpdoEvent State.tpdoForm
  dsimp only
  repeat' split
  all_goals rfl

/-- Transmission events write no event to the log (R433). -/
theorem State.ringEvents_events (s old : State) : (s.ringEvents old).diag.events = s.diag.events := by
  unfold State.ringEvents
  refine foldl_keeps (·.diag.events) _ (fun t k => ?_) _ _
  split
  · split
    · exact t.tpdoEvent_events k
    · rfl
  · rfl

/-- Where no ring has changed no transmission event comes (R433). -/
theorem State.ringEvents_of_same_rings {s old : State} (h : s.rings = old.rings) : s.ringEvents old = s := by
  refine List.foldl_fixed' (fun k => ?_) _
  have hring : old.ring = s.ring := by unfold State.ring; rw [h]
  split
  · rename_i r n _
    refine if_neg ?_
    rw [hring]
    simp
  · rfl

/-- The state in which the stop for a clock fault begins: the tick stands, the core has changed its clock (R132). -/
def State.clockLost (s : State) (cause : Nat) : State :=
  { s with
    tick := { s.tick.dropLatches with on := false }
    clk := { s.clk with
      core := if cause = 3 then .system else .selfCheck
      pll := if cause = 3 then s.clk.pll else 3
      scTry := false } }

/-- The steps of the response to a clock fault, in their order (R132, R485). -/
theorem State.clockStop_eq (s : State) (cause : Nat) : s.clockStop cause =
    (((((s.clockLost cause).integrityStop 3).emcy 0x5000 ((s.clockLost cause).integrityStop 3).sup.stopCause.toNat).writeWheyNow).event
      0x2011 3 ((s.clockLost cause).integrityStop 3).clk.faults).jnMargin := by
  unfold State.clockStop State.clockLost
  by_cases h : cause = 3 <;> simp only [h, ne_eq, not_true_eq_false, not_false_eq_true, decide_true, decide_false, if_true, if_false,
    Bool.false_eq_true]

/-- What follows the stop in the response to a clock fault leaves control, tick and outputs alone, and its event comes last (R132,
R404). -/
theorem State.reported_spec (v : State) (code detail idx sub x : Nat) :
    ((((v.emcy code detail).writeWheyNow).event idx sub x).jnMargin).underStop = v.underStop ∧
    ((((v.emcy code detail).writeWheyNow).event idx sub x).jnMargin).diag.events.head? =
      some ⟨BitVec.ofNat 32 (key idx sub), v.tick.counter, BitVec.ofNat 32 x⟩ :=
  ⟨(State.writeWheyNow_underStop _).trans (v.emcy_underStop code detail), by simp [State.event, DiagSt.event, State.jnMargin]⟩

/-- The response to a clock fault: the tick stands, the core takes the clock that is left, the stop with its cause is in force, the
outputs stand at mid-scale, and the last event names the count of faults (R132, R404, R485). -/
theorem State.clockStop_spec (s : State) (cause : Nat) :
    (s.clockStop cause).control = State.control { s.clockLost cause with
      sup := { s.sup with stopCause := stopCauseAfter s.sup.stopCause 3, sweeping := false, clearDue := false } } ∧
    (s.clockStop cause).tick = (s.clockLost cause).tick ∧
    (∀ n, n < 4 → s.outMode n ≠ 0 → ((s.clockStop cause).output n).held = 0x8000) ∧
    (s.clockStop cause).diag.events.head? =
      some ⟨BitVec.ofNat 32 (key 0x2011 3), s.tick.counter, BitVec.ofNat 32 s.clk.faults⟩ := by
  obtain ⟨hcontrol, htick, hheld⟩ := (s.clockLost cause).integrityStop_spec 3
  rw [s.clockStop_eq]
  generalize (s.clockLost cause).integrityStop 3 = v at hcontrol htick hheld
  obtain ⟨hunder, hevent⟩ := v.reported_spec 0x5000 v.sup.stopCause.toNat 0x2011 3 v.clk.faults
  simp only [State.underStop, Prod.mk.injEq] at hunder
  obtain ⟨hcontrol', htick', houts⟩ := hunder
  have hfaults : v.clk.faults = s.clk.faults := congrArg (·.1.faults) hcontrol
  have hcounter : v.tick.counter = s.tick.counter := by rw [htick]; rfl
  refine ⟨hcontrol'.trans hcontrol, htick'.trans htick, fun n hn hmode => ?_, ?_⟩
  · rw [← hheld n hn hmode, State.output, houts, State.output]
  · rw [hevent, hfaults, hcounter]

/-- The clocks after a first fault 01h–03h (R131, R132, R136, R137). -/
def ClockSt.lost (c : ClockSt) (t : TickNo) (cause : ClockCause) : ClockSt :=
  { c.note t (causeCode cause) with
    scKhz := khzAfter c.scKhz cause
    core := if causeCode cause = 3 then .system else .selfCheck
    pll := if causeCode cause = 3 then c.pll else 3
    scTry := false }

/-- The state in which a clock fault has entered the causes and the counts, and the generators stand (R131, R137, R330). -/
def State.faultNoted (s : State) (cause : ClockCause) (cyc : Nat) : State :=
  let s0 := if s.tick.on then s.at cyc else s
  ({ s0 with clk := { s0.clk.note s0.tick.counter (causeCode cause) with scKhz := khzAfter s.clk.scKhz cause } } : State).gensNow

/-- The instant of a fault moves triggers only, where the tick runs. -/
theorem State.atFault_control (s : State) (cyc : Nat) : (if s.tick.on then s.at cyc else s).control = s.control ∧
    (if s.tick.on then s.at cyc else s).tick.counter = s.tick.counter := by
  split
  · exact ⟨State.control_of_sameButTriggers (s.at_sameButTriggers cyc), by simp⟩
  · exact ⟨rfl, rfl⟩

/-- A fault that enters the causes and the counts changes nothing else of the control. -/
theorem State.faultNoted_spec (s : State) (cause : ClockCause) (cyc : Nat) :
    (s.faultNoted cause cyc).control = State.control { s with
      clk := { s.clk.note s.tick.counter (causeCode cause) with scKhz := khzAfter s.clk.scKhz cause } } ∧
    (s.faultNoted cause cyc).tick.counter = s.tick.counter := by
  obtain ⟨hcontrol, hcounter⟩ := s.atFault_control cyc
  unfold State.faultNoted
  generalize (if s.tick.on then s.at cyc else s) = v at hcontrol hcounter
  simp only [State.control, Prod.mk.injEq] at hcontrol
  obtain ⟨hclk, hsup, hactive, hshadow, hlive, hcom, hboot⟩ := hcontrol
  refine ⟨(State.gensNow_control _).trans ?_, by simpa using hcounter⟩
  simp only [State.control, hclk, hsup, hactive, hshadow, hlive, hcom, hboot, hcounter]

/-- The causes present are among them; without a clock fault 01h–03h none is one of these (R131). -/
theorem State.not_mem_causes_of_clockFault {s : State} (h : s.clockFault = false) {c : Nat} (hc : c ≤ 3) : c ∉ s.clk.causes :=
  fun hmem => List.any_eq_false.mp h c hmem (decide_eq_true hc)

/-- The codes of clock faults are 01h–03h (R131). -/
theorem causeCode_le (c : ClockCause) : causeCode c ≤ 3 := by
  cases c <;> simp [causeCode]

/-- A first clock fault, with a good clock left, is noted and stops the tick (R132, R138). -/
theorem State.clockFaultIn_of_first {s : State} {c : ClockCause} (hdetects : s.detects c = true) (hstate : s.pow.state ≠ .standby)
    (hfault : s.clockFault = false) (hcore : causeCode c = 3 → s.clk.core ≠ .selfCheck) (cyc : Nat) :
    s.clockFaultIn c cyc = (s.faultNoted c cyc).clockStop (causeCode c) := by
  have hnew := State.not_mem_causes_of_clockFault hfault (causeCode_le c)
  have hgood : noGoodClock s.clk (causeCode c) = false := by
    unfold noGoodClock
    split
    · simp [hcore ‹_›]
    · simp [State.not_mem_causes_of_clockFault hfault (le_refl 3)]
  simp [State.clockFaultIn, State.faultNoted, hdetects, hstate, hnew, hgood, hfault]

/-- A first clock fault, with a good clock left: control, tick, outputs and log (R131, R132, R136, R137, R485). -/
theorem State.clockFaultAll_of_first {s : State} {c : ClockCause} (hdetects : s.detects c = true) (hstate : s.pow.state ≠ .standby)
    (hfault : s.clockFault = false) (hcore : causeCode c = 3 → s.clk.core ≠ .selfCheck) (cyc : Nat) :
    (s.clockFaultAll c cyc).control = State.control { s with
      clk := s.clk.lost s.tick.counter c
      sup := { s.sup with stopCause := stopCauseAfter s.sup.stopCause 3, sweeping := false, clearDue := false } } ∧
    (s.clockFaultAll c cyc).tick.on = false ∧
    (∀ n, n < 4 → s.outMode n ≠ 0 → ((s.clockFaultAll c cyc).output n).held = 0x8000) ∧
    (s.clockFaultAll c cyc).diag.events.head? =
      some ⟨BitVec.ofNat 32 (key 0x2011 3), s.tick.counter, BitVec.ofNat 32 (satInc s.clk.faults)⟩ := by
  obtain ⟨hnoted, hcounter⟩ := s.faultNoted_spec c cyc
  rw [State.clockFaultAll, State.clockFaultIn_of_first hdetects hstate hfault hcore]
  generalize s.faultNoted c cyc = v at hnoted hcounter
  obtain ⟨hcontrol, htick, hheld, hevent⟩ := v.clockStop_spec (causeCode c)
  have hunder := (v.clockStop (causeCode c)).ringEvents_underStop s
  generalize v.clockStop (causeCode c) = w at hcontrol htick hheld hevent hunder
  simp only [State.underStop, Prod.mk.injEq] at hunder
  obtain ⟨hcontrol', htick', houts⟩ := hunder
  simp only [State.control, Prod.mk.injEq] at hnoted
  obtain ⟨hclk, hsup, hactive, hshadow, hlive, hcom, hboot⟩ := hnoted
  refine ⟨hcontrol'.trans (hcontrol.trans ?_), by rw [htick', htick]; rfl, fun n hn hmode => ?_, ?_⟩
  · simp only [State.control, State.clockLost, ClockSt.lost, ClockSt.note, hclk, hsup, hactive, hshadow, hlive, hcom, hboot]
  · rw [State.output, houts]
    exact hheld n hn (by rwa [State.outMode, State.acfg, hactive])
  · rw [State.ringEvents_events, hevent, hcounter, hclk]
    rfl

/-- R131, R132, R136, R137: a first clock fault 01h–03h of a clock that has run. -/
theorem clockFaultStopsTheTick : Claim.ClockFaultStopsTheTick := by
  intro s c cyc hcore hdetects hstate hfault hother
  obtain ⟨hcontrol, hon, hheld, hevent⟩ := State.clockFaultAll_of_first (s := s.begin) hdetects hstate hfault hother cyc
  have hcounter : (s.begin.clockFaultAll c cyc).tick.counter = s.tick.counter := by simp [State.begin]
  refine State.reaches_of_run (f := (·.clockFaultAll c cyc)) hcore rfl ?_
  rw [State.eq_of_apart (State.apart_settle _)]
  generalize s.begin.clockFaultAll c cyc = u at hcontrol hon hheld hevent hcounter
  obtain ⟨hclk, hsup, hconfig⟩ := State.control_eq_iff.mp hcontrol
  exact ⟨hon, congrArg ClockSt.causes hclk, congrArg ClockSt.faults hclk, congrArg ClockSt.tick hclk, congrArg ClockSt.core hclk,
    congrArg ClockSt.pll hclk, congrArg ClockSt.scKhz hclk, hevent, congrArg SupplySt.stopCause hsup,
    by simp [State.lanesRun, hon], hheld, hcounter, hconfig⟩

/-- A clock fault that leaves no good clock stops the core, and nothing else (R138). -/
theorem State.clockFaultAll_of_noGood {s : State} {c : ClockCause} (hdetects : s.detects c = true) (hstate : s.pow.state ≠ .standby)
    (hnew : causeCode c ∉ s.clk.causes) (hbad : if causeCode c = 3 then s.clk.core = .selfCheck else 3 ∈ s.clk.causes) (cyc : Nat) :
    s.clockFaultAll c cyc = s.coreStop := by
  have hnone : noGoodClock s.clk (causeCode c) = true := by
    unfold noGoodClock
    split at hbad <;> simp [*]
  have hstop : s.clockFaultIn c cyc = s.coreStop := by simp [State.clockFaultIn, hdetects, hstate, hnew, hnone]
  rw [State.clockFaultAll, hstop]
  exact State.ringEvents_of_same_rings rfl

/-- R138: the core stops for want of a good clock. -/
theorem noGoodClockStopsTheCore : Claim.NoGoodClockStopsTheCore := by
  intro s hcore
  refine ⟨fun c cyc hdetects hstate hnew hbad => ?_, fun hboot hstate hclock => ?_⟩
  · exact State.ends_of_run (f := (·.clockFaultAll c cyc)) hcore rfl
      (State.clockFaultAll_of_noGood (s := s.begin) hdetects hstate hnew hbad cyc)
  · exact State.ends_of_run hcore rfl (if_pos ⟨hboot, hstate, hclock⟩)

/-- Settles O32, clause by clause. -/
theorem clockFaults : Obligations.ClockFaults := ⟨clockFaultStopsTheTick, noGoodClockStopsTheCore⟩

end Sys2Proof.Machine
end

section
/-! PROOFS. Scans of the electrodes: SCAN_START, SCAN_END and WAKE_SCAN (R276–R278, R296, R297). -/
namespace Sys2Proof.Machine
open Sys2Proof

/-- Where the touch engine scans, a scan starts in a tick of its own where none runs and an electrode can be measured (R277). -/
theorem State.scanStart_of_allowed {s : State} (hallowed : s.scanAllowed = true) (hpart : s.tick.part = .prologue) :
    let els := (electrodesOn s.active).filter (fun i => !s.electrodeFault i)
    s.scanStart = if s.touch.scan = none ∧ s.tick.counter.toNat % s.acfg 0x2720 2 = 0 ∧ els ≠ [] then
      { s with touch := { s.touch with scan := some (s.tick.counter, els), dropped := [] } } else s := by
  intro els
  exact if_congr (by simp [hallowed, hpart, els, and_assoc]) rfl rfl

/-- R277: where a scan starts, and where none does. -/
theorem scansStartAtTheirTick : Claim.ScansStartAtTheirTick := by
  intro s hcore hon hpart hstate htouch els
  have hallowed : s.scanAllowed = true := by simp [State.scanAllowed, hon, hstate, htouch]
  have hstart := State.scanStart_of_allowed (s := s.begin) hallowed hpart
  refine ⟨fun hnone htick hels => ?_, fun hnot => ?_⟩
  · exact State.ends_of_run hcore rfl (hstart.trans (if_pos ⟨hnone, htick, hels⟩))
  · refine State.ends_of_run hcore rfl (hstart.trans (if_neg ?_))
    rintro ⟨hnone, htick, hels⟩
    exact hnot.elim (· hnone) (·.elim (· htick) hels)

/-- A change of one element leaves every other. -/
theorem State.elem_updElem_other (s : State) {i j : Nat} (h : j ≠ i) (f : ElemRt → ElemRt) : (s.updElem i f).elem j = s.elem j :=
  tget_tput_other _ _ _ _ _ h

/-- State `s` is `u` but for elements and what their events bring: records, marks and counts of the touch engine, and the counts of
event records a tick keeps; the scan, its counts and its dropped electrodes stay, and so does the tick's number. -/
structure State.sameButEvaluations (s u : State) : Prop where
  frame : s = { u with elems := s.elems, touch := s.touch, tick := s.tick, formed := s.formed }
  counter : s.tick.counter = u.tick.counter
  scan : s.touch.scan = u.touch.scan
  scans : s.touch.scans = u.touch.scans
  lastUs : s.touch.lastUs = u.touch.lastUs
  dropped : s.touch.dropped = u.touch.dropped

/-- Nothing changed is no evaluation. -/
theorem State.sameButEvaluations_refl (s : State) : s.sameButEvaluations s := ⟨rfl, rfl, rfl, rfl, rfl, rfl⟩

/-- Evaluations add up. -/
theorem State.sameButEvaluations_trans {s t u : State} (h : t.sameButEvaluations s) (k : s.sameButEvaluations u) : t.sameButEvaluations u :=
  ⟨by rw [h.frame, k.frame], h.counter.trans k.counter, h.scan.trans k.scan, h.scans.trans k.scans, h.lastUs.trans k.lastUs,
    h.dropped.trans k.dropped⟩

/-- An event of the touch chapter changes no element (R287–R289). -/
theorem State.touchEvent_sameButEvaluations (s : State) (route bit code source : Nat) (value : BitVec 32) (t : TickNo) (slot : Nat) :
    (s.touchEvent route bit code source value t slot).sameButEvaluations s ∧
      (s.touchEvent route bit code source value t slot).elems = s.elems := by
  unfold State.touchEvent
  extract_lets ring lost k s1 pend
  have h1 : s1.sameButEvaluations s ∧ s1.elems = s.elems := by
    dsimp only [s1]
    split
    · exact ⟨s.sameButEvaluations_refl, rfl⟩
    · split
      · exact ⟨⟨rfl, rfl, rfl, rfl, rfl, rfl⟩, rfl⟩
      · split
        · exact ⟨⟨rfl, (s.tick.takeTouch_keeps t _).1, rfl, rfl, rfl, rfl⟩, rfl⟩
        · exact ⟨⟨rfl, rfl, rfl, rfl, rfl, rfl⟩, rfl⟩
  split
  · exact h1
  · exact ⟨State.sameButEvaluations_trans ⟨rfl, rfl, rfl, rfl, rfl, rfl⟩ h1.1, h1.2⟩

/-- An evaluation changes its element by its judgement, and brings at most that element's event (R278, R281). -/
theorem State.evaluate_spec (s : State) (i : Nat) (m : Rat) (t : TickNo) :
    (s.evaluate i m t).sameButEvaluations s ∧ (∀ j, j ≠ i → (s.evaluate i m t).elem j = s.elem j) ∧
      (s.evaluate i m t).elem i = ((s.elem i).judge i (elemPar s.active i) (s.startBaseline i) m).1 := by
  have hupd := fun (j : Nat) (hj : j ≠ i) =>
    s.elem_updElem_other hj (fun _ => ((s.elem i).judge i (elemPar s.active i) (s.startBaseline i) m).1)
  unfold State.evaluate
  dsimp only
  split
  · obtain ⟨hframe, helems⟩ := State.touchEvent_sameButEvaluations (s.updElem i _) _ _ _ _ _ _ _
    refine ⟨State.sameButEvaluations_trans hframe ⟨rfl, rfl, rfl, rfl, rfl, rfl⟩, fun j hj => ?_, ?_⟩
    · exact (congrArg (tget _ · j) helems).trans (hupd j hj)
    · exact (congrArg (tget _ · i) helems).trans (s.elem_updElem ..)
  · exact ⟨⟨rfl, rfl, rfl, rfl, rfl, rfl⟩, hupd, s.elem_updElem ..⟩

/-- Whether a scan's measurement of electrode i is evaluated (R276, R297). -/
def State.evaluates (s : State) (i : Nat) : Bool :=
  (electrodesOn s.active).contains i && !s.electrodeFault i && !s.touch.dropped.contains i

/-- What the walk over a scan leaves out is what is not evaluated (R276, R297). -/
theorem State.leftOut_eq (s : State) (i : Nat) :
    (s.electrodeFault i || s.touch.dropped.contains i || !(electrodesOn s.active).contains i) = !s.evaluates i := by
  simp only [State.evaluates, Bool.not_and, Bool.not_not]
  ac_rfl

/-- Element i after the evaluation of a measurement of c fF (R276, R278). -/
def State.evaluated (s : State) (i c : Nat) : ElemRt :=
  (({ s.elem i with overRng := decide (200000 < c) } : ElemRt).judge i (elemPar s.active i) (s.startBaseline i)
    (readCap 2 c : Rat)).1

/-- Element i after the measurement of a scan: evaluated, or left out (R276, R278, R297). -/
def State.afterScan (s : State) (im : Nat × Nat) : ElemRt :=
  if s.evaluates im.1 then s.evaluated im.1 im.2 else s.elem im.1

/-- The baseline an electrode starts with does not hang on its mark of over range (R285). -/
theorem State.startBaseline_overRng (s : State) (i : Nat) (x : Bool) :
    (s.updElem i (fun r => { r with overRng := x })).startBaseline i = s.startBaseline i := by
  unfold State.startBaseline
  rw [State.elem_updElem]
  rfl

/-- What a step of a walk over measured electrodes has to meet, for the walk to give every electrode its next state: it moves only
the electrode's element, to what `next` says, and else what `R` lets change, of which `next` reads nothing. -/
structure IsElementStep (R : State → State → Prop) (f : State → Nat × Nat → State) (next : State → Nat × Nat → ElemRt) : Prop where
  refl : ∀ s, R s s
  trans : ∀ {s t u}, R t s → R s u → R t u
  frame : ∀ s im, R (f s im) s
  other : ∀ s im j, j ≠ im.1 → (f s im).elem j = s.elem j
  same : ∀ s im, (f s im).elem im.1 = next s im
  blind : ∀ {s u} im, R s u → s.elem im.1 = u.elem im.1 → next s im = next u im

/-- A walk over measured electrodes, each once, gives each its next state and leaves the other elements alone (R278, R296). -/
theorem IsElementStep.foldl {R : State → State → Prop} {f : State → Nat × Nat → State} {next : State → Nat × Nat → ElemRt}
    (h : IsElementStep R f next) (l : List (Nat × Nat)) (s : State) (hl : (l.map Prod.fst).Nodup) :
    R (l.foldl f s) s ∧ (∀ j, j ∉ l.map Prod.fst → (l.foldl f s).elem j = s.elem j) ∧
      (∀ im ∈ l, (l.foldl f s).elem im.1 = next s im) := by
  induction l generalizing s with
  | nil => exact ⟨h.refl s, fun _ _ => rfl, by simp⟩
  | cons im l ih =>
    rw [List.map_cons, List.nodup_cons] at hl
    obtain ⟨hframe, hothers, hall⟩ := ih (f s im) hl.2
    refine ⟨h.trans hframe (h.frame s im), fun j hj => ?_, fun jm hjm => ?_⟩
    · rw [List.map_cons, List.mem_cons, not_or] at hj
      exact (hothers j hj.2).trans (h.other s im j hj.1)
    · obtain rfl | hjm := List.mem_cons.mp hjm
      · exact (hothers jm.1 hl.1).trans (h.same s jm)
      · have hne : jm.1 ≠ im.1 := fun he => hl.1 (he ▸ List.mem_map_of_mem hjm)
        exact (hall jm hjm).trans (h.blind jm (h.frame s im) (h.other s im jm.1 hne))

/-- Paired with a list of measurements, the electrodes that have one are the first of the scan. -/
theorem map_fst_zip_eq_take {α β : Type} (l : List α) (ms : List β) : (l.zip ms).map Prod.fst = l.take ms.length := by
  induction l generalizing ms with
  | nil => simp
  | cons a l ih => cases ms <;> simp [ih]

/-- The same walk, over electrodes and their measurements in order. -/
theorem IsElementStep.foldl_zip {R : State → State → Prop} {f : State → Nat × Nat → State} {next : State → Nat × Nat → ElemRt}
    (h : IsElementStep R f next) (els ms : List Nat) (s : State) (hels : els.Nodup) :
    R ((els.zip ms).foldl f s) s ∧ (∀ j, j ∉ els.take ms.length → ((els.zip ms).foldl f s).elem j = s.elem j) ∧
      (∀ k i c : Nat, els[k]? = some i → ms[k]? = some c → ((els.zip ms).foldl f s).elem i = next s (i, c)) := by
  have hfst := map_fst_zip_eq_take els ms
  obtain ⟨hframe, hothers, hall⟩ := h.foldl (els.zip ms) s (hfst ▸ hels.sublist (List.take_sublist ..))
  rw [hfst] at hothers
  exact ⟨hframe, hothers, fun k i c hi hc =>
    hall (i, c) (List.mem_of_getElem? (List.getElem?_zip_eq_some.mpr ⟨hi, hc⟩))⟩

/-- What is left out of a scan is as it was (R297). -/
theorem State.afterScan_of_out {s : State} {im : Nat × Nat} (h : s.evaluates im.1 = false) : s.afterScan im = s.elem im.1 := by
  simp [State.afterScan, h]

/-- What a scan makes of an electrode hangs on its own element alone, not on the others or on events. -/
theorem State.afterScan_of_sameButEvaluations {s u : State} {im : Nat × Nat} (h : s.sameButEvaluations u)
    (he : s.elem im.1 = u.elem im.1) : s.afterScan im = u.afterScan im := by
  have hactive : s.active = u.active := by rw [h.frame]
  have hfault : s.electrodeFault = u.electrodeFault := by rw [h.frame]; rfl
  have hlive : s.lcfg = u.lcfg := by rw [h.frame]; rfl
  have hcfg : s.acfg = u.acfg := by rw [h.frame]; rfl
  have hsup : s.sup = u.sup := by rw [h.frame]
  simp only [State.afterScan, State.evaluates, State.evaluated, State.startBaseline, he, hactive, hfault, h.dropped, hlive, hcfg,
    hsup]

/-- The evaluation of one electrode (R276, R278). -/
theorem State.evaluate_measured (t : TickNo) (s : State) (i c : Nat) :
    let v := (s.updElem i (fun r => { r with overRng := decide (200000 < c) })).evaluate i (readCap 2 c : Rat) t
    v.sameButEvaluations s ∧ (∀ j, j ≠ i → v.elem j = s.elem j) ∧ v.elem i = s.evaluated i c := by
  obtain ⟨hframe, hothers, hone⟩ := State.evaluate_spec (s.updElem i (fun r => { r with overRng := decide (200000 < c) })) i
    (readCap 2 c : Rat) t
  refine ⟨State.sameButEvaluations_trans hframe ⟨rfl, rfl, rfl, rfl, rfl, rfl⟩, fun j hj => ?_, ?_⟩
  · exact (hothers j hj).trans (s.elem_updElem_other hj _)
  · rw [hone, State.elem_updElem, State.startBaseline_overRng]
    rfl

/-- One electrode at the end of a scan: evaluated, or left out (R276, R278, R297). -/
theorem State.measured_spec (t : TickNo) (s : State) (im : Nat × Nat) :
    (State.measured t s im).sameButEvaluations s ∧ (∀ j, j ≠ im.1 → (State.measured t s im).elem j = s.elem j) ∧
      (State.measured t s im).elem im.1 = s.afterScan im := by
  unfold State.measured State.afterScan
  rw [s.leftOut_eq]
  cases s.evaluates im.1
  · exact ⟨s.sameButEvaluations_refl, fun _ _ => rfl, rfl⟩
  · exact s.evaluate_measured t im.1 im.2

/-- The evaluation of one electrode is a step of the walk that ends a scan (R276, R278, R297). -/
theorem State.measured_isElementStep (t : TickNo) : IsElementStep State.sameButEvaluations (State.measured t) State.afterScan where
  refl := State.sameButEvaluations_refl
  trans := State.sameButEvaluations_trans
  frame s im := (s.measured_spec t im).1
  other s im := (s.measured_spec t im).2.1
  same s im := (s.measured_spec t im).2.2
  blind _ h he := State.afterScan_of_sameButEvaluations h he

/-- The state in which a scan that ends evaluates its electrodes: the scan is counted with its duration (R276, R278). -/
def State.scanCounted (s : State) (els : List Nat) : State :=
  { s with touch := { s.touch with
      scan := none, lastUs := (els.map (measureUs s.active)).sum, scans := satInc s.touch.scans } }

/-- A scan that ends outside a clock fault (R278). -/
theorem State.scanEnd_of_running {s : State} {t : TickNo} {els : List Nat} (hscan : s.touch.scan = some (t, els))
    (hfault : s.clockFault = false) (ms : List Nat) :
    s.scanEnd ms = (els.zip ms).foldl (State.measured t) (s.scanCounted els) := by
  simp [State.scanEnd, hscan, hfault, State.scanCounted]

/-- In a clock fault no scan ends (R132). -/
theorem State.scanEnd_of_clockFault {s : State} (hfault : s.clockFault = true) (ms : List Nat) : s.scanEnd ms = s := by
  unfold State.scanEnd
  split
  · rfl
  · exact if_pos hfault

/-- R276, R278, R297: the end of a scan. -/
theorem scansEndEvaluateTheirElectrodes : Claim.ScansEndEvaluateTheirElectrodes := by
  intro s ms n els hcore hscan hels measured
  refine ⟨fun hfault => State.ends_of_run (f := (·.scanEnd ms)) hcore rfl
    (State.scanEnd_of_clockFault (s := s.begin) hfault ms), fun hfault => ?_⟩
  obtain ⟨hframe, hothers, hall⟩ := (State.measured_isElementStep n).foldl_zip els ms (s.begin.scanCounted els) hels
  have hout : ∀ j, measured j = false → ((els.zip ms).foldl (State.measured n) (s.begin.scanCounted els)).elem j = s.elem j := by
    intro j hj
    by_cases hmem : j ∈ els.take ms.length
    · obtain ⟨k, hk, rfl⟩ := List.mem_take_iff_getElem.mp hmem
      obtain ⟨hms, hlt⟩ := lt_min_iff.mp hk
      exact (hall k _ _ (List.getElem?_eq_getElem hlt) (List.getElem?_eq_getElem hms)).trans (State.afterScan_of_out hj)
    · exact hothers j hmem
  refine State.reaches_of_run (f := (·.scanEnd ms)) hcore rfl ?_
  rw [State.scanEnd_of_running (s := s.begin) hscan hfault, State.eq_of_apart (State.apart_settle _)]
  generalize (els.zip ms).foldl (State.measured n) (s.begin.scanCounted els) = u at hframe hothers hall hout
  refine ⟨hframe.scan, hframe.scans, hframe.lastUs, fun k i c hi hc hin => ?_, fun i hi => ?_, ?_, hframe.counter⟩
  · exact (hall k i c hi hc).trans (if_pos hin)
  · exact hi.elim (hothers i) (hout i)
  · rw [hframe.frame]
    rfl

/-- One electrode of a wake scan (R296): consecutive hits are counted, a smaller change ends the row. -/
def State.afterWakeScan (s : State) (im : Nat × Nat) : ElemRt :=
  let hit := decide ((s.acfg (0x2700 + im.1) 14 : Rat) ≤ (readCap 50 im.2 : Rat) - (s.elem im.1).b)
  { s.elem im.1 with wakeHits := if hit then (s.elem im.1).wakeHits + 1 else 0 }

/-- One step of a wake scan's walk. -/
def State.wakeMeasured (s : State) (im : Nat × Nat) : State := s.updElem im.1 (fun _ => s.afterWakeScan im)

/-- State `s` is `u` but for its elements. -/
def State.sameButElems (s u : State) : Prop := s = { u with elems := s.elems }

/-- A wake scan changes the elements it measures, and nothing else (R296). -/
theorem State.wakeMeasured_isElementStep : IsElementStep State.sameButElems State.wakeMeasured State.afterWakeScan where
  refl _ := rfl
  trans {s t u} h k := by
    unfold State.sameButElems at *
    rw [h, k]
  frame _ _ := rfl
  other s _ _ hj := s.elem_updElem_other hj _
  same s _ := s.elem_updElem _ _
  blind {s u} im h he := by
    unfold State.sameButElems at h
    have hcfg : s.acfg = u.acfg := by rw [h]; rfl
    simp only [State.afterWakeScan, hcfg, he]

/-- Every step of a wake scan is that step (R296). -/
theorem State.wakeScan_eq {s : State} (hstate : s.pow.state = .standby) (htouch : s.acfg 0x2720 1 = 2) (ms : List Nat) :
    s.wakeScan ms = (s.wakeElectrodes.zip ms).foldl State.wakeMeasured s := by
  unfold State.wakeScan
  rw [if_pos ⟨hstate, htouch⟩]
  congr 1
  funext acc im
  simp [State.wakeMeasured, State.updElem, State.afterWakeScan]

/-- R296, R297: a wake scan. -/
theorem wakeScansCountHits : Claim.WakeScansCountHits := by
  intro s ms hcore
  refine ⟨fun hnot => ?_, fun hstate htouch hels => ?_, fun i => ?_⟩
  · exact State.ends_of_run (f := (·.wakeScan ms)) hcore rfl
      (if_neg fun ⟨hstate, htouch⟩ => hnot.elim (· hstate) (· htouch))
  · obtain ⟨hframe, hothers, hall⟩ := State.wakeMeasured_isElementStep.foldl_zip s.begin.wakeElectrodes ms s.begin hels
    refine State.reaches_of_run (f := (·.wakeScan ms)) hcore rfl ?_
    rw [State.wakeScan_eq (s := s.begin) hstate htouch, State.eq_of_apart (State.apart_settle _)]
    refine ⟨hall, hothers, ?_⟩
    unfold State.sameButElems at hframe
    generalize (s.begin.wakeElectrodes.zip ms).foldl State.wakeMeasured s.begin = u at hframe
    rw [hframe]
    rfl
  · simp [State.wakeElectrodes]

/-- Settles O40, clause by clause. -/
theorem touchScans : Obligations.TouchScans := ⟨scansStartAtTheirTick, scansEndEvaluateTheirElectrodes, wakeScansCountHits⟩

end Sys2Proof.Machine
end

section
/-! PROOFS. Pin faults, excitation and VREFO readings, and what pins do (R142, R144, R145, R152, R173, R323, R491, R514, R529). -/
namespace Sys2Proof.Machine
open Sys2Proof

/-- A core that runs and is out of reset is at work (R138, R146). -/
theorem State.alive_of_coreRuns {s : State} (hcore : s.coreRuns = true) (hboot : s.boot ≠ .inReset) : s.alive = true := by
  simpa [State.alive, State.coreRuns, hboot] using hcore

/-- A change of one pin leaves every other. -/
theorem State.pin_updPin_other (s : State) {x y : Nat} (h : y ≠ x) (f : PinRt → PinRt) : (s.updPin x f).pin y = s.pin y :=
  tget_tput_other _ _ _ _ _ h

/-- A source read after a change of it. -/
@[simp] theorem State.source_updSource (s : State) (e : Nat) (f : SourceRt → SourceRt) :
    (s.updSource e f).source e = f (s.source e) :=
  tget_tput_same ..

/-- A change of one source leaves every other. -/
theorem State.source_updSource_other (s : State) {e k : Nat} (h : k ≠ e) (f : SourceRt → SourceRt) :
    (s.updSource e f).source k = s.source k :=
  tget_tput_other _ _ _ _ _ h

/-- What the roles of a pin in fault leave alone (R145): everything but slots, lanes, sources, electrodes, calibration and event log,
and what the end of a command changes. -/
def State.besideRoles (s : State) : State :=
  { s.apart with slots := [], lanes := [], sources := [], elems := [], touch := {}, cal := {}, diag := {} }

/-- States that agree beside the roles of their pins agree in pins, configuration, results and time. -/
theorem State.same_of_besideRoles {s u : State} (h : s.besideRoles = u.besideRoles) :
    s.pins = u.pins ∧ s.sameConfig u ∧ s.sameResults u ∧ s.sameTime u := by
  have hof {α : Type} (g : State → α) : g s.besideRoles = g u.besideRoles := congrArg g h
  exact ⟨hof (·.pins), ⟨hof (·.active), hof (·.shadow), hof (·.live), hof (·.com), hof (·.boot)⟩,
    ⟨hof (·.formed), hof (·.rings), hof (·.ledger), hof (·.whey)⟩, ⟨hof (·.tick), hof (·.clk), hof (·.pow)⟩⟩

/-- The end of a command touches no role of a pin. -/
theorem State.settle_besideRoles (s : State) : s.settle.besideRoles = s.besideRoles :=
  congrArg (fun u : State =>
    { u with slots := [], lanes := [], sources := [], elems := [], touch := {}, cal := {}, diag := {} }) s.apart_settle

/-- The end of a command leaves the sources alone. -/
theorem State.settle_source (s : State) (e : Nat) : s.settle.source e = s.source e := by
  rw [State.eq_of_apart s.apart_settle]
  rfl

/-- The end of a command leaves the lanes alone. -/
theorem State.settle_lanes (s : State) : s.settle.lanes = s.lanes := by rw [State.eq_of_apart s.apart_settle]

/-- A source with a pin in fault: all four connections open, PIN-FAULT set (R145, R152). -/
def SourceRt.isolated (r : SourceRt) : SourceRt := { r.open with pinFault := true }

/-- A pin fault isolates a source that has the pin, and leaves every other source as it was (R145). -/
theorem State.sourceFault_source (x : Nat) (s : State) (e k : Nat) : (s.sourceFault x e).source k =
    if k = e ∧ x ∈ sourcePins s.active e then (s.source k).isolated else s.source k := by
  have hupd : (s.updSource e (fun _ => (s.source e).isolated)).source k =
      if k = e then (s.source k).isolated else s.source k := by
    by_cases hk : k = e
    · subst hk
      simp
    · rw [s.source_updSource_other hk, if_neg hk]
  unfold State.sourceFault
  by_cases hx : x ∈ sourcePins s.active e
  · rw [if_pos (List.contains_iff_mem.mpr hx)]
    simp only [hx, and_true]
    split <;> exact hupd
  · simp [hx]

/-- A walk over sources isolates those listed that have the pin, however often they are listed (R145). -/
theorem State.sourceFaults_source (x : Nat) (l : List Nat) (s : State) (k : Nat) : (l.foldl (State.sourceFault x) s).source k =
    if k ∈ l ∧ x ∈ sourcePins s.active k then (s.source k).isolated else s.source k := by
  induction l generalizing s with
  | nil => simp
  | cons e l ih =>
    obtain ⟨_, _, _, hactive, _⟩ := State.sourceFault_keeps x s e
    have hagain : (s.source k).isolated.isolated = (s.source k).isolated := rfl
    simp only [List.foldl_cons, ih, State.sourceFault_source, hactive, List.mem_cons]
    by_cases hk : k = e
    · subst hk
      by_cases hx : x ∈ sourcePins s.active k <;> simp [hx, hagain]
    · simp [hk]

/-- A source that opens changes itself and the event log. -/
theorem State.sourceFault_besideRoles (x : Nat) (s : State) (e : Nat) : (s.sourceFault x e).besideRoles = s.besideRoles := by
  unfold State.sourceFault
  dsimp only
  split
  · split <;> rfl
  · rfl

/-- An electrode whose count restarts changes itself and the scan. -/
theorem State.electrodeRestart_besideRoles (x : Nat) (s : State) (i : Nat) :
    (s.electrodeRestart x i).besideRoles = s.besideRoles ∧ (s.electrodeRestart x i).sources = s.sources := by
  unfold State.electrodeRestart
  split <;> exact ⟨rfl, rfl⟩

/-- A calibration that a pin fault ends touches no source (R353). -/
theorem State.calOpen_besideRoles (s : State) (n : Nat) :
    (s.calOpen n).besideRoles = s.besideRoles ∧ (s.calOpen n).sources = s.sources := by
  unfold State.calOpen
  split <;> exact ⟨rfl, rfl⟩

/-- A pin as the entry of a fault at tick `t` leaves it (R144). -/
def PinRt.faulted (p : PinRt) (above : Bool) (t : TickNo) : PinRt :=
  { fault := if above then 1 else 2, left := false, entries := satInc p.entries, tick := t }

/-- The pin is isolated and its entry logged; running conversions that measure it are marked (R144, R145). -/
def State.pinIsolated (s : State) (x : Nat) (above : Bool) : State :=
  let s1 := (s.updPin x (·.faulted above s.tick.counter)).event (0x2100 + x) 4 (if above then 1 else 2 : BitVec 8).toNat
  { s1 with lanes := tmapVals (fun _ => {}) (fun _ => markConv s.active x) s1.lanes }

/-- The sources have met the fault of pin x (R145). -/
def State.sourcesFaulted (s : State) (x : Nat) (above : Bool) : State :=
  (sourcesOn s.active).foldl (State.sourceFault x) (s.pinIsolated x above)

/-- The sources and then the electrodes have met the fault of pin x (R145). -/
def State.rolesFaulted (s : State) (x : Nat) (above : Bool) : State :=
  (electrodesOn s.active).foldl (State.electrodeRestart x) (s.sourcesFaulted x above)

/-- A pin that was not in fault enters it: the pin, its roles, and the calibration that measures it (R144, R145, R353). -/
theorem State.pinFaultEntry_of_inRange {s : State} {x : Nat} (halive : s.alive = true) (hfault : (s.pin x).fault = 0)
    (above : Bool) : s.pinFaultEntry x above =
      if s.cal.system ∧ (slotCfg s.active s.cal.slot 3 = x ∨ slotCfg s.active s.cal.slot 4 = x) then
        (s.rolesFaulted x above).calOpen s.cal.slot else s.rolesFaulted x above :=
  if_pos (by simp [halive, hfault])

/-- The roles of the pin change nothing beside themselves, and every source with the pin is isolated (R145). -/
theorem State.rolesFaulted_spec (s : State) (x : Nat) (above : Bool) :
    (s.rolesFaulted x above).besideRoles = (s.updPin x (·.faulted above s.tick.counter)).besideRoles ∧
    ∀ e ∈ sourcesOn s.active, x ∈ sourcePins s.active e → (s.rolesFaulted x above).source e = (s.source e).isolated := by
  refine ⟨?_, fun e he hx => ?_⟩
  · calc (s.rolesFaulted x above).besideRoles
      _ = (s.sourcesFaulted x above).besideRoles := foldl_keeps _ _ (fun u i => (u.electrodeRestart_besideRoles x i).1) _ _
      _ = (s.pinIsolated x above).besideRoles := foldl_keeps _ _ (State.sourceFault_besideRoles x) _ _
      _ = (s.updPin x (·.faulted above s.tick.counter)).besideRoles := rfl
  · have hsources : (s.rolesFaulted x above).sources = (s.sourcesFaulted x above).sources :=
      foldl_keeps _ _ (fun u i => (u.electrodeRestart_besideRoles x i).2) _ _
    calc (s.rolesFaulted x above).source e
      _ = (s.sourcesFaulted x above).source e := congrArg (tget _ · e) hsources
      _ = (s.source e).isolated := (State.sourceFaults_source x _ _ e).trans (if_pos ⟨he, hx⟩)

/-- The whole entry keeps what is beside the roles of the pin, and isolates every source with the pin (R144, R145). -/
theorem State.pinFaultEntry_spec {s : State} {x : Nat} (halive : s.alive = true) (hfault : (s.pin x).fault = 0) (above : Bool) :
    (s.pinFaultEntry x above).besideRoles = (s.updPin x (·.faulted above s.tick.counter)).besideRoles ∧
    ∀ e ∈ sourcesOn s.active, x ∈ sourcePins s.active e → (s.pinFaultEntry x above).source e = (s.source e).isolated := by
  obtain ⟨hroles, hopen⟩ := s.rolesFaulted_spec x above
  obtain ⟨hcal, hkeep⟩ := (s.rolesFaulted x above).calOpen_besideRoles s.cal.slot
  rw [State.pinFaultEntry_of_inRange halive hfault]
  split
  · exact ⟨hcal.trans hroles, fun e he hx => (congrArg (tget _ · e) hkeep).trans (hopen e he hx)⟩
  · exact ⟨hroles, hopen⟩

/-- R144, R145: a fault of one pin. -/
theorem pinFaultIsolatesThePin : Claim.PinFaultIsolatesThePin := by
  intro s x hcore hboot
  have halive := State.alive_of_coreRuns hcore hboot
  refine ⟨fun above hfault => ?_, fun hfault => ?_⟩
  · obtain ⟨hroles, hopen⟩ := State.pinFaultEntry_spec (s := s.begin) halive hfault above
    obtain ⟨hpins, hconfig, hresults, htime⟩ := State.same_of_besideRoles ((State.settle_besideRoles _).trans hroles)
    have hpin := fun y : Nat => congrArg (tget (fun _ => ({} : PinRt)) · y) hpins
    refine State.reaches_of_run (f := (·.pinFaultEntry x.val above)) hcore rfl
      ⟨(hpin x).trans (s.begin.pin_updPin ..), fun y hy => (hpin y).trans (s.begin.pin_updPin_other hy _), fun e he hx => ?_,
        hconfig, hresults, htime⟩
    rw [State.settle_source, hopen e he hx]
    exact ⟨rfl, rfl⟩
  · exact State.ends_of_run (f := (·.pinFaultExit x.val)) hcore rfl
      (if_pos (by simpa using ⟨halive, hfault⟩))

/-- Source e after a reading: CLIP is judged in voltage mode, COMPLIANCE in current mode, and the current is kept (R152). -/
def State.judged (s : State) (e i need avdd : Nat) : SourceRt :=
  let volt := decide (s.acfg (0x2140 + e) 2 = 0)
  { s.source e with
    clip := volt && (decide (avdd < need + 200000) || decide (30000000 ≤ i))
    compl := !volt && decide (avdd < need + 500000), currentNa := i }

/-- A reading of a closed source that is not OFF changes that source, and otherwise at most the event log (R152). -/
theorem State.excitationReading_spec {s : State} {e : Nat} (hon : s.tick.on = true) (hmode : s.acfg (0x2140 + e) 1 ≠ 0)
    (hclosed : (s.source e).isOpen = false) (i need avdd : Nat) :
    (s.excitationReading e i need avdd).sources = (s.updSource e (fun _ => s.judged e i need avdd)).sources ∧
    (s.excitationReading e i need avdd).besideRoles = s.besideRoles ∧ (s.excitationReading e i need avdd).lanes = s.lanes := by
  unfold State.excitationReading
  dsimp only
  rw [if_pos (by simp [hon, hmode, hclosed])]
  split <;> exact ⟨rfl, rfl, rfl⟩

/-- R152: a reading of a source. -/
theorem excitationReadingsAreJudged : Claim.ExcitationReadingsAreJudged := by
  intro s e i need avdd hcore hon hmode hclosed volt
  obtain ⟨hsources, hbeside, hlanes⟩ := State.excitationReading_spec (s := s.begin) hon hmode hclosed i need avdd
  obtain ⟨_, hconfig, hresults, htime⟩ := State.same_of_besideRoles ((State.settle_besideRoles _).trans hbeside)
  have hsource := fun k : Nat => (State.settle_source _ k).trans (congrArg (tget (fun _ => ({} : SourceRt)) · k) hsources)
  exact State.reaches_of_run (f := (·.excitationReading e.val i need avdd)) hcore rfl
    ⟨(hsource e).trans (s.begin.source_updSource ..), fun k hk => (hsource k).trans (s.begin.source_updSource_other hk _),
      hconfig, hresults, htime, (State.settle_lanes _).trans hlanes⟩

/-- A reading of VREFO while the converter runs (R173, R514). -/
theorem State.vrefoReading_of_converterOn {s : State} (hon : s.converterOn = true) (uv : BitVec 32) :
    s.vrefoReading uv = { s with sense := { s.sense with
      vrefoUv := uv, vrefoOut := decide (uv.toNat < 2498000 ∨ 2502000 < uv.toNat) } } := by
  simp [State.vrefoReading, hon, Bool.decide_or]

/-- R173, R514: a reading of VREFO. -/
theorem vrefoReadingIsJudged : Claim.VrefoReadingIsJudged := by
  intro s uv hcore hon
  exact State.ends_of_run (f := (·.vrefoReading uv)) hcore rfl (State.vrefoReading_of_converterOn (s := s.begin) hon uv)

/-- Below 2.5 V of VIO a logic output is high impedance, whatever drives it (R529). -/
theorem State.logic_of_low {s : State} (h : s.sup.vioMv < 2500) (d : Drive) : s.logic d = .highZ :=
  if_neg (by simpa [State.vioOn] using h)

/-- With VIO up a logic output has its level (R529). -/
theorem State.logic_of_up {s : State} (h : 2500 ≤ s.sup.vioMv) (d : Drive) : s.logic d = d :=
  if_pos (by simpa [State.vioOn] using h)

/-- Every output that R529 names is a logic output. -/
theorem State.drive_of_low {s : State} (h : s.sup.vioMv < 2500) (sel : Bool) (k : Fin 4) {p : OutPin}
    (hp : p ∈ [OutPin.tickout, .mon k, .wake, .inta, .intb, .sdo, .ctxd, .svc]) : s.drive sel p = .highZ := by
  simp only [List.mem_cons, List.not_mem_nil, or_false] at hp
  obtain rfl | rfl | rfl | rfl | rfl | rfl | rfl | rfl := hp <;> exact State.logic_of_low h _

/-- A crosspoint pin is driven in RUN, with a role, and with its switches closed (R142, R144, R491). -/
theorem State.drive_xp_of_open {s : State} {x : Fin 40}
    (h : s.boot ≠ .running ∨ roleBits s.active x.val = 0 ∨ (s.pin x.val).fault ≠ 0) (sel : Bool) :
    s.drive sel (.xp x) = .highZ := by
  refine if_neg fun hon => ?_
  simp only [Bool.and_eq_true, decide_eq_true_eq] at hon
  obtain ⟨⟨⟨hrun, hrole⟩, hfault⟩, _⟩ := hon
  exact h.elim (· hrun) (·.elim hrole (· hfault))

/-- An output is driven in RUN and outside HIZ (R323, R491). -/
theorem State.drive_out_of_open {s : State} {n : Fin 4} (h : s.boot ≠ .running ∨ (s.output n.val).hiZ = true) (sel : Bool) :
    s.drive sel (.out n) = .highZ := by
  refine if_neg ?_
  obtain h | h := h <;> simp [h]

/-- VREFO is driven in RUN, outside STANDBY, where 2210h.05 is 1 (R173, R491). -/
theorem State.drive_vrefo (s : State) (sel : Bool) : s.drive sel .vrefo =
    if s.boot = .running ∧ s.pow.state ≠ .standby ∧ s.acfg 0x2210 5 = 1 then .active else .highZ := by
  simp [State.drive, and_assoc]

/-- Before tick 0 TICKOUT and MON are low where VIO is up (R491). -/
theorem State.drive_low_of_not_running {s : State} (hboot : s.boot ≠ .running) (hvio : 2500 ≤ s.sup.vioMv) (sel : Bool) (k : Fin 4) :
    s.drive sel .tickout = .low ∧ s.drive sel (.mon k) = .low := by
  simp [State.drive, State.logic_of_up hvio, hboot, level]

/-- R142, R145, R173, R323, R491, R529: what pins do. -/
theorem pinsFollowTheState : Claim.PinsFollowTheState := by
  intro s sel x n k
  refine ⟨fun hvio p hp => State.drive_of_low hvio sel k hp, fun hboot => ⟨?_, ?_, ?_, fun hvio => ?_⟩, fun h => ?_, fun h => ?_,
    fun hboot hstate => ?_⟩
  · exact State.drive_xp_of_open (.inl hboot) sel
  · exact State.drive_out_of_open (.inl hboot) sel
  · exact (s.drive_vrefo sel).trans (if_neg fun hon => hboot hon.1)
  · exact State.drive_low_of_not_running hboot hvio sel k
  · exact State.drive_xp_of_open (.inr h.symm) sel
  · exact State.drive_out_of_open (.inr h) sel
  · rw [s.drive_vrefo]
    simp [hboot, hstate]

/-- Settles O36, clause by clause. -/
theorem crosspointEvents : Obligations.CrosspointEvents :=
  ⟨pinFaultIsolatesThePin, excitationReadingsAreJudged, vrefoReadingIsJudged, pinsFollowTheState⟩

end Sys2Proof.Machine
end

section
/-! PROOFS. Fault clears, pending bits and capture registers (R192, R289, R307, R309, R311, R336, R337). -/
namespace Sys2Proof.Machine
open Sys2Proof

/-- An admitted write of an entry from 2600h that is no commit entry ends in its live effect (R392–R394). -/
theorem ends_of_liveHigh {i : Instr} {s t : State} {v : Via} {idx sub : Nat} {data : List Byte}
    (hw : writes i = some (v, idx, sub, data)) (hadm : s.admits v idx sub data)
    (hlive : ∀ e, entryOf idx sub = some e → e.apply ≠ .commit) (hidx : 0x2600 ≤ idx)
    (heffect : (s.heard v).liveHigh v idx sub (leNum data) = t) : Ends i s (t.complete v) :=
  ends_of_admits hw hadm fun e he => (State.writeEffect_of_high (hlive e he) hidx ..).trans heffect

/-- The fault clear of a lane is no commit entry (R192). -/
theorem apply_of_laneClear {l : Fin 5} {e : Entry} (h : entryOf (0x2200 + l.val) 4 = some e) : e.apply ≠ .commit := by
  fin_cases l <;> cases h <;> exact nofun

/-- The fault clear of a monitor is no commit entry (R311). -/
theorem apply_of_monitorClear {m : Fin 16} {e : Entry} (h : entryOf (0x2800 + m.val) 11 = some e) : e.apply ≠ .commit := by
  rw [entryOf_monitor] at h
  cases h
  exact nofun

/-- The fault clear of an output is no commit entry (R336). -/
theorem apply_of_outputClear {n : Fin 4} {e : Entry} (h : entryOf (0x2900 + n.val) 12 = some e) : e.apply ≠ .commit := by
  fin_cases n <;> cases h <;> exact nofun

/-- The entries whose bits clear what is pending, and the re-arm of the capture registers: index and sub-index. -/
def bitClears : List (Nat × Nat) := [(0x2720, 9), (0x2810, 11), (0x2811, 0x21), (0x2920, 5)]

/-- None of them is a commit entry (R289, R307, R309, R337). -/
theorem apply_of_bitClears {idx sub : Nat} (hmem : (idx, sub) ∈ bitClears) {e : Entry} (h : entryOf idx sub = some e) :
    e.apply ≠ .commit := by
  have hall : ∀ p ∈ bitClears, (entryOf p.1 p.2).all (fun e => e.apply ≠ .commit) = true := by decide
  simpa [h] using hall _ hmem

/-- A live write of a lane is its fault clear (R192). -/
theorem State.liveLow_of_lane {l : Nat} (hl : l < 5) (s : State) (v : Via) (sub x : Nat) :
    s.liveLow v (0x2200 + l) sub x = s.faultClear l := by
  unfold State.liveLow
  iterate 4 rw [if_neg (by omega)]
  rw [if_pos (by omega), Nat.add_sub_cancel_left]

/-- A live write of 2800h+m.0B is the fault clear of monitor m (R311). -/
theorem State.liveHigh_of_monitorClear {m : Nat} (hm : m < 16) (s : State) (v : Via) (x : Nat) :
    s.liveHigh v (0x2800 + m) 11 x = s.monClear m := by
  unfold State.liveHigh
  rw [if_neg (by omega), if_pos (by omega), Nat.add_sub_cancel_left]

/-- A live write of an output but for its static code is its fault clear (R336). -/
theorem State.liveHigh_of_outputClear {n sub : Nat} (hn : n < 4) (hsub : sub ≠ 6) (s : State) (v : Via) (x : Nat) :
    s.liveHigh v (0x2900 + n) sub x = s.outClear n v.cyc := by
  unfold State.liveHigh
  iterate 6 rw [if_neg (by omega)]
  rw [if_pos (by omega), Nat.add_sub_cancel_left]

/-- A monitor in fault whose clear does not wait yet waits for good readings from now on (R311). -/
theorem State.monClear_eq (s : State) (m : Nat) : s.monClear m =
    if (s.monitor m).faulted = true ∧ (s.monitor m).clearReq = false then
      s.updMonitor m (fun r => { r with clearReq := true, okLow := false, okHigh := false })
    else s := by
  simp [State.monClear]

/-- An output in fault whose clear does not wait yet waits for a good reading after this instant (R336). -/
theorem State.outClear_eq (s : State) (n cyc : Nat) : s.outClear n cyc =
    if (s.output n).fault = true ∧ (s.output n).clearReq = none then
      s.updOutput n (fun r => { r with clearReq := some (cyc : Int), clearOk := false })
    else s := by
  simp [State.outClear]

/-- R192, R311, R336: the three fault clears. -/
theorem faultClearsAreRequested : Claim.FaultClearsAreRequested := by
  intro s v h
  refine ⟨fun l hadm => ?_, fun m hadm => ?_, fun n hadm => ?_⟩
  · exact ends_of_admits rfl hadm fun e he =>
      (State.writeEffect_of_low (apply_of_laneClear he) (by omega) ..).trans (State.liveLow_of_lane l.isLt ..)
  · exact ends_of_liveHigh rfl hadm (fun _ he => apply_of_monitorClear he) (by omega)
      ((State.liveHigh_of_monitorClear m.isLt ..).trans (State.monClear_eq ..))
  · exact ends_of_liveHigh rfl hadm (fun _ he => apply_of_outputClear he) (by omega)
      ((State.liveHigh_of_outputClear n.isLt (by decide) ..).trans (State.outClear_eq ..))

/-- A word of n bytes, sent little-endian, is read back whole (R1). -/
theorem ofNat_leNum_leBytes (n : Nat) {w : Nat} (hw : 8 * n = w) (m : BitVec w) :
    BitVec.ofNat w (leNum (leBytes n m.toNat)) = m := by
  subst hw
  have hlt : m.toNat < 256 ^ n := m.isLt.trans_eq (Nat.pow_mul 2 8 n)
  rw [leNum_leBytes n _ hlt, BitVec.ofNat_toNat, BitVec.setWidth_eq]

/-- The number that one byte spells, in any width. -/
theorem ofNat_leNum_byte (w : Nat) (m : Byte) : BitVec.ofNat w (leNum [m]) = m.setWidth w := by
  simp [leNum, BitVec.ofNat_toNat]

/-- A live write of 2720h clears the pending bits it names (R289). -/
theorem State.liveHigh_of_touchPending (s : State) (v : Via) (sub x : Nat) : s.liveHigh v 0x2720 sub x =
    { s with touch := { s.touch with pending := s.touch.pending &&& ~~~BitVec.ofNat 64 x } } := rfl

/-- A live write of 2810h clears the pending bits it names (R307). -/
theorem State.liveHigh_of_monitorPending (s : State) (v : Via) (sub x : Nat) :
    s.liveHigh v 0x2810 sub x = s.monPendClear (BitVec.ofNat 32 x) := rfl

/-- A live write of 2811h re-arms the capture registers it names (R309). -/
theorem State.liveHigh_of_capture (s : State) (v : Via) (sub x : Nat) :
    s.liveHigh v 0x2811 sub x = s.capRearm (BitVec.ofNat 8 x) := rfl

/-- A live write of 2920h clears the pending bits it names (R337). -/
theorem State.liveHigh_of_faultPending (s : State) (v : Via) (sub x : Nat) :
    s.liveHigh v 0x2920 sub x = { s with outPend := s.outPend &&& ~~~BitVec.ofNat 4 x } := rfl

/-- R289, R307, R309, R337: the four masks. -/
theorem pendingBitsClearWhereOnesAreWritten : Claim.PendingBitsClearWhereOnesAreWritten := by
  intro s v h
  refine ⟨fun m hadm => ?_, fun m hadm => ?_, fun m hadm => ?_, fun m hadm => ?_⟩ <;>
    refine ends_of_liveHigh rfl hadm (fun _ he => apply_of_bitClears (by decide) he) (by decide) ?_
  · rw [State.liveHigh_of_touchPending, ofNat_leNum_leBytes 8 rfl]
  · rw [State.liveHigh_of_monitorPending, ofNat_leNum_leBytes 4 rfl, State.monPendClear]
  · rw [State.liveHigh_of_faultPending, ofNat_leNum_byte]
  · rw [State.liveHigh_of_capture, ofNat_leNum_byte, BitVec.setWidth_eq, State.capRearm]

/-- Settles O17, clause by clause. -/
theorem clearsAndPendingBits : Obligations.ClearsAndPendingBits :=
  ⟨faultClearsAreRequested, pendingBitsClearWhereOnesAreWritten⟩

end Sys2Proof.Machine
end

section
/-! PROOFS. What the rotation, measured points and verdicts leave alone, and the end of a command on lanes and calibration (R178–R182,
R353, R356). -/
namespace Sys2Proof.Machine
open Sys2Proof

/-- What handovers and phases, measured points and verdicts leave alone: what is beside the roles of a pin, but for the rotation. -/
def State.besideQuad (s : State) : State := { s.besideRoles with quad := {} }

/-- States that agree beside the rotation agree in configuration, results and time. -/
theorem State.same_of_besideQuad {s u : State} (h : s.besideQuad = u.besideQuad) :
    s.sameConfig u ∧ s.sameResults u ∧ s.sameTime u := by
  have hof {α : Type} (g : State → α) : g s.besideQuad = g u.besideQuad := congrArg g h
  exact ⟨⟨hof (·.active), hof (·.shadow), hof (·.live), hof (·.com), hof (·.boot)⟩,
    ⟨hof (·.formed), hof (·.rings), hof (·.ledger), hof (·.whey)⟩, ⟨hof (·.tick), hof (·.clk), hof (·.pow)⟩⟩

/-- What is beside the roles of a pin includes what is beside the rotation. -/
theorem State.besideQuad_of_besideRoles {s u : State} (h : s.besideRoles = u.besideRoles) : s.besideQuad = u.besideQuad :=
  congrArg (fun w : State => { w with quad := {} }) h

/-- The end of a command is beside the rotation. -/
theorem State.settle_besideQuad (s : State) : s.settle.besideQuad = s.besideQuad :=
  State.besideQuad_of_besideRoles s.settle_besideRoles

/-- The end of a command leaves the rotation alone. -/
theorem State.settle_quad (s : State) : s.settle.quad = s.quad := by rw [State.eq_of_apart s.apart_settle]

/-- The end of a command leaves the calibration alone. -/
theorem State.settle_cal (s : State) : s.settle.cal = s.cal := by rw [State.eq_of_apart s.apart_settle]

/-- A verdict marks the calibrated slot, ends the calibration and logs an event (R356). -/
theorem State.verdict_spec (s : State) (v : Verdict) (cause : Nat) : (s.verdict v cause).cal = s.verdictCal v cause ∧
    (s.verdict v cause).lanes = s.lanes ∧ (s.verdict v cause).besideRoles = s.besideRoles := ⟨rfl, rfl, rfl⟩

end Sys2Proof.Machine
end

section
/-! PROOFS. Measured points and the timeout of a calibration (R177, R178, R350, R353). -/
namespace Sys2Proof.Machine
open Sys2Proof

/-- Codes that differ give a measurement (R178). -/
theorem measurement_of_ne {z sp : Int} (h : sp ≠ z) :
    measurement z sp = some ((z : Rat), (7864320 : Rat) / ((sp - z : Int) : Rat) - 1) := if_neg h

/-- A lane with one more new value of a point, which acts from the next boundary on (R178). -/
def LaneRt.addPoint (j : Nat) (m : Rat × Rat) (r : LaneRt) : LaneRt := { r with newPoints := r.newPoints ++ [(j, m)] }

/-- A measurement within its limits, of a point the rotation measures on a lane without fault, adds the smoothed point (R177,
R178). -/
theorem State.quadMeasure_of_within {s : State} {p j : Nat} {z sp : Int} {m : Rat × Rat} (hon : s.tick.on = true)
    (hfault : (s.lane p).faulted = false) (hopen : s.windowOpen p = true)
    (hpoint : (pointsOf s.active (s.quad.phase / 2)).contains j = true) (hm : measurement z sp = some m)
    (hlimits : withinLimits p j m = true) : s.quadMeasure p j z sp =
      s.updLane p (LaneRt.addPoint j (smooth (s.point p j) m)) := by
  have hmem := List.contains_iff_mem.mp hpoint
  unfold State.quadMeasure
  dsimp only
  rw [if_neg (by simp [hon, hfault, hopen, hmem]), hm, hfault]
  exact if_pos hlimits

/-- R177, R178: a measurement of the rotation. -/
theorem measurementMovesAPoint : Claim.MeasurementMovesAPoint := by
  intro s p j z sp hcore hon hfault hopen hpoint hcodes m old hlimits
  exact State.ends_of_run (f := (·.quadMeasure p.val j.val z sp)) hcore rfl
    (State.quadMeasure_of_within (s := s.begin) hon hfault hopen hpoint (measurement_of_ne hcodes) hlimits)

/-- The point of a one-shot has been taken, and the next one is up (R350). -/
def State.pointTaken (s : State) (m : Rat × Rat) : State :=
  { s.updLane s.cal.lane (LaneRt.addPoint s.cal.point m) with cal := { s.cal with point := s.cal.point + 1 } }

/-- The lane of a one-shot holds the point just taken (R350). -/
theorem State.lane_pointTaken (s : State) (m : Rat × Rat) : (s.pointTaken m).lane s.cal.lane =
    (s.lane s.cal.lane).addPoint s.cal.point m :=
  s.lane_updLane s.cal.lane _

/-- A point of a one-shot measured within its limits is taken; after point 26 comes the verdict ACCEPTED (R350, R352). -/
theorem State.selfPoint_of_within {s : State} {z sp : Int} {m : Rat × Rat} (hrun : s.cal.run = some .self)
    (hstarted : s.cal.started = true) (hm : measurement z sp = some m)
    (hlimits : withinLimits s.cal.lane s.cal.point m = true) : s.selfPoint z sp =
      if s.cal.point = 26 then (s.pointTaken m).verdict .accepted 0 else s.pointTaken m := by
  unfold State.selfPoint
  dsimp only
  rw [if_pos ⟨hrun, hstarted⟩, hm]
  refine (if_pos hlimits).trans ?_
  exact if_congr (by omega) rfl rfl

/-- R350, R352: the points of a one-shot. -/
theorem selfCalibrationTakesPointsInOrder : Claim.SelfCalibrationTakesPointsInOrder := by
  intro s z sp hcore hrun hstarted hcodes m hlimits
  have htaken := State.selfPoint_of_within (s := s.begin) hrun hstarted (measurement_of_ne hcodes) hlimits
  refine ⟨fun hmore => ?_, fun hlast => ?_⟩
  · exact State.ends_of_run (f := (·.selfPoint z sp)) hcore rfl (htaken.trans (if_neg hmore))
  · obtain ⟨hcal, hlanes, hroles⟩ := (s.begin.pointTaken m).verdict_spec .accepted 0
    rw [← htaken.trans (if_pos hlast)] at hcal hlanes hroles
    obtain ⟨hconfig, hresults, htime⟩ := State.same_of_besideQuad (u := s)
      ((State.settle_besideQuad _).trans (State.besideQuad_of_besideRoles hroles))
    have hends := (State.settle_cal _).trans hcal
    have hlane : (s.begin.selfPoint z sp).settle.lane s.cal.lane = (s.begin.pointTaken m).lane s.cal.lane :=
      congrArg (tget _ · _) ((State.settle_lanes _).trans hlanes)
    refine State.reaches_of_run (f := (·.selfPoint z sp)) hcore rfl
      ⟨congrArg CalSt.run hends, congrArg CalSt.result hends, ?_, hconfig, hresults, htime⟩
    rw [hlane, ← hlast]
    exact congrArg LaneRt.newPoints (s.begin.lane_pointTaken m)

/-- A system calibration is one of zero or of span (R352). -/
theorem CalSt.system_of_run {c : CalSt} (h : c.run = some .zero ∨ c.run = some .span) : c.system = true := by
  simpa [CalSt.system] using h

/-- The timeout ends a system calibration whose ticks have run out (R353). -/
theorem State.calTimeout_of_due {s : State} (hsystem : s.cal.system = true) (hleft : s.cal.left = 0) :
    s.calTimeout = s.verdict .aborted 2 := if_pos (by simp [hsystem, hleft])

/-- R353: the timeout of a system calibration. -/
theorem calibrationTimeoutAborts : Claim.CalibrationTimeoutAborts := by
  intro s hcore hrun hleft
  have hdue := State.calTimeout_of_due (s := s.begin) (CalSt.system_of_run hrun) hleft
  obtain ⟨hcal, hlanes, hroles⟩ := s.begin.verdict_spec .aborted 2
  rw [← hdue] at hcal hlanes hroles
  obtain ⟨hconfig, hresults, htime⟩ := State.same_of_besideQuad (u := s)
    ((State.settle_besideQuad _).trans (State.besideQuad_of_besideRoles hroles))
  have hends := (State.settle_cal _).trans hcal
  exact State.reaches_of_run hcore rfl ⟨congrArg CalSt.run hends, congrArg CalSt.result hends, congrArg CalSt.cause hends,
    congrArg CalSt.tick hends, hconfig, hresults, htime, (State.settle_lanes _).trans hlanes⟩

/-- Settles O37, clause by clause. -/
theorem calibrationPoints : Obligations.CalibrationPoints :=
  ⟨measurementMovesAPoint, selfCalibrationTakesPointsInOrder, calibrationTimeoutAborts⟩

end Sys2Proof.Machine
end

section
/-! PROOFS. A lane fault: what it latches, and what the slots of the lane lose (R188, R189, R194). -/
namespace Sys2Proof.Machine
open Sys2Proof

/-- What a change of one lane keeps of that lane, it keeps of every lane. -/
theorem State.lane_updLane_keeps {β : Type} (g : LaneRt → β) (s : State) {l : Nat} {f : LaneRt → LaneRt}
    (h : g (f (s.lane l)) = g (s.lane l)) (q : Nat) : g ((s.updLane l f).lane q) = g (s.lane q) := by
  by_cases hq : q = l
  · subst hq
    rw [State.lane_updLane, h]
  · rw [s.lane_updLane_other hq]

/-- What a fault latches of a lane: fault, cause, count and connection (R188, R189, R194). -/
def LaneRt.latch (r : LaneRt) : Bool × BitVec 8 × Nat × Option Nat := (r.faulted, r.cause, r.trips, r.conn)

/-- What the slots that lose their lane leave alone (R189): the latches of the lanes, and what is beside the rotation but for the
whey that waits. -/
def State.besideLost (s : State) : State × (Nat → Bool × BitVec 8 × Nat × Option Nat) :=
  ({ s.besideQuad with whey := [] }, fun q => (s.lane q).latch)

/-- States that agree beside lost slots agree in the latches of their lanes, in configuration, records and time. -/
theorem State.same_of_besideLost {s u : State} (h : s.besideLost = u.besideLost) :
    (∀ q, (s.lane q).latch = (u.lane q).latch) ∧ s.sameConfig u ∧ s.formed = u.formed ∧ s.rings = u.rings ∧ s.sameTime u := by
  obtain ⟨hframe, hlatch⟩ := Prod.ext_iff.mp h
  have hof {α : Type} (g : State → α) : g { s.besideQuad with whey := [] } = g { u.besideQuad with whey := [] } :=
    congrArg g hframe
  exact ⟨congrFun hlatch, ⟨hof (·.active), hof (·.shadow), hof (·.live), hof (·.com), hof (·.boot)⟩, hof (·.formed),
    hof (·.rings), ⟨hof (·.tick), hof (·.clk), hof (·.pow)⟩⟩

/-- A change of a lane that keeps its latch. -/
theorem State.updLane_besideLost {s : State} {l : Nat} {f : LaneRt → LaneRt} (h : (f (s.lane l)).latch = (s.lane l).latch) :
    (s.updLane l f).besideLost = s.besideLost :=
  Prod.ext rfl (funext (s.lane_updLane_keeps LaneRt.latch h))

/-- An EMCY (R432). -/
theorem State.emcy_besideLost (s : State) (code detail : Nat) : (s.emcy code detail).besideLost = s.besideLost := by
  rw [State.eq_of_apart (s.apart_emcy code detail)]
  rfl

/-- The end of a command (R432). -/
theorem State.settle_besideLost (s : State) : s.settle.besideLost = s.besideLost := by
  rw [State.eq_of_apart s.apart_settle]
  rfl

/-- Resolved triggers are whey that waits (R59). -/
theorem State.resolveSlot_besideLost (s : State) (n : Nat) (why : Reason) (f : TickNo → TickNo) (ring : Option Nat) :
    (s.resolveSlot n why f ring).besideLost = s.besideLost := by
  unfold State.resolveSlot
  dsimp only
  split <;> split <;> rfl

/-- A calibration that a lost trigger ends (R353). -/
theorem State.calLaneFault_besideLost (s : State) (n : Nat) : (s.calLaneFault n).besideLost = s.besideLost := by
  unfold State.calLaneFault
  split <;> rfl

/-- A totaliser that stops (R221). -/
theorem State.totStop_besideLost (s : State) (n : Nat) : (s.totStop n).besideLost = s.besideLost := rfl

/-- The slots of a lane lose it (R189, R221). -/
theorem State.lostSlots_besideLost (s : State) (l : Nat) : (s.lostSlots l).besideLost = s.besideLost := by
  unfold State.lostSlots
  split
  · refine (foldl_keeps State.besideLost _ (fun u n => ?_) _ _).trans (State.updLane_besideLost rfl)
    simp only [apply_ite State.besideLost, State.calLaneFault_besideLost, State.resolveSlot_besideLost, ite_self]
  · split
    · simp only [apply_ite State.besideLost, State.totStop_besideLost, ite_self]
      exact State.updLane_besideLost rfl
    · rfl

/-- A lane as a fault leaves it: faulted with its cause, counted where its detector tripped, disconnected (R188, R189). -/
def LaneRt.faultedBy (cause : Nat) (r : LaneRt) : LaneRt :=
  { r.disconnect with
    faulted := true, cause := BitVec.ofNat 8 cause, clearing := none, measured := []
    trips := if cause = 1 then satInc r.trips else r.trips }

/-- Lane p has faulted: it is latched, the rotation has met the fault, and it is reported (R183, R188, R189). -/
def State.faultEntered (s : State) (p cause : Nat) : State :=
  (({ s.updLane p (LaneRt.faultedBy cause) with quad := s.quadFault p } : State).event (0x2200 + p) 3 cause).emcy 0xff01 p

/-- The slots that lane p served have lost it (R189). -/
def State.faultServed (s : State) (p cause : Nat) : State := (s.servedBy p).foldl State.lostSlots (s.faultEntered p cause)

/-- The fault of a lane that was not in fault; a one-shot of the lane ends (R188, R189, R365). -/
theorem State.faultLane_of_new {s : State} {p : Nat} (hnew : (s.lane p).faulted = false) (cause : Nat) : s.faultLane p cause =
    let u := s.faultServed p cause
    if u.cal.run = some .self ∧ u.cal.lane = p then
      if cause = 2 then u.verdict .implausible 0 else u.verdict .aborted 5
    else u := by
  unfold State.faultLane
  rw [hnew]
  rfl

/-- A verdict ends the calibration (R356). -/
theorem State.verdict_besideLost (s : State) (v : Verdict) (cause : Nat) : (s.verdict v cause).besideLost = s.besideLost := rfl

/-- The fault of a lane that was not in fault latches that lane and no other (R188, R189). -/
theorem State.faultLane_besideLost {s : State} {p : Nat} (hnew : (s.lane p).faulted = false) (cause : Nat) :
    (s.faultLane p cause).besideLost = (s.updLane p (LaneRt.faultedBy cause)).besideLost := by
  have hserved : (s.faultServed p cause).besideLost = (s.faultEntered p cause).besideLost :=
    foldl_keeps _ _ State.lostSlots_besideLost _ _
  rw [State.faultLane_of_new hnew]
  simp only [apply_ite State.besideLost, State.verdict_besideLost, ite_self]
  exact hserved.trans (State.emcy_besideLost ..)

/-- The detector of a running lane that was not in fault (R188). -/
theorem State.laneFault_of_running {s : State} {p : Nat} (hon : s.tick.on = true) (hrun : s.lanesRun = true)
    (hnew : (s.lane p).faulted = false) : s.laneFault p = s.faultLane p 1 := if_pos (by simp [hon, hrun, hnew])

/-- Settles O38: what the slots of the lane lose is beside the latches of the lanes. -/
theorem laneFaultLatches : Obligations.LaneFaultLatches := by
  intro s p hcore hon hrun hnew
  have hfault := State.laneFault_of_running (s := s.begin) hon hrun hnew
  have hbeside := (State.settle_besideLost _).trans (State.faultLane_besideLost (s := s.begin) hnew 1)
  rw [← hfault] at hbeside
  obtain ⟨hlatch, hconfig, hformed, hrings, htime⟩ := State.same_of_besideLost (u := s.updLane p (LaneRt.faultedBy 1)) hbeside
  have hself := hlatch p
  rw [State.lane_updLane] at hself
  refine State.reaches_of_run (f := (·.laneFault p.val)) hcore rfl
    ⟨congrArg (·.1) hself, congrArg (·.2.1) hself, congrArg (·.2.2.1) hself, congrArg (·.2.2.2) hself, fun q hq => ?_, hconfig,
      hformed, hrings, htime⟩
  exact (congrArg (·.1) (hlatch q)).trans (congrArg LaneRt.faulted (s.lane_updLane_other hq _))

end Sys2Proof.Machine
end

section
/-! PROOFS. Handovers done, and the phases of the rotation (R179, R181, R182). -/
namespace Sys2Proof.Machine
open Sys2Proof

/-- The handover of an overlap is done: E serves the lane, or the lane itself does again, and the newcomer's run of abandoned
handovers ends (R181–R183). -/
def State.handedOver (s : State) (o : Overlap) : State :=
  (if o.intoE then s.serveBy o.lane else s.handBack).updLane (if o.intoE then 4 else o.lane) (fun r => { r with abandonRun := 0 })

/-- A handover done moves E and counts; beside the rotation nothing changes (R181, R182). -/
theorem State.handedOver_spec (s : State) (o : Overlap) :
    (s.handedOver o).quad.serving = (if o.intoE then some o.lane else none) ∧ (s.handedOver o).quad.overlap = none ∧
      (s.handedOver o).quad.done = satInc s.quad.done ∧ (s.handedOver o).besideQuad = s.besideQuad := by
  unfold State.handedOver
  cases o.intoE <;> exact ⟨rfl, rfl, rfl, rfl⟩

/-- An overlap whose last two comparisons agree ends in a handover; with OFF set in an overlap into E the ticks to the handback
follow (R182, R184). -/
theorem State.overlapEnd_of_agreed {s : State} {o : Overlap} {rest : List Bool} (hon : s.tick.on = true)
    (hpart : s.tick.part = .prologue) (ho : s.quad.overlap = some o) (hleft : o.left = 0)
    (hagree : o.agree = true :: true :: rest) : s.overlapEnd =
      if o.intoE ∧ s.acfg 0x2220 1 = 2 then { s.handedOver o with quad := { (s.handedOver o).quad with
        left := (s.handedOver o).quad.ovl + 1, held := false } }
      else s.handedOver o := by
  unfold State.overlapEnd
  rw [ho]
  dsimp only
  rw [if_neg (by simp [hon, hpart, hleft]), if_pos (by rw [hagree]; rfl)]
  rfl

/-- The ticks to a handback that follows at once move neither E nor the counts. -/
theorem State.overlapEnd_spec {s : State} {o : Overlap} {rest : List Bool} (hon : s.tick.on = true)
    (hpart : s.tick.part = .prologue) (ho : s.quad.overlap = some o) (hleft : o.left = 0)
    (hagree : o.agree = true :: true :: rest) :
    s.overlapEnd.quad.serving = (if o.intoE then some o.lane else none) ∧ s.overlapEnd.quad.overlap = none ∧
      s.overlapEnd.quad.done = satInc s.quad.done ∧ s.overlapEnd.besideQuad = s.besideQuad := by
  have hdone := s.handedOver_spec o
  rw [State.overlapEnd_of_agreed hon hpart ho hleft hagree]
  generalize s.handedOver o = u at hdone
  split <;> exact hdone

/-- R181, R182: the end of an overlap. -/
theorem overlapEndsInAHandover : Claim.OverlapEndsInAHandover := by
  intro s o rest hcore hon hpart ho hleft hagree
  obtain ⟨hserving, hoverlap, hdone, hbeside⟩ := State.overlapEnd_spec (s := s.begin) hon hpart ho hleft hagree
  refine State.reaches_of_run hcore rfl ?_
  rw [State.settle_quad]
  exact ⟨hserving, hoverlap, hdone, State.same_of_besideQuad ((State.settle_besideQuad _).trans hbeside)⟩

/-- A calibration window that has run is counted by its lane (R179). -/
theorem State.windowRan_spec (s : State) (p : Nat) :
    (s.windowRan p).quad = s.quad ∧ (s.windowRan p).cal = s.cal ∧ (s.windowRan p).besideQuad = s.besideQuad := by
  unfold State.windowRan
  split <;> exact ⟨rfl, rfl, rfl⟩

/-- The next phase depends on the lanes skipped only (R185). -/
theorem State.nextPhase_of_skips {s u : State} (h : s.skips = u.skips) (fuel k : Nat) : s.nextPhase fuel k = u.nextPhase fuel k := by
  induction fuel generalizing k with
  | zero => rfl
  | succ fuel ih => simp only [State.nextPhase, h, ih]

/-- The skipped lanes depend on the active copy and the calibration (R185). -/
theorem State.skips_of_cal {s u : State} (hactive : s.active = u.active) (hcal : s.cal = u.cal) : s.skips = u.skips := by
  unfold State.skips
  rw [hactive, hcal]

/-- A phase that starts: number, length, and what is beside the rotation, whichever handover it brings (R179, R181, R182). -/
theorem State.startPhase_spec (s : State) (k : Nat) :
    (s.startPhase k).quad.phase = k ∧ (s.startPhase k).quad.left = phaseTicks s.active k ∧
      (s.startPhase k).quad.active = s.quad.active ∧ (s.startPhase k).quad.held = false ∧
      (s.startPhase k).besideQuad = s.besideQuad := by
  unfold State.startPhase
  dsimp only
  repeat' split
  all_goals exact ⟨rfl, rfl, rfl, rfl, rfl⟩

/-- The phase has ended for its lane: in an even phase the window of E has run (R179). -/
def State.phaseOver (s : State) : State := if s.quad.phase % 2 = 0 then s.windowRan 4 else s

/-- The end of a phase in mode ON in which E serves no lane: the next phase starts (R179, R181). -/
theorem State.phaseEnd_of_unserved {s : State} (hon : s.tick.on = true) (hpart : s.tick.part = .prologue)
    (hactive : s.quad.active = true) (hrotates : s.rotates = true) (hleft : s.quad.left = 0) (hoverlap : s.quad.overlap = none)
    (hserving : s.quad.serving = none) (hmode : s.acfg 0x2220 1 = 0) :
    s.phaseEnd = s.phaseOver.startPhase (s.phaseOver.nextPhase 8 s.quad.phase) := by
  have hnone : s.servesDedicated = false := by simp [State.servesDedicated, hserving]
  unfold State.phaseEnd
  dsimp only
  rw [if_pos (by simp [hon, hpart, hactive, hrotates, hleft, hoverlap, hnone]), hserving, if_neg (by simp [hmode])]
  rfl

/-- Counting the window moves nothing that the next phase depends on. -/
theorem State.phaseOver_spec (s : State) :
    s.phaseOver.quad = s.quad ∧ s.phaseOver.cal = s.cal ∧ s.phaseOver.besideQuad = s.besideQuad := by
  unfold State.phaseOver
  split
  · exact s.windowRan_spec 4
  · exact ⟨rfl, rfl, rfl⟩

/-- R179, R181: the end of a phase. -/
theorem phaseEndGoesToTheNextPhase : Claim.PhaseEndGoesToTheNextPhase := by
  intro s hcore hon hpart hactive hrotates hleft hoverlap hserving hmode k
  obtain ⟨hquad, hcal, hover⟩ := s.begin.phaseOver_spec
  obtain ⟨⟨hcopy, _⟩, _⟩ := State.same_of_besideQuad (u := s) hover
  have hnext : s.begin.phaseOver.nextPhase 8 s.quad.phase = k :=
    State.nextPhase_of_skips (State.skips_of_cal hcopy hcal) 8 s.quad.phase
  have hend : s.begin.phaseEnd = s.begin.phaseOver.startPhase k :=
    (State.phaseEnd_of_unserved (s := s.begin) hon hpart hactive hrotates hleft hoverlap hserving hmode).trans
      (congrArg s.begin.phaseOver.startPhase hnext)
  obtain ⟨hphase, hticks, hruns, hheld, hbeside⟩ := s.begin.phaseOver.startPhase_spec k
  rw [← hend] at hphase hticks hruns hheld hbeside
  refine State.reaches_of_run hcore rfl ?_
  rw [State.settle_quad]
  exact ⟨hphase, by rw [hticks, hcopy], by rw [hruns, hquad]; exact hactive, hheld,
    State.same_of_besideQuad ((State.settle_besideQuad _).trans (hbeside.trans hover))⟩

/-- Settles O39, clause by clause. -/
theorem rotationMovesOn : Obligations.RotationMovesOn := ⟨overlapEndsInAHandover, phaseEndGoesToTheNextPhase⟩

end Sys2Proof.Machine
end

section
/-! PROOFS. Requests that wait for their instant: bank swaps, totaliser clears, static codes, reset arms (R216, R222, R324, R332). -/
namespace Sys2Proof.Machine
open Sys2Proof

/-- An admitted write of an entry below 2600h that is no commit entry ends in its live effect (R392–R394). -/
theorem ends_of_liveLow {i : Instr} {s t : State} {v : Via} {idx sub : Nat} {data : List Byte}
    (hw : writes i = some (v, idx, sub, data)) (hadm : s.admits v idx sub data)
    (hlive : ∀ e, entryOf idx sub = some e → e.apply ≠ .commit) (hidx : idx < 0x2600)
    (heffect : (s.heard v).liveLow v idx sub (leNum data) = t) : Ends i s (t.complete v) :=
  ends_of_admits hw hadm fun e he => (State.writeEffect_of_low (hlive e he) hidx ..).trans heffect

/-- The number that one byte spells. -/
theorem leNum_byte (p : Byte) : leNum [p] = p.toNat := by simp [leNum]

/-- The swap request is no commit entry (R216). -/
theorem apply_of_swapRequest {e : Entry} (h : entryOf 0x2380 1 = some e) : e.apply ≠ .commit := by
  cases h
  exact nofun

/-- The totaliser clear of a profile is no commit entry (R222). -/
theorem apply_of_totaliserClear {p : Fin 16} {e : Entry} (h : entryOf (0x2300 + p.val) 9 = some e) : e.apply ≠ .commit := by
  fin_cases p <;> cases h <;> exact nofun

/-- The static code of an output is no commit entry (R324). -/
theorem apply_of_staticCode {n : Fin 4} {e : Entry} (h : entryOf (0x2900 + n.val) 6 = some e) : e.apply ≠ .commit := by
  fin_cases n <;> cases h <;> exact nofun

/-- The arm of a generator is no commit entry (R332). -/
theorem apply_of_generatorArm {g : Fin 4} {e : Entry} (h : entryOf (0x2910 + g.val) 8 = some e) : e.apply ≠ .commit := by
  rw [entryOf_generator] at h
  cases h
  exact nofun

/-- A live write of a profile is its totaliser clear (R222). -/
theorem State.liveLow_of_profile {p : Nat} (hp : p < 16) (s : State) (v : Via) (sub x : Nat) :
    s.liveLow v (0x2300 + p) sub x = s.totClear p := by
  unfold State.liveLow
  iterate 5 rw [if_neg (by omega)]
  rw [if_pos (by omega), Nat.add_sub_cancel_left]

/-- A live write of 2380h is a swap request for the profile it names (R216). -/
theorem State.liveLow_of_bankControl (s : State) (v : Via) (sub x : Nat) :
    s.liveLow v 0x2380 sub x = s.swapRequest x v.cyc := rfl

/-- A live write of 2900h+n.06 is a static code of output n (R324). -/
theorem State.liveHigh_of_staticCode {n : Nat} (hn : n < 4) (s : State) (v : Via) (x : Nat) :
    s.liveHigh v (0x2900 + n) 6 x = s.writeCode n (BitVec.ofNat 16 x) v.cyc := by
  unfold State.liveHigh
  iterate 5 rw [if_neg (by omega)]
  rw [if_pos (by omega), Nat.add_sub_cancel_left]

/-- A live write of 2910h+g.08 arms or disarms the reset of generator g (R332). -/
theorem State.liveHigh_of_generatorArm {g : Nat} (hg : g < 4) (s : State) (v : Via) (x : Nat) :
    s.liveHigh v (0x2910 + g) 8 x = s.genArmWrite g x := by
  unfold State.liveHigh
  iterate 7 rw [if_neg (by omega)]
  rw [if_pos (by omega), Nat.add_sub_cancel_left]

/-- A totaliser clear waits behind the others, unless it waits already (R222). -/
theorem State.totClear_eq (s : State) (p : Nat) : s.totClear p =
    { s with sense := { s.sense with
        totClear := if p ∈ s.sense.totClear then s.sense.totClear else s.sense.totClear ++ [p] } } := by
  simp [State.totClear]

/-- A written 1 arms the reset at the tick of 2910h+g.06 (R332). -/
theorem State.genArmWrite_arm (s : State) (g : Nat) : s.genArmWrite g 1 =
    s.updGen g (fun r => { r with armed := true, again := false, next := BitVec.ofNat 32 (s.lcfg (0x2910 + g) 6) }) := rfl

/-- A written 0 disarms the reset (R332). -/
theorem State.genArmWrite_disarm (s : State) (g : Nat) :
    s.genArmWrite g 0 = s.updGen g (fun r => { r with armed := false }) := rfl

/-- R216, R222: bank swaps and totaliser clears. -/
theorem swapAndClearWait : Claim.SwapAndClearWait := by
  intro s v h
  refine ⟨fun p hadm => ?_, fun p hadm => ?_⟩
  · refine ends_of_liveLow rfl hadm (fun _ => apply_of_swapRequest) (by decide) ?_
    rw [State.liveLow_of_bankControl, leNum_byte, State.swapRequest]
  · exact ends_of_liveLow rfl hadm (fun _ => apply_of_totaliserClear) (by omega)
      ((State.liveLow_of_profile p.isLt ..).trans (State.totClear_eq ..))

/-- R324, R332: static codes, and the arm of a phase reset. -/
theorem staticCodesAndArmsAreHeld : Claim.StaticCodesAndArmsAreHeld := by
  intro s v h
  refine ⟨fun n c hadm => ?_, fun g hadm => ?_, fun g hadm => ?_⟩
  · refine ends_of_liveHigh rfl hadm (fun _ => apply_of_staticCode) (by omega) ?_
    rw [State.liveHigh_of_staticCode n.isLt, ofNat_leNum_leBytes 2 rfl, State.writeCode]
  · exact ends_of_liveHigh rfl hadm (fun _ => apply_of_generatorArm) (by omega)
      ((State.liveHigh_of_generatorArm g.isLt ..).trans (State.genArmWrite_arm ..))
  · exact ends_of_liveHigh rfl hadm (fun _ => apply_of_generatorArm) (by omega)
      ((State.liveHigh_of_generatorArm g.isLt ..).trans (State.genArmWrite_disarm ..))

/-- Settles O18, clause by clause. -/
theorem requestsWaitForTheirInstant : Obligations.RequestsWaitForTheirInstant :=
  ⟨swapAndClearWait, staticCodesAndArmsAreHeld⟩

end Sys2Proof.Machine
end

section
/-! PROOFS. The places of a ring under the operations on its records, and records due to a ring (R253, R257–R262, R264, R267, R268). -/
namespace Sys2Proof.Machine
open Sys2Proof

/-- A record stored in a free place takes it (R253). -/
theorem Ring.put_places {g : Ring} (h : g.free ≠ 0) (r : Rec) : (g.put r).places = g.places := by
  simp only [Ring.places, Ring.put, List.length_append, List.length_singleton]
  omega

/-- Records taken pass from unread to outstanding (R257). -/
theorem Ring.take_places (g : Ring) (n : Nat) : (g.take n).places = g.places := by
  simp only [Ring.places, Ring.take, List.length_append, List.length_take, List.length_drop]
  omega

/-- Places returned are free again (R258). -/
theorem Ring.credit_places (g : Ring) (n : Nat) : (g.credit n).places = g.places := by
  simp only [Ring.places, Ring.credit, List.length_drop]
  omega

/-- A RING-FULL record takes a free place as any record does; the counts that it represents are no places (R262). -/
theorem Ring.fullWritten_places {g : Ring} (h : g.free ≠ 0) (r : Rec) (taken rest : List Counted) :
    (g.fullWritten r taken rest).places = g.places := Ring.put_places h r

/-- A change of the consumer makes what is outstanding unread again (R267). -/
theorem Ring.reconsume_places (g : Ring) : g.reconsume.places = g.places := by
  simp only [Ring.places, Ring.reconsume, List.length_append, List.length_nil]
  omega

/-- A record that is counted takes no place (R261). -/
theorem Ring.count_places (g : Ring) (r : Rec) : (g.count r).places = g.places := rfl

/-- R253, R257–R259, R262, R267: the operations on a ring's records. -/
theorem ringPlacesAreKept : Claim.RingPlacesAreKept := fun g r n taken rest =>
  ⟨fun h => Ring.put_places h r, g.take_places n, g.credit_places n, fun h => Ring.fullWritten_places h r taken rest,
    g.reconsume_places, g.count_places r⟩

/-- A record as its ring takes it: with the marks of its tick and with CAR (R250). -/
def State.dressed (s : State) (g : Nat) (r : Rec) : Rec := (s.ring g).carOf (s.mark r)

/-- Marks and CAR leave what a record represents: its kind and its count (R249, R250). -/
theorem State.dressed_represents (s : State) (g : Nat) (r : Rec) :
    (s.dressed g r).kind = r.kind ∧ (s.dressed g r).count = r.count := by
  have hmark : (s.mark r).kind = r.kind ∧ (s.mark r).count = r.count := by
    unfold State.mark
    split <;> exact ⟨rfl, rfl⟩
  unfold State.dressed Ring.carOf
  split <;> exact hmark

/-- The ledger places one trigger for a data or totaliser record, the count of a whey record, none for another (R264). -/
theorem Ledger.place_eq (l : Ledger) (r : Rec) : l.place r =
    { l with data := l.data + (if r.kind = 0 ∨ r.kind = 4 then 1 else 0)
             whey := l.whey + (if r.kind = 1 then r.count else 0) } := by
  simp only [Ledger.place, add_ite, Nat.add_zero]

/-- A record due to a ring with capacity that takes it is stored and placed in the ledger (R261, R264). -/
theorem State.recordDue_stored {s : State} {g : Nat} (hcap : s.acfg (0x2500 + g) 1 ≠ 0) (htakes : (s.ring g).takes = true) (r : Rec) :
    s.recordDue g r =
      { s.setRing g ((s.ring g).put (s.dressed g r)) with ledger := s.ledger.place (s.dressed g r) } := by
  simp only [State.recordDue, if_neg hcap, if_pos htakes, State.dressed]

/-- A record due to a ring with capacity that does not take it is counted (R261). -/
theorem State.recordDue_counted {s : State} {g : Nat} (hcap : s.acfg (0x2500 + g) 1 ≠ 0) (htakes : (s.ring g).takes = false) (r : Rec) :
    s.recordDue g r = s.setRing g ((s.ring g).count (s.dressed g r)) := by
  simp [State.recordDue, hcap, htakes, State.dressed]

/-- A record due to a ring without capacity is lost, unless it is a whey record: its count is placed in the ledger only (R268). -/
theorem State.recordDue_noCapacity {s : State} {g : Nat} (hcap : s.acfg (0x2500 + g) 1 = 0) (r : Rec) : s.recordDue g r =
    if r.kind = 1 then ({ s with ledger := s.ledger.placeOnly r.count }).event 0x2600 5 (s.ledger.only + r.count) else s := by
  obtain ⟨hkind, hcount⟩ := s.dressed_represents g r
  unfold State.dressed at hkind hcount
  simp only [State.recordDue, if_pos hcap, hkind, hcount]

/-- A record due to one ring leaves every other (R261). -/
theorem State.ring_recordDue_other (s : State) {g q : Nat} (h : q ≠ g) (r : Rec) : (s.recordDue g r).ring q = s.ring q := by
  unfold State.recordDue
  dsimp only
  split
  · split <;> rfl
  · split <;> exact s.ring_setRing_other h _

/-- R261, R264, R268: stored, counted, or placed in the ledger only. -/
theorem dueRecordsAreStoredOrCounted : Claim.DueRecordsAreStoredOrCounted := by
  intro s g r t whey
  obtain ⟨hkind, hcount⟩ := s.dressed_represents g r
  refine ⟨fun q hq => s.ring_recordDue_other hq r, fun hcap => ⟨fun htakes => ?_, fun htakes => ?_⟩, fun hcap => ?_⟩
  · have ht : t = _ := State.recordDue_stored hcap htakes r
    have hring : t.ring g = (s.ring g).put (s.dressed g r) := by
      rw [ht]
      exact s.ring_setRing g _
    refine ⟨by rw [hring]; exact List.length_append, ?_⟩
    rw [ht]
    dsimp only
    rw [Ledger.place_eq, hkind, hcount]
  · have ht : t = _ := State.recordDue_counted hcap htakes r
    have hring : t.ring g = (s.ring g).count (s.dressed g r) := by rw [ht, State.ring_setRing]
    exact ⟨by rw [hring]; rfl, by rw [hring]; rfl, by rw [ht]; rfl⟩
  · have ht : t = _ := State.recordDue_noCapacity hcap r
    by_cases hwhey : r.kind = 1
    · rw [if_pos hwhey] at ht
      exact ⟨by rw [ht]; rfl, fun h => absurd hwhey h, fun _ => ⟨by rw [ht]; rfl, by rw [ht]; rfl⟩⟩
    · rw [if_neg hwhey] at ht
      exact ⟨congrArg State.rings ht, fun _ => ht, fun h => absurd h hwhey⟩

/-- Settles O31, clause by clause. -/
theorem ringsKeepTheirPlaces : Obligations.RingsKeepTheirPlaces := ⟨ringPlacesAreKept, dueRecordsAreStoredOrCounted⟩

end Sys2Proof.Machine
end

section
/-! PROOFS. The supply stamp of a tick (R250, R482, R483). -/
namespace Sys2Proof.Machine
open Sys2Proof

/-- The level of VIO that a stamp brings (R529; DESIGN CHOICE, log entry 85). -/
def State.vioAt (s : State) (mv : Nat) : State := { s with sup := { s.sup with vioMv := mv } }

/-- The tick is stamped with a code, which sets SUP or not: its shared facts, its records in every ring, and the counts of 2E00h
(R250, R482, R483). -/
def State.stamped (s : State) (sup : Bool) (code : BitVec 8) : State :=
  { s with
    tick := s.tick.stampTick sup code
    rings := tmapVals ringDflt (fun _ => Ring.stamp s.tick.counter sup code) s.rings
    sup := { s.sup with
      stamp := code, supNow := sup, supTicks := if sup then satInc s.sup.supTicks else s.sup.supTicks
      lowest := some (match s.sup.lowest with
        | some x => if code < x then code else x
        | none => code) } }

/-- A stopped tick has no stamp, and a stamped tick no second one (R482; DEDUCED, log entry 8). -/
theorem State.supplyStamp_of_none {s : State} (h : s.tick.on = false ∨ (s.info s.tick.counter).stamped = true) (uv mv : Nat) :
    s.supplyStamp uv mv = s.vioAt mv := by
  refine if_neg fun hdue => ?_
  obtain ⟨hon, hfresh⟩ := (Bool.and_eq_true ..).mp hdue
  obtain hoff | hstamped := h
  · exact absurd (hoff.symm.trans hon) Bool.false_ne_true
  · exact absurd hstamped (by simpa [State.info] using hfresh)

/-- The first stamp of a running tick: besides the stamp, a low level asks for a margin read, and where it begins it is an event with
an EMCY (R378, R482, R483). -/
theorem State.supplyStamp_of_first {s : State} (hon : s.tick.on = true) (hfresh : (s.info s.tick.counter).stamped = false)
    (uv mv : Nat) :
    let low := decide (2000 + 15 * stampCode uv < s.acfg 0x2e00 1)
    let u := (s.vioAt mv).stamped low (BitVec.ofNat 8 (stampCode uv))
    ∃ jn diag, (s.supplyStamp uv mv).apart = ({ u with jn := jn, diag := diag } : State).apart := by
  intro low u
  have hdue : s.supplyStamp uv mv =
      if low && !s.sup.supNow then ((if low then u.jnMargin else u).event 0x2e00 2 (stampCode uv)).emcy 0x3200 (stampCode uv)
      else (if low then u.jnMargin else u) :=
    if_pos (by rw [Bool.and_eq_true]; exact ⟨hon, by simpa [State.info] using hfresh⟩)
  rw [hdue]
  split
  · rw [State.apart_emcy]
    split <;> exact ⟨_, _, rfl⟩
  · split <;> exact ⟨_, _, rfl⟩

/-- Settles O24: besides the stamp, the command changes the journal, the event log, the CAN port and what is sent. -/
theorem supplyStampMarksItsTick : Obligations.SupplyStampMarksItsTick := by
  intro s uv vio hcore code sup
  refine ⟨fun hnone => ?_, fun hon hfresh => ?_⟩
  · exact State.ends_of_run (f := (·.supplyStamp uv vio)) hcore rfl (State.supplyStamp_of_none (s := s.begin) hnone uv vio)
  · obtain ⟨jn, diag, hstamp⟩ := State.supplyStamp_of_first (s := s.begin) hon hfresh uv vio
    refine State.reaches_of_run (f := (·.supplyStamp uv vio)) hcore rfl ?_
    rw [State.eq_of_apart ((State.apart_settle _).trans hstamp)]
    refine ⟨rfl, rfl, rfl, rfl, rfl, rfl, ?_, ?_, ?_, rfl, rfl, rfl, rfl⟩
    all_goals simp [State.sameConfig, State.sameLanes, State.sameIo, State.stamped, State.vioAt, State.begin]

end Sys2Proof.Machine
end

section
/-! PROOFS. Accesses by the consumer of a ring: places returned and records read (R257, R258, R392, R393, R470). -/
namespace Sys2Proof.Machine
open Sys2Proof

/-- Within the outstanding count a credit return frees as many places as it names (R258). -/
theorem Ring.credit_within {g : Ring} {n : Nat} (h : n ≤ g.outstanding.length) :
    g.credit n = { g with free := g.free + n, outstanding := g.outstanding.drop n } := by
  rw [Ring.credit, Nat.min_eq_left h]

/-- A credit return within the outstanding count: its places are free, and its credits are passed on (R258, R470). -/
theorem State.returnCredits_within {s : State} {r n : Nat} (h : n ≤ (s.ring r).outstanding.length) : s.returnCredits r n =
    (s.setRing r { s.ring r with free := (s.ring r).free + n, outstanding := (s.ring r).outstanding.drop n }).passCredits r
      ((s.ring r).outstanding.take n) := by
  rw [State.returnCredits, Ring.credit_within h]

/-- The index of a ring lists the entries of a ring (R275). -/
theorem objectAt_ring {r : Nat} (h : r < 256) : objectAt (0x2500 + r) = some (objRing r) := by
  unfold objectAt objectHigh
  rw [if_neg (by omega), if_neg (by omega), if_pos (by omega), Nat.add_sub_cancel_left]

/-- The number of two little-endian bytes. -/
theorem leNum_leBytes_word (n : BitVec 16) : leNum (leBytes 2 n.toNat) = n.toNat := leNum_leBytes 2 n.toNat n.isLt

/-- The entry 2500h+r.07, to which a consumer writes what it returns (R258). -/
def creditEntry : Entry := ⟨.u16, .w, .w, .w, .w, false, .none, .live, 0, iv 1 4096⟩

/-- On ports H and S checks 1 to 7 leave of a credit return its range, 1 to 4096 (R258, R392). -/
theorem State.formRefusal_credit (s : State) {v : Via} (hport : v.port = .h ∨ v.port = .s) {r : Nat} (hr : r < 256) (n : BitVec 16) :
    s.formRefusal v (0x2500 + r) 7 (leBytes 2 n.toNat) =
      (if 1 ≤ n.toNat ∧ n.toNat ≤ 4096 then 0 else 0x403, some creditEntry) := by
  have hentry : objRing r 7 = some creditEntry := rfl
  have hletter : s.letterRefusal creditEntry v = 0 := by
    obtain h | h := hport <;> simp [State.letterRefusal, creditEntry, h, Entry.letter, Letter.writes, Entry.originGrants]
  have hlock : s.lockCheck creditEntry (0x2500 + r) 7 (leBytes 2 n.toNat) = 0 := by
    simp [State.lockCheck, creditEntry]
  have hdata : creditEntry.dataRefusal (0x2500 + r) (leBytes 2 n.toNat) = if 1 ≤ n.toNat ∧ n.toNat ≤ 4096 then 0 else 0x403 := by
    have hcount : creditEntry.countOk (leBytes 2 n.toNat) = true := rfl
    have hrange : creditEntry.rangeOk n.toNat = decide (1 ≤ n.toNat ∧ n.toNat ≤ 4096) := by
      simp [Entry.rangeOk, creditEntry, iv, inRanges]
    have hcode : rangeCode (0x2500 + r) = 0x403 := if_neg (by omega)
    have hreserved : creditEntry.reservedOk n.toNat = true := rfl
    unfold Entry.dataRefusal
    rw [leNum_leBytes_word, hcount, hreserved, hrange, hcode]
    by_cases hn : 1 ≤ n.toNat ∧ n.toNat ≤ 4096
    · rw [decide_eq_true hn, if_pos hn]
      rfl
    · rw [decide_eq_false hn, if_neg hn]
      rfl
  simp [State.formRefusal, objectAt_ring hr, hentry, hletter, hlock, hdata]

/-- An entry of a ring is not bound to other entries (R392). -/
theorem State.consistency_ring (s : State) {r : Nat} (hr : r < 256) (sub x : Nat) : s.consistency (0x2500 + r) sub x = 0 := by
  unfold State.consistency
  dsimp only
  iterate 10 rw [if_neg (by omega)]
  refine if_neg ?_
  simp [isMapping]
  omega

/-- Nothing in the state of a running device speaks against a credit return (R392, R396). -/
theorem State.stateRefusal_credit {s : State} (hstart : s.startingUp = false) {r : Nat} (hr : r < 256) (x : Nat) :
    s.stateRefusal (0x2500 + r) 7 x creditEntry = 0 := by
  have hmap : isMapping (0x2500 + r) = false := by
    simp [isMapping]
    omega
  have hown : s.ownRefusal (0x2500 + r) 7 x = 0 := by
    unfold State.ownRefusal
    iterate 6 rw [if_neg (by omega)]
    rw [hmap, if_neg Bool.false_ne_true]
    iterate 3 rw [if_neg (by omega)]
  unfold State.stateRefusal
  rw [hstart, hown]
  simp [creditEntry]
  omega

/-- The checks of a credit return by the consumer: its range, then the outstanding count (R258, R392). -/
theorem State.writeRefusal_credit {s : State} {v : Via} (hport : v.port = .h ∨ v.port = .s) {r : Nat} (hr : r < 256)
    (hstart : s.startingUp = false) (hconsumes : s.consumes r v.port = true) (n : BitVec 16) :
    s.writeRefusal v (0x2500 + r) 7 (leBytes 2 n.toNat) =
      if 1 ≤ n.toNat ∧ n.toNat ≤ 4096 then (if (s.ring r).outstanding.length < n.toNat then 0x601 else 0) else 0x403 := by
  have hring : s.ringRefusal (0x2500 + r) 7 n.toNat v.port = if (s.ring r).outstanding.length < n.toNat then 0x601 else 0 := by
    unfold State.ringRefusal
    rw [if_pos (by omega), Nat.add_sub_cancel_left, hconsumes]
    rfl
  unfold State.writeRefusal
  rw [s.formRefusal_credit hport hr n]
  simp only [leNum_leBytes_word, s.consistency_ring hr, State.stateRefusal_credit hstart hr, hring]
  split <;> rfl

/-- The entry 2500h+r.0A, from which a consumer reads records (R257). -/
def recordsEntry : Entry := ⟨.domain, .r, .r, .r, .r, false, .none, .none, 0, .full⟩

/-- On ports H and S no check of R393 refuses the consumer's read of records, however many are unread (R257). -/
theorem State.readRefusal_records {s : State} {v : Via} (hport : v.port = .h ∨ v.port = .s) {r : Nat} (hr : r < 256)
    (hstart : s.startingUp = false) (hconsumes : s.consumes r v.port = true) : s.readRefusal v (0x2500 + r) 10 true = 0 := by
  have hentry : objRing r 10 = some recordsEntry := rfl
  have hletter : recordsEntry.readLetter v = 0 := by
    obtain h | h := hport <;> simp [Entry.readLetter, recordsEntry, h, Entry.letter, Letter.reads, Entry.originGrants]
  have hty : recordsEntry.ty = .domain := rfl
  simp [State.readRefusal, objectAt_ring hr, hentry, hletter, hty, hstart, hconsumes]

/-- A read of records by the consumer returns the oldest unread ones and passes them to outstanding (R257). -/
theorem State.read_records {s : State} {v : Via} (hport : v.port = .h ∨ v.port = .s) {r : Nat} (hr : r < 256)
    (hstart : s.startingUp = false) (hconsumes : s.consumes r v.port = true) (count : Nat) (abort : Bool) :
    s.read v (0x2500 + r) 10 count true abort =
      (0, ((s.ring r).unread.take count).flatMap Rec.bytes, (s.setRing r ((s.ring r).take count)).complete v) := by
  have hentry : entryOf (0x2500 + r) 10 = some recordsEntry := by
    simp only [entryOf, objectAt_ring hr]
    rfl
  have hty : recordsEntry.ty = .domain := rfl
  simp [State.read, State.readRefusal_records hport hr hstart hconsumes, hentry, hty]

/-- The time that an access names neither ends start-up nor changes a ring's consumer. -/
theorem State.heard_access (s : State) (v : Via) : (s.heard v).startingUp = s.startingUp ∧ (s.heard v).consumes = s.consumes ∧
    (s.heard v).rings = s.rings ∧ (s.heard v).tick.counter = s.tick.counter := by
  have h := s.begin.at_sameButTriggers v.cyc
  unfold State.heard
  unfold State.sameButTriggers at h
  rw [h]
  exact ⟨rfl, rfl, rfl, rfl⟩

/-- Settles O20: no check refuses the read. -/
theorem recordReadsTakeTheOldest : Obligations.RecordReadsTakeTheOldest := by
  intro s v r k hreached hstart hport hconsumes h g
  obtain ⟨hcore, hserves⟩ := hreached
  obtain ⟨hstart', hconsumes', _⟩ := s.heard_access v
  have hread := State.read_records (s := h) hport r.isLt (hstart'.trans hstart) (by rw [hconsumes']; exact hconsumes) k.val
  refine ⟨State.ends_of_run (f := (·.portRead v (0x2500 + r.toNat) 10 k.val true)) hcore rfl ?_, by rw [hread], by rw [hread]⟩
  refine (if_pos hserves).trans ?_
  exact congrArg (fun x => x.2.2) (hread (decide (v.port = .n)))

/-- What the ledger holds besides the triggers accepted: what is placed, returned beyond the count, and the snapshot (R258, R265). -/
def State.placed (s : State) : Ledger := { s.ledger with accepted := 0 }

/-- Starting a conversion (R49). -/
theorem State.startConv_placed (s : State) (l n : Nat) (t : Trig) (e : Nat) : (s.startConv l n t e).placed = s.placed := by
  unfold State.startConv
  dsimp only
  split <;> rfl

/-- A free lane that starts what waits, or nothing (R48). -/
theorem State.startLane_placed (e : Nat) (s : State) (l : Nat) : (State.startLane e s l).placed = s.placed := by
  unfold State.startLane
  split
  · split
    · exact s.startConv_placed ..
    · rfl
  · rfl

/-- The start edges before a cycle, with every free lane at each. -/
theorem State.startsBefore_placed (s : State) (c : Nat) : (s.startsBefore c).placed = s.placed :=
  foldl_keeps State.placed _ (fun s e => foldl_keeps State.placed _ (fun s l => s.startLane_placed e l) _ s) _ _

/-- Accepting a trigger places none (R55, R264). -/
theorem State.accept_placed (s : State) (n : Nat) (t : TickNo) : (s.accept n t).placed = s.placed := by
  unfold State.accept
  dsimp only
  repeat' split
  all_goals rfl

/-- An event of a slot (R54). -/
theorem State.slotEvent_placed (s : State) (t : TickNo) (n : Nat) : (s.slotEvent t n).placed = s.placed := by
  unfold State.slotEvent
  dsimp only
  split
  · rfl
  · split
    · exact State.accept_placed ..
    · rfl

/-- What one latch cycle takes (R53, R56). -/
theorem State.latchCycle_placed (s : State) (c : Nat) : (s.latchCycle c).placed = s.placed := by
  unfold State.latchCycle
  exact (foldl_keeps State.placed _ (fun s n => s.slotEvent_placed _ n) _ _).trans (s.startsBefore_placed c)

/-- A calibration that a resolved trigger ends (R353). -/
theorem State.calWhey_placed (s : State) : s.calWhey.placed = s.placed := by
  unfold State.calWhey
  repeat' split
  all_goals rfl

/-- Time within a tick accepts triggers and places none (R53, R264). -/
theorem State.heard_placed (s : State) (v : Via) : (s.heard v).placed = s.placed :=
  (State.startsBefore_placed _ _).trans
    ((State.calWhey_placed _).trans (foldl_keeps State.placed _ State.latchCycle_placed _ s.begin))

/-- A refused access leaves the rings alone; it is the newest entry of the refusal log (R398). -/
theorem State.refuse_log (s : State) (v : Via) (idx sub code : Nat) (abort : Bool) : (s.refuse v idx sub code abort).rings = s.rings ∧
    (s.refuse v idx sub code abort).diag.refusals.head? =
      some ⟨BitVec.ofNat 16 code, v.port, BitVec.ofNat 32 (key idx sub), s.tick.counter⟩ := by
  have hrings : (s.noteRelay v false).rings = s.rings := by
    unfold State.noteRelay
    split <;> rfl
  unfold State.refuse State.refusal DiagSt.refusal
  dsimp only
  split <;> simp [hrings]

/-- A credit return refused with 0601h counts in 2600h.07 (R258). -/
theorem State.refuse_overReturn (s : State) (v : Via) (idx sub : Nat) (abort : Bool) :
    (s.refuse v idx sub 0x601 abort).ledger.overReturn = satInc s.ledger.overReturn := by
  have hrelay : (s.noteRelay v false).ledger = s.ledger := by
    unfold State.noteRelay
    split <;> rfl
  unfold State.refuse State.refusal
  rw [if_pos rfl, hrelay]

/-- A credit return that a check refuses ends in the refusal; it spends no challenge (R258, R398). -/
theorem ends_creditReturn_refused {s : State} {v : Via} {r : BitVec 8} {n : BitVec 16} {c : Nat} (hreached : s.reached v)
    (hport : v.port = .h ∨ v.port = .s) (hcode : (s.heard v).writeRefusal v (0x2500 + r.toNat) 7 (leBytes 2 n.toNat) = c) (hc : c ≠ 0) :
    Ends (.creditReturn v r n) s ((s.heard v).refuse v (0x2500 + r.toNat) 7 c false) := by
  obtain ⟨hcore, hserves⟩ := hreached
  have hspends : spends (0x2500 + r.toNat) 7 c = false := by simp [spends]
  have habort : decide (v.port = .n) = false := by
    obtain h | h := hport <;> simp [h]
  refine State.ends_of_run hcore (exec_of_writes (i := .creditReturn v r n) rfl s) ?_
  refine (State.portWrite_of_refusal hserves hcode hc).trans ?_
  rw [hspends, habort]
  rfl

/-- A credit return that every check admits (R258, R394). -/
theorem ends_creditReturn_admitted {s : State} {v : Via} {r : BitVec 8} {n : BitVec 16} (hreached : s.reached v)
    (hcode : (s.heard v).writeRefusal v (0x2500 + r.toNat) 7 (leBytes 2 n.toNat) = 0) :
    Ends (.creditReturn v r n) s (((s.heard v).returnCredits r.toNat n.toNat).complete v) := by
  obtain ⟨hcore, hserves⟩ := hreached
  refine ends_of_liveLow rfl ⟨hcore, hserves, hcode⟩ (fun e he => ?_) (by omega) ?_
  · simp only [entryOf, objectAt_ring r.isLt] at he
    cases he
    exact nofun
  · unfold State.liveLow
    iterate 7 rw [if_neg (by omega)]
    rw [if_pos (by omega), Nat.add_sub_cancel_left, leNum_leBytes_word]

/-- Settles O19: the range and the outstanding count are the only checks that can refuse the consumer. -/
theorem creditReturnFreesPlaces : Obligations.CreditReturnFreesPlaces := by
  intro s v r n hreached hstart hport hconsumes h g
  obtain ⟨hstart', hconsumes', hrings, hcounter⟩ := s.heard_access v
  have hcode := State.writeRefusal_credit (s := h) hport r.isLt (hstart'.trans hstart) (by rw [hconsumes']; exact hconsumes) n
  refine ⟨fun hrange => ?_, fun hlo hhi hwithin => ?_, fun hlo hhi hbeyond => ?_⟩
  · exact ends_creditReturn_refused hreached hport (hcode.trans (if_neg (by omega))) (by decide)
  · rw [if_pos ⟨hlo, hhi⟩, if_neg (Nat.not_lt.mpr hwithin)] at hcode
    rw [← State.returnCredits_within hwithin]
    exact ends_creditReturn_admitted hreached hcode
  · rw [if_pos ⟨hlo, hhi⟩, if_pos hbeyond] at hcode
    have hends := ends_creditReturn_refused hreached hport hcode (by decide)
    obtain ⟨hkept, hlog⟩ := h.refuse_log v (0x2500 + r.toNat) 7 0x601 false
    refine ⟨hends, _, hends, ?_⟩
    rw [State.eq_of_apart (State.apart_settle _)]
    exact ⟨hkept.trans hrings, (h.refuse_overReturn ..).trans (congrArg (satInc ·.overReturn) (s.heard_placed v)),
      hlog.trans (by rw [hcounter]; rfl)⟩

end Sys2Proof.Machine
end

section
/-! PROOFS. Transmitted PDOs: their events, their timers and the credit of their records (R259, R267, R401, R433, R498). -/
namespace Sys2Proof.Machine
open Sys2Proof

/-- A TPDO that is not exchanged has no event (R433). -/
theorem State.tpdoEvent_of_off {s : State} {k : Nat} (h : s.tpdoOn k = false) : s.tpdoEvent k = s := by simp [State.tpdoEvent, h]

/-- Within the inhibit time an event waits (R433). -/
theorem State.tpdoEvent_of_inhibited {s : State} {k : Nat} (hon : s.tpdoOn k = true) (h : (s.tpdoRt k).inhibit = true) :
    s.tpdoEvent k = s.updTpdo k (fun r => { r with deferred := true }) := by simp [State.tpdoEvent, hon, h]

/-- Outside the inhibit time an event forms a frame (R433). -/
theorem State.tpdoEvent_of_free {s : State} {k : Nat} (hon : s.tpdoOn k = true) (h : (s.tpdoRt k).inhibit = false) :
    s.tpdoEvent k = s.tpdoForm k := by simp [State.tpdoEvent, hon, h]

/-- A TPDO of entries is formed of all of them (R401). -/
theorem State.tpdoForm_of_entries {s : State} {k : Nat} (h : s.tpdoRing k = none) : s.tpdoForm k =
    let b := (s.pdoMap (0x1a00 + k)).flatMap s.mappedBytes
    s.tpdoQueue k 0 0 (padTo (fdLength b.length) b) := by simp only [State.tpdoForm, h]

/-- A TPDO of records takes the oldest unread of a ring that port N consumes, up to as many as it maps (R257, R401). -/
theorem State.tpdoForm_of_records {s : State} {k r n : Nat} (h : s.tpdoRing k = some (r, n)) : s.tpdoForm k =
    let j := min n (s.ring r).unread.length
    if s.acfg (0x2500 + r) 3 ≠ 1 then { s with diag := { s.diag with noConsumer := satInc s.diag.noConsumer } }
    else if j = 0 then s
    else (s.setRing r ((s.ring r).take j)).tpdoQueue k r j (((s.ring r).unread.take j).flatMap Rec.bytes) := by
  simp only [State.tpdoForm, h]

/-- R401, R433: what an event queues. -/
theorem tpdoEventsQueueFrames : Claim.TpdoEventsQueueFrames := by
  intro s k t
  refine ⟨State.tpdoEvent_of_off, State.tpdoEvent_of_inhibited, fun hon hfree => ?_⟩
  have ht : t = s.tpdoForm k := State.tpdoEvent_of_free hon hfree
  rw [ht]
  refine ⟨State.tpdoForm_of_entries, fun r n hring => ?_⟩
  rw [State.tpdoForm_of_records hring]
  exact ⟨fun hother => if_pos hother, fun hours hnone => (if_neg (not_not.mpr hours)).trans (if_pos hnone),
    fun hours hsome => (if_neg (not_not.mpr hours)).trans (if_neg hsome)⟩

/-- Whether a TPDO has what its event timer sends: a record TPDO, an unread record (R433). -/
def State.tpdoHolds (s : State) (k : Nat) : Bool :=
  match s.tpdoRing k with
  | some (r, _) => decide ((s.ring r).unread ≠ [])
  | none => true

/-- The event timer of an event-driven TPDO that has what it sends is an event (R433). -/
theorem State.tpdoTimer_eq (s : State) (k : Nat) : s.tpdoTimer k =
    if (s.canTakes && s.tpdoByEvent k && decide (s.lcfg (0x1800 + k) 5 ≠ 0) && s.tpdoHolds k) = true then s.tpdoEvent k else s := by
  unfold State.tpdoTimer State.tpdoHolds
  cases s.tpdoRing k <;> simp

/-- The end of an inhibit time that runs is an event where one waited; in STANDBY none ends (R433, R498). -/
theorem State.inhibitEnd_eq (s : State) (k : Nat) : s.inhibitEnd k =
    if (s.tpdoRt k).inhibit = true ∧ s.pow.state ≠ .standby then
      let ended := s.updTpdo k (fun r => { r with inhibit := false, deferred := false })
      if (s.tpdoRt k).deferred = true then ended.tpdoEvent k else ended
    else s := by
  simp [State.inhibitEnd]

/-- R433, R498: the event timer and the end of the inhibit time. -/
theorem tpdoTimersAreEvents : Claim.TpdoTimersAreEvents := by
  intro s k hcore some' due ended
  have hdue : s.begin.tpdoTimer k.val = if due = true then s.begin.tpdoEvent k.val else s.begin := s.begin.tpdoTimer_eq k.val
  have hend := s.begin.inhibitEnd_eq k.val
  refine ⟨fun h => ?_, fun h => ?_, fun h => ?_, fun hpow hrun hplain => ?_, fun hpow hrun hdeferred => ?_⟩
  · exact State.ends_of_run (f := (·.tpdoTimer k.val)) hcore rfl (hdue.trans (if_pos h))
  · exact State.ends_of_run (f := (·.tpdoTimer k.val)) hcore rfl (hdue.trans (if_neg (Bool.eq_false_iff.mp h)))
  · refine State.ends_of_run (f := (·.inhibitEnd k.val)) hcore rfl (hend.trans (if_neg ?_))
    rintro ⟨hrun, hpow⟩
    obtain hstill | hstandby := h
    · exact Bool.false_ne_true (hstill.symm.trans hrun)
    · exact hpow hstandby
  · exact State.ends_of_run (f := (·.inhibitEnd k.val)) hcore rfl
      (hend.trans ((if_pos ⟨hrun, hpow⟩).trans (if_neg (Bool.eq_false_iff.mp hplain))))
  · exact State.ends_of_run (f := (·.inhibitEnd k.val)) hcore rfl (hend.trans ((if_pos ⟨hrun, hpow⟩).trans (if_pos hdeferred)))

/-- Whether a transmission is an event again: an event-driven record TPDO whose ring holds as many unread records as it maps
(R433; DEDUCED, log entry 61). -/
def State.tpdoAgain (s : State) (k : Nat) : Bool :=
  match s.tpdoRing k with
  | some (r, n) => s.tpdoByEvent k && decide (n ≤ (s.ring r).unread.length)
  | none => false

/-- That is decided by the live entries and by what is unread. -/
theorem State.tpdoAgain_congr {s u : State} (hlive : u.live = s.live) (hunread : ∀ q, (u.ring q).unread = (s.ring q).unread)
    (k : Nat) : u.tpdoAgain k = s.tpdoAgain k := by
  have hring : u.tpdoRing k = s.tpdoRing k := by
    unfold State.tpdoRing State.pdoMap State.mapped State.lcfg
    rw [hlive]
  have hevent : u.tpdoByEvent k = s.tpdoByEvent k := by
    unfold State.tpdoByEvent State.lcfg
    rw [hlive]
  unfold State.tpdoAgain
  rw [hring, hevent]
  simp only [hunread]

/-- What decides what a record TPDO sends and returns: the active copy, the live entries, the rings (R259, R401, R433). -/
def State.recordBasis (s : State) : Tbl Nat × Tbl Nat × Tbl Ring := (s.active, s.live, s.rings)

/-- With the same basis every entry and every ring reads the same. -/
theorem State.eq_of_recordBasis {s u : State} (h : u.recordBasis = s.recordBasis) :
    u.acfg = s.acfg ∧ u.live = s.live ∧ u.ring = s.ring := by
  simp only [State.recordBasis, Prod.mk.injEq] at h
  obtain ⟨hactive, hlive, hrings⟩ := h
  unfold State.acfg State.ring
  exact ⟨by rw [hactive], hlive, by rw [hrings]⟩

/-- A CREDIT frame, sent or not (R470). -/
theorem State.sendCredit_recordBasis (s : State) (o : OriginRt) : (s.sendCredit o).recordBasis = s.recordBasis := by
  unfold State.sendCredit State.galtSend
  split
  · split <;> rfl
  · rfl

/-- Credits passed on (R470). -/
theorem State.passCredits_recordBasis (s : State) (r : Nat) (recs : List Rec) :
    (s.passCredits r recs).recordBasis = s.recordBasis :=
  foldl_keeps State.recordBasis _ State.sendCredit_recordBasis _ _

/-- A frame of the CAN port, sent or not (R428). -/
theorem State.sendCan_recordBasis (s : State) (cob : Nat) (data : List Byte) : (s.sendCan cob data).recordBasis = s.recordBasis := by
  unfold State.sendCan
  split <;> rfl

/-- A frame goes out where the port takes frames (R428). -/
theorem State.mem_out_sendCan {s : State} (h : s.canOn = true) (cob : Nat) (data : List Byte) :
    Emit.can cob data s.canBrs ∈ (s.sendCan cob data).out := by
  rw [State.sendCan, if_pos h]
  exact List.mem_append_right _ (List.mem_singleton_self _)

/-- Places returned leave the live entries and what is unread (R258). -/
theorem State.returnCredits_keeps_unread (s : State) (r n : Nat) :
    (s.returnCredits r n).live = s.live ∧ ∀ q, ((s.returnCredits r n).ring q).unread = (s.ring q).unread := by
  obtain ⟨_, hlive, hring⟩ := State.eq_of_recordBasis
    ((s.setRing r ((s.ring r).credit n)).passCredits_recordBasis r ((s.ring r).outstanding.take n))
  refine ⟨hlive, fun q => (congrArg (fun x => (x q).unread) hring).trans ?_⟩
  by_cases hq : q = r
  · rw [hq, State.ring_setRing]
    rfl
  · rw [State.ring_setRing_other s hq]

/-- The state after the oldest queued frame of a TPDO has gone out (R428, R433). -/
def State.frameGone (s : State) (k : Nat) (rest : List (Nat × Nat × List Byte)) (data : List Byte) : State :=
  (s.updTpdo k (fun x => { x with queued := rest, inhibit := decide (s.lcfg (0x1800 + k) 3 ≠ 0) })).sendCan
    (s.liveVal (0x1800 + k) 1 % 2048) data

/-- The state after the credit of a frame's records: none for a frame of entries (R267), none beyond what is outstanding (DEDUCED, log
entry 62). -/
def State.frameCredited (s : State) (r j : Nat) : State := if j = 0 then s else s.tpdoCredit r j

/-- A transmission that is no event again ends with its credit; one that is, with that event (R259, R433). -/
theorem State.tpdoSent_of_queued {s : State} {k r j : Nat} {data : List Byte} {rest : List (Nat × Nat × List Byte)}
    (hqueued : (s.tpdoRt k).queued = (r, j, data) :: rest) (htakes : s.canTakes = true) (hnmt : s.can.nmt = .operational) :
    let u := (s.frameGone k rest data).frameCredited r j
    s.tpdoSent k = if u.tpdoAgain k = true then u.tpdoEvent k else u := by
  intro u
  unfold State.tpdoSent
  simp only [hqueued, htakes, hnmt, decide_true, Bool.and_self, if_true]
  change (match u.tpdoRing k with
    | some (q, n) => if (u.tpdoByEvent k && decide (n ≤ (u.ring q).unread.length)) = true then u.tpdoEvent k else u
    | none => u) = _
  unfold State.tpdoAgain
  cases u.tpdoRing k <;> rfl

/-- A frame that goes out leaves the basis of what record TPDOs send. -/
theorem State.frameGone_recordBasis (s : State) (k : Nat) (rest : List (Nat × Nat × List Byte)) (data : List Byte) :
    (s.frameGone k rest data).recordBasis = s.recordBasis := State.sendCan_recordBasis ..

/-- The credit of a frame leaves the live entries and what is unread (R259). -/
theorem State.frameCredited_keeps_unread (s : State) (r j : Nat) :
    (s.frameCredited r j).live = s.live ∧ ∀ q, ((s.frameCredited r j).ring q).unread = (s.ring q).unread := by
  unfold State.frameCredited State.tpdoCredit
  split
  · exact ⟨rfl, fun _ => rfl⟩
  · split
    · exact s.returnCredits_keeps_unread r j
    · exact ⟨rfl, fun _ => rfl⟩

/-- The credit of a frame: its records' places, where they are outstanding still on a ring that port N consumes (R259, R267). -/
theorem State.frameCredited_eq (s : State) (r j : Nat) : s.frameCredited r j =
    if j ≠ 0 ∧ s.acfg (0x2500 + r) 3 = 1 ∧ j ≤ (s.ring r).outstanding.length then
      (s.setRing r { s.ring r with free := (s.ring r).free + j, outstanding := (s.ring r).outstanding.drop j }).passCredits r
        ((s.ring r).outstanding.take j)
    else s := by
  unfold State.frameCredited State.tpdoCredit
  by_cases hj : j = 0
  · rw [if_pos hj, if_neg (fun h => h.1 hj)]
  · rw [if_neg hj]
    by_cases hours : s.acfg (0x2500 + r) 3 = 1 ∧ j ≤ (s.ring r).outstanding.length
    · rw [if_pos hours, if_pos ⟨hj, hours⟩, State.returnCredits_within hours.2]
    · rw [if_neg hours, if_neg (fun h => hours h.2)]

/-- R259, R267, R433: a frame goes out. -/
theorem transmissionReturnsCredit : Claim.TransmissionReturnsCredit := by
  intro s k r j data rest hcore htakes hnmt hqueued sent g u again
  have hon : s.canOn = true := ((Bool.and_eq_true ..).mp htakes).2
  obtain ⟨hacfg, hlive, hring⟩ := State.eq_of_recordBasis (s := s) (u := sent) (s.begin.frameGone_recordBasis k.val rest data)
  have hu : sent.frameCredited r j = u := by
    rw [State.frameCredited_eq, hacfg, hring]
  have hagain : (sent.frameCredited r j).tpdoAgain k.val = again := by
    obtain ⟨hlive', hunread⟩ := sent.frameCredited_keeps_unread r j
    exact State.tpdoAgain_congr (s := s) (hlive'.trans hlive) (fun q => (hunread q).trans (by rw [hring])) k.val
  have hend : s.begin.tpdoSent k.val = if again = true then u.tpdoEvent k.val else u := by
    rw [← hagain, ← hu]
    exact State.tpdoSent_of_queued (s := s.begin) hqueued htakes hnmt
  refine ⟨State.mem_out_sendCan (s := s.begin.updTpdo k.val _) hon _ _, fun h => ?_, fun h => ?_⟩
  · exact State.ends_of_run (f := (·.tpdoSent k.val)) hcore rfl (hend.trans (if_neg (Bool.eq_false_iff.mp h)))
  · exact State.ends_of_run (f := (·.tpdoSent k.val)) hcore rfl (hend.trans (if_pos h))

/-- Settles O51, clause by clause. -/
theorem tpdos : Obligations.Tpdos := ⟨tpdoEventsQueueFrames, tpdoTimersAreEvents, transmissionReturnsCredit⟩

end Sys2Proof.Machine
end

section
/-! PROOFS. Result streams of GaltLink: what a member sends, what node 0 stores, acknowledgements and credits (R258, R468–R470, R477). -/
namespace Sys2Proof.Machine
open Sys2Proof

/-- Reading a stream that has been written. -/
@[simp] theorem State.stream_setStream (s : State) (r : Nat) (x : StreamRt) : (s.setStream r x).stream r = x :=
  tget_tput_same _ _ _ _

/-- Of two writes to a stream the second stands. -/
@[simp] theorem State.setStream_setStream (s : State) (r : Nat) (x y : StreamRt) :
    (s.setStream r x).setStream r y = s.setStream r y := by
  simp [State.setStream, State.updGalt]

/-- How many records of ring r a member may send behind the oldest `i` unread ones: four in a frame, sixteen unacknowledged (R468). -/
def State.streamRoom (s : State) (r i : Nat) : Nat := min 4 (min ((s.ring r).unread.length - i) (16 - i))

/-- What fits in the window is at most a frame, within the sixteen, and there (R468). -/
theorem State.streamRoom_bounds (s : State) (r i : Nat) : s.streamRoom r i ≤ 4 ∧ (i ≤ 16 → i + s.streamRoom r i ≤ 16) ∧
    (i ≤ (s.ring r).unread.length → i + s.streamRoom r i ≤ (s.ring r).unread.length) := by
  unfold State.streamRoom
  omega

/-- A STREAM frame of n records behind the oldest `i` unread ones is sent (R468). -/
def State.streamed (s : State) (r i n : Nat) : State :=
  (s.setStream r { s.stream r with sent := i + n, taken := max (s.stream r).taken (i + n) }).galtSend 7 0
    (leBytes 1 r ++ leBytes 2 ((s.stream r).seq + BitVec.ofNat 16 i).toNat ++
      (((s.ring r).unread.drop i).take n).flatMap (fun q => (q.relay s.galt.addr).bytes))

/-- What fits in the window is there to be sent. -/
theorem State.isEmpty_streamRoom (s : State) (r i : Nat) :
    (((s.ring r).unread.drop i).take (s.streamRoom r i)).isEmpty = true ↔ s.streamRoom r i = 0 := by
  rw [List.isEmpty_iff_length_eq_zero, List.length_take, List.length_drop]
  unfold State.streamRoom
  omega

/-- The next frame of a stream goes behind the records sent, where one fits in the window (R468). -/
theorem State.streamNext_eq (s : State) (r : Nat) : s.streamNext r =
    if s.streamRoom r (s.stream r).sent = 0 then s else s.streamed r (s.stream r).sent (s.streamRoom r (s.stream r).sent) :=
  if_congr (s.isEmpty_streamRoom r (s.stream r).sent) rfl rfl

/-- A resend starts from the oldest unacknowledged record, where any has been sent (R468). -/
theorem State.streamResend_of_sent {s : State} {r : Nat} (hon : s.streams r = true) (hsent : (s.stream r).sent ≠ 0) :
    s.streamResend r =
      if s.streamRoom r 0 = 0 then s.setStream r { s.stream r with sent := 0 } else s.streamed r 0 (s.streamRoom r 0) := by
  have hdue : (s.streams r && decide ((s.stream r).sent ≠ 0)) = true := (Bool.and_eq_true ..).mpr ⟨hon, decide_eq_true hsent⟩
  refine (if_pos hdue).trans ((State.streamNext_eq ..).trans ?_)
  rw [State.stream_setStream]
  refine if_congr Iff.rfl rfl ?_
  unfold State.streamed
  rw [State.stream_setStream, State.setStream_setStream]
  rfl

/-- A node that does not stream a ring sends none of it (R468, R473). -/
theorem State.stream_of_off {s : State} {r : Nat} (h : s.streams r = false) : s.streamSend r = s ∧ s.streamResend r = s := by
  simp [State.streamSend, State.streamResend, h]

/-- A member streams a ring that G consumes while it is in a closed ring and its transmit domain runs (R468, R473). -/
theorem State.streams_iff (s : State) (r : Nat) : s.streams r = true ↔
    s.galtOn = true ∧ s.role = 2 ∧ s.galt.state = 2 ∧ s.netHalted = false ∧ s.acfg (0x2500 + r) 3 = 2 := by
  simp [State.streams, and_assoc]

/-- R468: what a member sends of a stream. -/
theorem streamsSendWithinTheWindow : Claim.StreamsSendWithinTheWindow := by
  intro s r hcore x unread sends
  have hbounds := s.streamRoom_bounds r.toNat
  refine ⟨fun hon => ⟨fun hroom => ?_, fun hroom => ?_⟩, fun hon hsent => ?_, fun hon hnone => ?_, fun hoff => ?_, s.streams_iff r.toNat⟩
  · have hsend : s.begin.streamSend r.toNat = s.begin.streamed r.toNat x.sent (s.streamRoom r.toNat x.sent) :=
      (if_pos hon).trans ((State.streamNext_eq ..).trans (if_neg hroom))
    exact ⟨fun h => absurd h hroom, fun _ => State.ends_of_run (f := (·.streamSend r.toNat)) hcore rfl hsend, hbounds x.sent⟩
  · exact State.ends_of_run (f := (·.streamSend r.toNat)) hcore rfl
      ((if_pos hon).trans ((State.streamNext_eq ..).trans (if_pos hroom)))
  · have hresend := State.streamResend_of_sent (s := s.begin) hon hsent
    exact ⟨fun h => State.ends_of_run (f := (·.streamResend r.toNat)) hcore rfl (hresend.trans (if_pos h)),
      fun h => State.ends_of_run (f := (·.streamResend r.toNat)) hcore rfl (hresend.trans (if_neg h)), hbounds 0⟩
  · refine State.ends_of_run (f := (·.streamResend r.toNat)) hcore rfl (if_neg fun h => ?_)
    exact of_decide_eq_true ((Bool.and_eq_true ..).mp h).2 hnone
  · obtain ⟨hsend, hresend⟩ := State.stream_of_off (s := s.begin) hoff
    exact ⟨State.ends_of_run (f := (·.streamSend r.toNat)) hcore rfl hsend,
      State.ends_of_run (f := (·.streamResend r.toNat)) hcore rfl hresend⟩

/-- A record that is the next in order of its origin is stored and acknowledged where it finds a place (R469, R477). -/
theorem State.judge_of_next {s : State} {serial : BitVec 32} {r : Nat} {q : BitVec 16}
    (h : (s.origin serial r).last = none ∨ (s.origin serial r).last = some (q - 1)) (org : BitVec 8) (b : BitVec 128) :
    s.judge org serial r q b =
      if (decide (s.acfg (0x2500 + r) 1 ≠ 0) && decide (s.acfg (0x2500 + r) 3 ≠ 2) && (s.ring r).takes) = true then
        ((s.setRing r ((s.ring r).put (recOfRelayed b serial))).setOrigin { s.origin serial r with last := some q }).ack org r q
      else s := by
  unfold State.judge
  obtain hlast | hlast := h <;> simp [hlast]

/-- Of a record out of order only one stored before is acknowledged, with the last SEQ stored (R469). -/
theorem State.judge_of_other {s : State} {serial : BitVec 32} {r : Nat} {q l : BitVec 16}
    (h : (s.origin serial r).last = some l) (hq : q ≠ l + 1) (org : BitVec 8) (b : BitVec 128) :
    s.judge org serial r q b = if (l - q).toNat < 32768 then s.ack org r l else s := by
  unfold State.judge
  simp only [h, decide_eq_false hq]
  exact if_neg Bool.false_ne_true

/-- R469, R477: what node 0 does with one record. -/
theorem streamedRecordsAreJudged : Claim.StreamedRecordsAreJudged := by
  intro s org serial r q b o place ack t
  refine ⟨fun hnext hplace => ?_, fun hnext hplace => ?_, fun l hl hq hold => ?_, fun l hl hq hahead => ?_⟩
  · exact (State.judge_of_next hnext org b).trans (if_pos hplace)
  · exact (State.judge_of_next hnext org b).trans (if_neg (Bool.eq_false_iff.mp hplace))
  · exact (State.judge_of_other hl hq org b).trans (if_pos hold)
  · exact (State.judge_of_other hl hq org b).trans (if_neg (Nat.not_lt.mpr hahead))

/-- The records of a frame are judged one by one, with rising SEQ (R469). -/
theorem State.judgeAll_eq_foldl (s : State) (org : BitVec 8) (serial : BitVec 32) (r : Nat) (q : BitVec 16) (recs : List (BitVec 128)) :
    s.judgeAll org serial r q recs =
      (recs.foldl (fun acc b => (acc.1.judge org serial r acc.2 b, acc.2 + 1)) (s, q)).1 := by
  induction recs generalizing s q with
  | nil => rfl
  | cons b recs ih => exact ih ..

/-- R469: a STREAM frame. -/
theorem streamFramesAreTaken : Claim.StreamFramesAreTaken := by
  intro s hd r q recs hcore hgalt p hgood here x judged
  have hframe : s.begin.streamFrame hd r.toNat q recs =
      if (here && x.present) = true then judged.1.ringEvents s.begin else s.begin.pass 7 hd p := by
    rw [← State.judgeAll_eq_foldl]
    exact State.galtFrame_of_good (s := s.begin) hgalt hgood _
  refine ⟨fun hnot => ?_, fun hhere hpresent => ?_⟩
  · refine State.ends_of_run (f := (·.streamFrame hd r.toNat q recs)) hcore rfl (hframe.trans (if_neg ?_))
    obtain h | h := hnot <;> simp [h]
  · exact State.ends_of_run (f := (·.streamFrame hd r.toNat q recs)) hcore rfl (hframe.trans (if_pos (by simp [hhere, hpresent])))

/-- Sending a frame on, or not, leaves rings and streams, the active copy and the ledger (R456, R472). -/
theorem State.pass_keeps_rings (s : State) (typ : Nat) (hd : FrameHead) (p : List Byte) :
    (s.pass typ hd p).ring = s.ring ∧ (s.pass typ hd p).stream = s.stream ∧ (s.pass typ hd p).acfg = s.acfg ∧
      (s.pass typ hd p).ledger = s.ledger := by
  unfold State.pass State.forward
  split
  · exact ⟨rfl, rfl, rfl, rfl⟩
  · split <;> exact ⟨rfl, rfl, rfl, rfl⟩

/-- R469: an ACK frame. -/
theorem acksTakeSentRecords : Claim.AcksTakeSentRecords := by
  intro s hd r q hcore hgalt p hgood here g x n passed
  obtain ⟨hring, hstream, -⟩ := s.begin.pass_keeps_rings 8 hd p
  have hacked : passed.acked r.toNat q = if n ≤ x.taken then
      (passed.setRing r.toNat (g.take n)).setStream r.toNat { x with seq := q + 1, sent := x.sent - n, taken := x.taken - n }
      else passed := by
    unfold State.acked
    rw [hring, hstream]
    rfl
  have hframe : s.begin.ackFrame hd r.toNat q =
      if (here && decide (s.acfg (0x2500 + r.toNat) 3 = 2)) = true then passed.acked r.toNat q else passed :=
    State.galtFrame_of_good (s := s.begin) hgalt hgood _
  refine ⟨fun hhere hours hsent => ?_, fun hnot => ?_⟩
  · exact State.ends_of_run (f := (·.ackFrame hd r.toNat q)) hcore rfl
      (hframe.trans ((if_pos (by simp [hhere, hours])).trans (hacked.trans (if_pos hsent))))
  · refine State.ends_of_run (f := (·.ackFrame hd r.toNat q)) hcore rfl (hframe.trans ?_)
    by_cases htaken : n ≤ x.taken
    · refine if_neg ?_
      obtain h | h | h := hnot
      · simp [h]
      · simp [h]
      · omega
    · rw [hacked, if_neg htaken, ite_self]

/-- The cumulative count of a CREDIT is kept, whatever comes of it (R470). -/
def State.creditNoted (s : State) (r : Nat) (c : BitVec 16) : State := s.setStream r { s.stream r with credit := c }

section
variable {s : State} {r : Nat} {c : BitVec 16}

/-- A count that has not risen returns nothing (R470). -/
theorem State.credited_of_same (hn : (c - (s.stream r).credit).toNat = 0) : s.credited r c = s.creditNoted r c := if_pos hn

/-- A credit for a ring that G does not consume is refused with 0602h (DEDUCED, log entry 65). -/
theorem State.credited_of_other (hn : (c - (s.stream r).credit).toNat ≠ 0) (hother : s.acfg (0x2500 + r) 3 ≠ 2) :
    s.credited r c = (s.creditNoted r c).refusal 0x602 .g (key (0x2500 + r) 7) 0 := (if_neg hn).trans (if_pos hother)

/-- A credit beyond the outstanding count is refused with 0601h and counted in 2600h.07 (R258). -/
theorem State.credited_beyond (hn : (c - (s.stream r).credit).toNat ≠ 0) (hours : s.acfg (0x2500 + r) 3 = 2)
    (hbeyond : (s.ring r).outstanding.length < (c - (s.stream r).credit).toNat) : s.credited r c =
      { (s.creditNoted r c).refusal 0x601 .g (key (0x2500 + r) 7) 0 with
        ledger := { s.ledger with overReturn := satInc s.ledger.overReturn } } :=
  (if_neg hn).trans ((if_neg (not_not.mpr hours)).trans (if_pos hbeyond))

/-- A credit within the outstanding count frees its places (R258, R470). -/
theorem State.credited_within (hn : (c - (s.stream r).credit).toNat ≠ 0) (hours : s.acfg (0x2500 + r) 3 = 2)
    (hwithin : (c - (s.stream r).credit).toNat ≤ (s.ring r).outstanding.length) :
    s.credited r c = (s.creditNoted r c).returnCredits r (c - (s.stream r).credit).toNat :=
  (if_neg hn).trans ((if_neg (not_not.mpr hours)).trans (if_neg (Nat.not_lt.mpr hwithin)))

end

/-- R258, R470: a CREDIT frame. -/
theorem creditsFreePlaces : Claim.CreditsFreePlaces := by
  intro s hd r c hcore hgalt p hgood here g x n u mineToo
  obtain ⟨hring, hstream, hacfg, hledger⟩ := s.begin.pass_keeps_rings 9 hd p
  have hframe : s.begin.creditFrame hd r.toNat c =
      if here = true then (s.begin.pass 9 hd p).credited r.toNat c else s.begin.pass 9 hd p :=
    State.galtFrame_of_good (s := s.begin) hgalt hgood _
  have hends : ∀ t, here = true → (s.begin.pass 9 hd p).credited r.toNat c = t → Ends (.creditFrame hd r c) s t := fun t hhere ht =>
    State.ends_of_run (f := (·.creditFrame hd r.toNat c)) hcore rfl (hframe.trans ((if_pos hhere).trans ht))
  have hnoted : (s.begin.pass 9 hd p).creditNoted r.toNat c = u := by
    unfold State.creditNoted
    rw [hstream]
    rfl
  have hreturned : (c - ((s.begin.pass 9 hd p).stream r.toNat).credit).toNat = n := by
    rw [hstream]
    rfl
  have huring : u.ring r.toNat = g := congrFun hring r.toNat
  rw [← hreturned]
  refine ⟨fun hnot => ?_, fun hhere hn => ?_, fun hhere hn hother => ?_, fun hhere hn hours hbeyond => ?_, fun hhere hn hours hwithin => ?_⟩
  · exact State.ends_of_run (f := (·.creditFrame hd r.toNat c)) hcore rfl (hframe.trans (if_neg (Bool.eq_false_iff.mp hnot)))
  · exact hends _ hhere ((State.credited_of_same hn).trans hnoted)
  · have hconsumer : (s.begin.pass 9 hd p).acfg (0x2500 + r.toNat) 3 ≠ 2 := by
      rw [hacfg]
      exact of_decide_eq_false hother
    exact hends _ hhere ((State.credited_of_other hn hconsumer).trans (by rw [hnoted]))
  all_goals
    have hconsumer : (s.begin.pass 9 hd p).acfg (0x2500 + r.toNat) 3 = 2 := by
      rw [hacfg]
      exact of_decide_eq_true hours
  · refine hends _ hhere ((State.credited_beyond hn hconsumer (by rwa [hring])).trans ?_)
    rw [hnoted, hledger]
    rfl
  · refine hends _ hhere ((State.credited_within hn hconsumer (by rwa [hring])).trans ?_)
    rw [hnoted, ← huring]
    exact State.returnCredits_within (by rwa [huring])

/-- Settles O57, clause by clause. -/
theorem galtLinkStreams : Obligations.GaltLinkStreams :=
  ⟨streamsSendWithinTheWindow, streamedRecordsAreJudged, streamFramesAreTaken, acksTakeSentRecords, creditsFreePlaces⟩

end Sys2Proof.Machine
end

section
/-! PROOFS. Elements: the debounce, repeats, and the limits of rest and start (R281–R285, R297). -/
namespace Sys2Proof.Machine
open Sys2Proof

/-- What an evaluation of a started element in IDLE does once the debounce is through (R281). -/
theorem ElemRt.judge_touch {r : ElemRt} {p : ElemPar} {m : Rat} (hstarted : r.started = true) (hstate : r.state = .idle)
    (hton : p.ton ≤ m - r.b) (hdeb : p.deb ≤ r.count + 1) (i : Nat) (b0 : Rat × Bool) :
    r.judge i p b0 m =
      ({ ({ r with m := m, d := m - r.b } : ElemRt).enter .pressed with touchDue := true }, some 0x30) := by
  simp [ElemRt.judge, hstarted, hstate, hton, hdeb]

/-- In PRESSED and STUCK an evaluation below Toff releases once the debounce is through, and one at or above it ends the row (R281). -/
theorem ElemRt.judge_held {r : ElemRt} (hstarted : r.started = true) (hstate : r.state = .pressed ∨ r.state = .stuck)
    (i : Nat) (p : ElemPar) (b0 : Rat × Bool) (m : Rat) :
    let x : ElemRt := { r with m := m, d := m - r.b }
    r.judge i p b0 m =
      if m - r.b < p.toff then
        if p.deb ≤ r.count + 1 then ({ x.enter .idle with releaseDue := true, touchTick := none }, some 0x31)
        else ({ x with count := r.count + 1 }, none)
      else ({ x with count := 0 }, none) := by
  obtain h | h := hstate <;> simp [ElemRt.judge, hstarted, h]

/-- R281, R284: touch and release. -/
theorem debounceDecidesTouchAndRelease : Claim.DebounceDecidesTouchAndRelease := by
  refine fun r i p b0 m hstarted => ⟨fun hidle hton hdeb => ?_, fun hheld htoff hdeb => ?_, fun hheld htoff => ?_⟩
  · rw [ElemRt.judge_touch hstarted hidle hton hdeb]
    exact ⟨rfl, rfl, rfl, rfl, rfl, rfl⟩
  · rw [ElemRt.judge_held hstarted hheld, if_pos htoff, if_pos hdeb]
    exact ⟨rfl, rfl, rfl, rfl, rfl⟩
  · rw [ElemRt.judge_held hstarted hheld, if_neg (not_lt.mpr htoff)]
    exact ⟨rfl, rfl, rfl⟩

/-- The t0 of a tick latches a repeat where one is due, e + j·r is reached in PRESSED, and no pin is in fault (R283, R297). -/
theorem State.repeats_iff {s : State} {i : Nat} {r : ElemRt} {e : TickNo} (htouch : r.touchTick = some e) :
    s.repeats i r = true ↔ r.repeatDue = true ∧ (elemPar s.active i).acts / 4 % 2 = 1 ∧ r.state = .pressed ∧
      s.tick.counter ≠ e ∧ (s.tick.counter - e).toNat % (elemPar s.active i).rep = 0 ∧ s.muted i = false := by
  simp [State.repeats, repeatAt, htouch, and_assoc]

/-- Without a latched touch action none is latched (R283). -/
theorem State.repeats_of_untouched {s : State} {i : Nat} {r : ElemRt} (htouch : r.touchTick = none) : s.repeats i r = false := by
  simp [State.repeats, repeatAt, htouch]

/-- R283, R297: REPEAT and the t0 that latches it. -/
theorem repeatsFallOnTheirTicks : Claim.RepeatsFallOnTheirTicks := by
  refine fun s el hcore => ⟨fun hpressed htouch => ?_, fun hnot => ?_, fun e htouch => State.repeats_iff htouch,
    State.repeats_of_untouched⟩
  · exact State.ends_of_run (f := (·.repeatAction (elementNum el))) hcore rfl (if_pos ⟨hpressed, htouch⟩)
  · refine State.ends_of_run (f := (·.repeatAction (elementNum el))) hcore rfl (if_neg ?_)
    rintro ⟨hpressed, htouch⟩
    exact hnot.elim (· hpressed) fun hnone => Option.isSome_iff_ne_none.mp htouch hnone

/-- A boundary advances the timer of an element, and leaves its measurement, its actions and its limit alone (R284). -/
theorem State.elemNext_kept (s : State) (i : Nat) : (s.elemNext i).m = (s.elem i).m ∧
    (s.elemNext i).limitDue = (s.elem i).limitDue ∧ (s.elemNext i).touchDue = (s.elem i).touchDue ∧
    (s.elemNext i).releaseDue = (s.elem i).releaseDue := by
  unfold State.elemNext ElemRt.advance
  repeat' split
  all_goals exact ⟨rfl, rfl, rfl, rfl⟩

/-- An element at its start limit is not PRESSED, so at no rest limit (R284). -/
theorem State.restDue_of_startDue {s : State} {r : ElemRt} (h : s.startDue r = true) : s.restDue r = false := by
  simp only [State.startDue, Bool.and_eq_true, decide_eq_true_eq] at h
  simp [State.restDue, h.1.1]

/-- Clearing the mark of a limit where none is set. -/
theorem ElemRt.clearLimit_of_none {r : ElemRt} (h : r.limitDue = false) : { r with limitDue := false } = r := by rw [← h]

/-- State `u` is `s` with element i as `r`, but for what events bring: the other elements stay. -/
structure State.setsElem (s : State) (i : Nat) (r : ElemRt) (u : State) : Prop where
  frame : u.sameButEvaluations s
  other : ∀ k, k ≠ i → u.elem k = s.elem k
  same : u.elem i = r

/-- A further change of element i. -/
theorem State.setsElem.updElem {s t : State} {i : Nat} {r : ElemRt} (h : s.setsElem i r t) (f : ElemRt → ElemRt) :
    s.setsElem i (f r) (t.updElem i f) :=
  ⟨State.sameButEvaluations_trans ⟨rfl, rfl, rfl, rfl, rfl, rfl⟩ h.frame,
    fun k hk => (t.elem_updElem_other hk f).trans (h.other k hk), (t.elem_updElem i f).trans (congrArg f h.same)⟩

/-- An event after a change of element i leaves it at that. -/
theorem State.setsElem.elemEvent {s t : State} {i : Nat} {r : ElemRt} (h : s.setsElem i r t) (code : Nat) (n : TickNo) (d : Rat) :
    s.setsElem i r (t.elemEvent i code n d) := by
  obtain ⟨hframe, helems⟩ : (t.elemEvent i code n d).sameButEvaluations t ∧ (t.elemEvent i code n d).elems = t.elems :=
    t.touchEvent_sameButEvaluations ..
  have helem : (t.elemEvent i code n d).elem = t.elem := by
    funext k
    simp only [State.elem, helems]
  exact ⟨State.sameButEvaluations_trans hframe h.frame, helem ▸ h.other, helem ▸ h.same⟩

/-- An element whose limit is judged at t0: at its rest limit it is STUCK, at its start limit IDLE with b = m (R284). -/
def State.limited (s : State) (r : ElemRt) : ElemRt :=
  let x : ElemRt := { r with limitDue := false }
  if r.limitDue then
    if s.restDue r then x.enter .stuck else if s.startDue r then { x.enter .idle with b := x.m, d := 0 } else x
  else r

/-- A limit is taken for its element alone (R284). -/
theorem State.setsElem.elemLimit {s t : State} {i : Nat} {r : ElemRt} (h : s.setsElem i r t) :
    s.setsElem i (t.limited r) (t.elemLimit i) := by
  have hx := h.updElem (fun r => { r with limitDue := false })
  unfold State.elemLimit State.limited
  rw [h.same]
  dsimp only
  split
  · split
    · exact (hx.updElem fun r => r.enter .stuck).elemEvent ..
    · split
      · exact (hx.updElem fun r => { r.enter .idle with b := r.m, d := 0 }).elemEvent ..
      · exact hx
  · exact h

/-- Element i as t0 finds it before its limits are judged: its timer advanced, its actions due come to t0 (R283, R284). -/
def State.elemDue (s : State) (i : Nat) : ElemRt :=
  { s.elemNext i with
    touchDue := false, releaseDue := false, touchNow := (s.elem i).touchDue, releaseNow := (s.elem i).releaseDue }

/-- At t0 an element's timer advances, its actions come to t0, and its limit is judged (R283, R284, R298). -/
theorem State.elemOpen_spec (s : State) (i : Nat) : s.setsElem i (s.limited (s.elemDue i)) (s.elemOpen i) := by
  have hself : s.setsElem i (s.elem i) s := ⟨s.sameButEvaluations_refl, fun _ _ => rfl, rfl⟩
  have hopen := (hself.updElem fun _ => { s.elemNext i with
    touchDue := false, releaseDue := false, touchNow := (s.elemNext i).touchDue, releaseNow := (s.elemNext i).releaseDue }).elemLimit
  obtain ⟨_, _, htouch, hrelease⟩ := s.elemNext_kept i
  unfold State.elemDue
  rw [← htouch, ← hrelease]
  exact hopen

/-- R284: the limits of rest and start, and what t0 makes of them. -/
theorem elementLimitsAct : Claim.ElementLimitsAct := by
  intro s el i r x t opened
  obtain ⟨hframe, hother, hsame⟩ := s.elemOpen_spec i
  obtain ⟨hm, hlimitDue, _, _⟩ := s.elemNext_kept i
  refine ⟨fun hcore => ⟨fun h => ?_, fun h => ?_, fun h => ?_, fun h => ?_⟩, fun hlimit hrest => ?_, fun hlimit hstart => ?_,
    fun hnot => ?_, hother, ?_⟩
  · exact State.ends_of_run (f := (·.restLimit i)) hcore rfl (if_pos h)
  · exact State.ends_of_run (f := (·.restLimit i)) hcore rfl (if_neg (Bool.eq_false_iff.mp h))
  · exact State.ends_of_run (f := (·.startLimit i)) hcore rfl (if_pos h)
  · exact State.ends_of_run (f := (·.startLimit i)) hcore rfl (if_neg (Bool.eq_false_iff.mp h))
  · exact hsame.trans ((if_pos (hlimitDue.trans hlimit)).trans (if_pos hrest))
  · have hrest : ¬ s.restDue x = true := by simp [State.restDue_of_startDue hstart]
    refine hsame.trans ((if_pos (hlimitDue.trans hlimit)).trans ((if_neg hrest).trans ((if_pos hstart).trans ?_)))
    rw [← hm]
    rfl
  · cases hlimit : r.limitDue with
    | true =>
      obtain ⟨hrest, hstart⟩ := hnot.resolve_left (by simp [hlimit])
      exact hsame.trans ((if_pos (hlimitDue.trans hlimit)).trans
        ((if_neg (Bool.eq_false_iff.mp hrest)).trans (if_neg (Bool.eq_false_iff.mp hstart))))
    | false =>
      have hnone : (s.elemDue i).limitDue = false := hlimitDue.trans hlimit
      exact hsame.trans ((if_neg (Bool.eq_false_iff.mp hnone)).trans (ElemRt.clearLimit_of_none hnone).symm)
  · have hkept : (s.elemOpen i).sameConfig s ∧ (s.elemOpen i).sameLanes s ∧ (s.elemOpen i).rings = s.rings := by
      rw [hframe.frame]
      exact ⟨⟨rfl, rfl, rfl, rfl, rfl⟩, ⟨rfl, rfl, rfl, rfl, rfl, rfl⟩, rfl⟩
    exact hkept

/-- Settles O41, clause by clause. -/
theorem touchElements : Obligations.TouchElements :=
  ⟨debounceDecidesTouchAndRelease, repeatsFallOnTheirTicks, elementLimitsAct⟩

end Sys2Proof.Machine
end

section
/-! PROOFS. Plug groups: the sample that decides a state, and the end of a settle hold (R290–R292, R499). -/
namespace Sys2Proof.Machine
open Sys2Proof

/-- A change of one plug group leaves every other. -/
theorem State.plug_updPlug_other (s : State) {g q : Nat} (h : q ≠ g) (f : PlugRt → PlugRt) : (s.updPlug g f).plug q = s.plug q :=
  tget_tput_other _ _ _ _ _ h

/-- What the event of a plug group leaves alone: the groups themselves, configuration, lanes and rings (R288). -/
theorem State.plugEvent_frame (s : State) (g code : Nat) (t : TickNo) (mv : BitVec 16) :
    (s.plugEvent g code t mv).plugs = s.plugs ∧ (s.plugEvent g code t mv).sameConfig s ∧
      (s.plugEvent g code t mv).sameLanes s ∧ (s.plugEvent g code t mv).rings = s.rings := by
  obtain ⟨hframe, _⟩ := s.touchEvent_sameButEvaluations (s.acfg (0x2740 + g) 9) (48 + g) code (0x200 + g) (mv.setWidth 32) t 0
  unfold State.plugEvent
  rw [hframe.frame]
  exact ⟨rfl, ⟨rfl, rfl, rfl, rfl, rfl⟩, ⟨rfl, rfl, rfl, rfl, rfl, rfl⟩, rfl⟩

/-- A plug group that changes with its event, up to the end of the command: no other group does, and what `plugEvent_frame` lists
stays. -/
theorem State.updPlug_plugEvent_spec (s : State) (g code : Nat) (r : PlugRt) (t : TickNo) (mv : BitVec 16) :
    let u := ((s.updPlug g (fun _ => r)).plugEvent g code t mv).settle
    u.plug g = r ∧ (∀ q, q ≠ g → u.plug q = s.plug q) ∧ u.sameConfig s ∧ u.sameLanes s ∧ u.rings = s.rings := by
  intro u
  obtain ⟨hplugs, hconfig, hlanes, hrings⟩ := (s.updPlug g (fun _ => r)).plugEvent_frame g code t mv
  have hu : u = { (s.updPlug g (fun _ => r)).plugEvent g code t mv with can := u.can, out := u.out } :=
    State.eq_of_apart (State.apart_settle _)
  have hread : u.plug = (s.updPlug g (fun _ => r)).plug := by
    rw [hu]
    exact congrArg (tget fun _ => {}) hplugs
  rw [hread, State.plug_updPlug, hu]
  exact ⟨rfl, fun q hq => s.plug_updPlug_other hq _, hconfig, hlanes, hrings⟩

/-- The row of equal samples that a sample of class k makes (R291). -/
def PlugRt.row (r : PlugRt) (k : PlugState) : Nat := if k = r.state then 0 else if k = r.cls then r.run + 1 else 1

/-- The group in which the d-th equal sample of class k is taken: its new state, with the settle hold of PLUGGED (R291, R292). -/
def PlugRt.decided (r : PlugRt) (k : PlugState) (mv : BitVec 16) (hold : Nat) : PlugRt :=
  { r with state := k, cls := k, run := 0, mv := mv, changes := satInc r.changes
           hold := if k = .plugged then some (hold + 1) else none }

section
variable {s : State} {g : Nat} (hwhen : s.boundaryDue = true ∨ s.pow.state = .standby) (hon : g ∈ plugsOn s.active)
  (hpin : (s.pin (s.acfg (0x2740 + g) 2)).fault = 0) {mv : BitVec 16}
include hwhen hon hpin

/-- The d-th equal sample in a row of another class changes the state of its group, with the event of the state entered (R290–R292);
in STANDBY the change is kept (R499). -/
theorem State.plugSample_of_decided (hk : plugClass s.active g mv.toNat ≠ (s.plug g).state)
    (hrow : s.acfg (0x2740 + g) 6 ≤ (s.plug g).row (plugClass s.active g mv.toNat)) :
    s.plugSample g mv =
      (s.updPlug g (fun _ => { (s.plug g).decided (plugClass s.active g mv.toNat) mv (s.acfg (0x2740 + g) 8) with
        moved := (s.plug g).moved || decide (s.pow.state = .standby) })).plugEvent g (plugClass s.active g mv.toNat).code
          s.decidingTick mv := by
  have hsample : (s.plug g).sample (plugClass s.active g mv.toNat) mv (s.acfg (0x2740 + g) 6) (s.acfg (0x2740 + g) 8) =
      ((s.plug g).decided (plugClass s.active g mv.toNat) mv (s.acfg (0x2740 + g) 8), true) := if_pos ⟨hk, hrow⟩
  unfold State.plugSample
  rw [if_pos (by simp [hwhen, hon, hpin]), hsample]
  rfl

/-- Any other sample is counted in its row, and changes no state (R291). -/
theorem State.plugSample_of_undecided (hnot : plugClass s.active g mv.toNat = (s.plug g).state ∨
      (s.plug g).row (plugClass s.active g mv.toNat) < s.acfg (0x2740 + g) 6) :
    s.plugSample g mv = s.updPlug g (fun _ => { s.plug g with
      cls := plugClass s.active g mv.toNat, run := (s.plug g).row (plugClass s.active g mv.toNat), mv := mv }) := by
  have hsample : (s.plug g).sample (plugClass s.active g mv.toNat) mv (s.acfg (0x2740 + g) 6) (s.acfg (0x2740 + g) 8) =
      ({ s.plug g with
         cls := plugClass s.active g mv.toNat, run := (s.plug g).row (plugClass s.active g mv.toNat), mv := mv }, false) :=
    if_neg fun ⟨hk, hrow⟩ => hnot.elim hk (Nat.not_lt.mpr hrow)
  unfold State.plugSample
  rw [if_pos (by simp [hwhen, hon, hpin]), hsample]
  simp

end

/-- A hold that ends at the coming boundary ends, with its event (R292). -/
theorem State.settleHoldEnd_of_due {s : State} {g : Nat} (hdue : s.boundaryDue = true) (hhold : (s.plug g).hold = some 1) :
    s.settleHoldEnd g =
      (s.updPlug g (fun _ => { s.plug g with hold := none })).plugEvent g 0x3c s.decidingTick (s.plug g).mv :=
  if_pos (by simp [hdue, hhold])

/-- Settles O42: a sample changes its group's state or only its row, and an event that it brings leaves the groups alone. -/
theorem plugSamplesDecide : Obligations.PlugSamplesDecide := by
  refine fun s g hcore => ⟨fun mv hwhen hon hpin => ⟨fun hk hrow => ?_, fun hnot => ?_⟩, fun hdue hhold => ?_⟩
  · refine State.reaches_of_run (f := (·.plugSample g.val mv)) hcore rfl ?_
    rw [State.plugSample_of_decided (s := s.begin) hwhen hon hpin hk hrow]
    exact s.begin.updPlug_plugEvent_spec ..
  · exact State.ends_of_run (f := (·.plugSample g.val mv)) hcore rfl
      (State.plugSample_of_undecided (s := s.begin) hwhen hon hpin hnot)
  · refine State.reaches_of_run (f := (·.settleHoldEnd g.val)) hcore rfl ?_
    rw [State.settleHoldEnd_of_due (s := s.begin) hdue hhold]
    exact s.begin.updPlug_plugEvent_spec ..

end Sys2Proof.Machine
end

section
/-! PROOFS. Power requests, and the entries into DOZE and STANDBY (R296, R313, R338, R487, R494–R498). -/
namespace Sys2Proof.Machine
open Sys2Proof

/-- The entries whose writes ask for a stop clear, a shutdown clear and a power state. -/
def powerEntries : List (Nat × Nat) := [(0x2e00, 7), (0x2e01, 3), (0x2e02, 1)]

/-- None of them is a commit entry (R487, R494, R495). -/
theorem apply_of_powerEntries {idx sub : Nat} (hmem : (idx, sub) ∈ powerEntries) {e : Entry} (h : entryOf idx sub = some e) :
    e.apply ≠ .commit := by
  have hall : ∀ p ∈ powerEntries, (entryOf p.1 p.2).all (fun e => e.apply ≠ .commit) = true := by decide
  simpa [h] using hall _ hmem

/-- An admitted write of one of them ends in its live effect (R392–R394). -/
theorem ends_of_powerEntry {i : Instr} {s t : State} {v : Via} {idx sub : Nat} {data : List Byte}
    (hw : writes i = some (v, idx, sub, data)) (hadm : s.admits v idx sub data) (hmem : (idx, sub) ∈ powerEntries)
    (heffect : (s.heard v).liveHigh v idx sub (leNum data) = t) : Ends i s (t.complete v) := by
  have hidx : ∀ p ∈ powerEntries, 0x2600 ≤ p.1 := by decide
  exact ends_of_liveHigh hw hadm (fun e he => apply_of_powerEntries hmem he) (hidx _ hmem) heffect

/-- R487, R494, R495: clears and power requests, each with its entry's effect. -/
theorem powerRequestsWait : Claim.PowerRequestsWait := by
  refine fun s v => ⟨fun h => ?_, fun h => ?_, fun h => ?_, fun h => ?_, fun h => ?_⟩
  · exact ends_of_powerEntry rfl h (by decide) rfl
  · exact ends_of_powerEntry rfl h (by decide) rfl
  · exact ends_of_powerEntry rfl h (by decide) rfl
  · exact ends_of_powerEntry rfl h (by decide) rfl
  · exact ends_of_powerEntry rfl h (by decide) rfl

/-- An entry of a table after an insertion. -/
theorem mem_tins {α : Type} {k : Nat} {v : α} {t : Tbl α} {e : Nat × α} (h : e ∈ tins k v t) : e = (k, v) ∨ e ∈ t := by
  induction t with
  | nil => simpa [tins] using h
  | cons x t ih =>
    unfold tins at h
    split at h
    · simpa using h
    · obtain rfl | h := List.mem_cons.mp h
      · exact .inr (List.mem_cons_self ..)
      · exact (ih h).imp_right (List.mem_cons_of_mem _)

/-- An entry of a table after a deletion. -/
theorem mem_of_mem_tdel {α : Type} {t : Tbl α} {k : Nat} {e : Nat × α} (h : e ∈ tdel t k) : e ∈ t := by
  induction t with
  | nil => exact h
  | cons x t ih =>
    unfold tdel at h
    split at h
    · exact List.mem_cons_of_mem _ (ih h)
    · obtain rfl | h := List.mem_cons.mp h
      · exact List.mem_cons_self ..
      · exact List.mem_cons_of_mem _ (ih h)

/-- An entry of a table after a write is the one written, or one of another key. -/
theorem mem_tput {α : Type} [DecidableEq α] {d : Nat → α} {t : Tbl α} {k : Nat} {v : α} {e : Nat × α} (h : e ∈ tput d t k v) :
    e = (k, v) ∨ e ∈ t ∧ e.1 ≠ k := by
  have hold : ∀ x ∈ tdel t k, x ∈ t ∧ x.1 ≠ k := fun x hx => ⟨mem_of_mem_tdel hx, tdel_absent t k x hx⟩
  unfold tput at h
  split at h
  · exact .inr (hold e h)
  · exact (mem_tins h).imp_right (hold e)

/-- Every entry of a table mapped over its values is a value of the map. -/
theorem mem_tmapVals {α : Type} [DecidableEq α] {d : Nat → α} {f : Nat → α → α} {t : Tbl α} {e : Nat × α}
    (h : e ∈ tmapVals d f t) : ∃ v, e.2 = f e.1 v := by
  suffices hwalk : ∀ l acc : Tbl α, e ∈ l.foldr (fun x acc => tput d acc x.1 (f x.1 x.2)) acc →
      (∃ v, e.2 = f e.1 v) ∨ e ∈ acc ∧ ∀ x ∈ l, e.1 ≠ x.1 from
    (hwalk t t h).elim id fun ⟨hmem, hne⟩ => absurd rfl (hne e hmem)
  intro l acc
  induction l with
  | nil => exact fun h => .inr ⟨h, nofun⟩
  | cons x l ih =>
    intro h
    obtain rfl | ⟨hmem, hne⟩ := mem_tput h
    · exact .inl ⟨x.2, rfl⟩
    · exact (ih hmem).imp_right fun ⟨hacc, hl⟩ => ⟨hacc, List.forall_mem_cons.mpr ⟨hne, hl⟩⟩

/-- Lanes that stop, with their overlap abandoned, and totalisers that add nothing; all else stays (R66, R186, R221). -/
theorem State.lanesStop_eq (s : State) : s.lanesStop = { s with
    slots := s.lanesStop.slots
    lanes := tmapVals (fun _ => {}) (fun _ r => { r.disconnect with conv := none }) s.lanes
    quad := { s.quad with overlap := none, held := true } } := by
  have hwalk := foldl_keeps (fun s => ({ s with slots := [] } : State)) State.totStop (fun _ _ => rfl) (totSlots s.active) { s with
    lanes := tmapVals (fun _ => {}) (fun _ r => { r.disconnect with conv := none }) s.lanes
    quad := { s.quad with overlap := none, held := true } }
  calc s.lanesStop = { ({ s.lanesStop with slots := [] } : State) with slots := s.lanesStop.slots } := rfl
    _ = _ := congrArg (fun u : State => { u with slots := s.lanesStop.slots }) hwalk

/-- The end of a calibration by lanes that stop touches 2A00h, slots and the event log alone (R353). -/
theorem State.calLanesStopped_eq (s : State) : s.calLanesStopped = { s with
    slots := s.calLanesStopped.slots, cal := s.calLanesStopped.cal, diag := s.calLanesStopped.diag } := by
  unfold State.calLanesStopped
  split <;> rfl

/-- No calibration runs once the lanes have stopped (R353). -/
theorem State.calLanesStopped_run (s : State) : s.calLanesStopped.cal.run = none := by
  unfold State.calLanesStopped
  split
  · rfl
  next h => simpa using h

/-- A device that leaves its lanes disconnects them, abandons an overlap, opens its sources and ends a calibration; all else stays
(R66, R153, R353, R496). -/
theorem State.leaveLanes_eq (s : State) : s.leaveLanes = { s with
    slots := s.leaveLanes.slots
    lanes := tmapVals (fun _ => {}) (fun _ r => { r.disconnect with conv := none }) s.lanes
    quad := { s.quad with overlap := none, held := true }
    sources := tmapVals (fun _ => {}) (fun _ r => r.open) s.sources
    cal := s.leaveLanes.cal, diag := s.leaveLanes.diag, pow := { s.pow with lanesOff := true } } := by
  have hcal := congrArg (fun u : State => { u with pow := { u.pow with lanesOff := true } })
    s.lanesStop.openSources.calLanesStopped_eq
  exact hcal.trans (congrArg (fun u : State => { u.openSources with
    slots := s.leaveLanes.slots, cal := s.leaveLanes.cal, diag := s.leaveLanes.diag
    pow := { u.pow with lanesOff := true } }) s.lanesStop_eq)

/-- Every source is open, every lane idle and disconnected, and neither an overlap nor a calibration runs once the lanes are left. -/
theorem State.leaveLanes_idle (s : State) : (∀ e ∈ s.leaveLanes.sources, e.2.isOpen = true) ∧
    (∀ l, (s.leaveLanes.lane l).conv = none ∧ (s.leaveLanes.lane l).conn = none) ∧ s.leaveLanes.quad.overlap = none ∧
    s.leaveLanes.cal.run = none := by
  refine ⟨fun e he => ?_, fun l => ?_, ?_, State.calLanesStopped_run _⟩
  · rw [s.leaveLanes_eq] at he
    dsimp only at he
    obtain ⟨r, hr⟩ := mem_tmapVals he
    exact hr ▸ rfl
  · rw [s.leaveLanes_eq]
    simp only [State.lane]
    rw [tget_tmapVals _ _ _ _ rfl]
    exact ⟨rfl, rfl⟩
  · rw [s.leaveLanes_eq]

/-- The device out of its lanes, which it may have left before (R496). -/
def State.outOfLanes (s : State) : State := if s.pow.lanesOff then s else s.leaveLanes

/-- Out of its lanes a device is as it was but for slots, lanes, the rotation, sources, 2A00h and the event log (R496). -/
theorem State.outOfLanes_eq (s : State) : s.outOfLanes = { s with
    slots := s.outOfLanes.slots, lanes := s.outOfLanes.lanes, quad := s.outOfLanes.quad, sources := s.outOfLanes.sources
    cal := s.outOfLanes.cal, diag := s.outOfLanes.diag, pow := { s.pow with lanesOff := true } } := by
  unfold State.outOfLanes
  split
  next h => rw [← h]
  · rw [s.leaveLanes_eq]

/-- The device in DOZE where that is requested (R496). -/
def State.dozing (s : State) : State :=
  if s.pow.request = some .doze then { s with pow := { s.pow with state := .doze, request := none } } else s

/-- A device that dozes or not is as it was but for its power state and its request. -/
theorem State.dozing_eq (s : State) : s.dozing = { s with pow := { s.pow with
    state := if s.pow.request = some .doze then .doze else s.pow.state
    request := if s.pow.request = some .doze then none else s.pow.request } } := by
  unfold State.dozing
  split <;> rfl

/-- Where DOZE_ENTRY can take place, a trigger in flight keeps it waiting; else the device is out of its lanes, and in DOZE where that is
requested (R496, R498). -/
theorem State.dozeEntry_of_drained {s : State} (hon : s.tick.on = true) (hpart : s.tick.part = .prologue) (hdue : s.pow.due = true)
    (hdrain : s.pow.noTrig = true) : s.dozeEntry = if s.anyTrigger = true then s else s.outOfLanes.dozing := by
  have hrequest : s.outOfLanes.pow.request = s.pow.request := by rw [s.outOfLanes_eq]
  unfold State.dozeEntry State.dozing
  rw [hrequest]
  cases s.anyTrigger <;> simp [hon, hpart, hdue, hdrain, State.outOfLanes]

/-- The drained device at the end of the command: as it was but for its power state, for what leaving the lanes touches, and for the CAN
port. -/
theorem State.drained_eq (s : State) : let t := s.outOfLanes.dozing.settle
    t = { s with
      slots := t.slots, lanes := s.outOfLanes.lanes, quad := s.outOfLanes.quad, sources := s.outOfLanes.sources
      cal := s.outOfLanes.cal, diag := t.diag, can := t.can, out := t.out
      pow := { s.pow with
        lanesOff := true
        state := if s.pow.request = some .doze then .doze else s.pow.state
        request := if s.pow.request = some .doze then none else s.pow.request } } := by
  intro t
  have hend : t = { s.outOfLanes.dozing with can := t.can, out := t.out } := State.eq_of_apart (State.apart_settle _)
  rw [State.dozing_eq, s.outOfLanes_eq] at hend
  rw [hend]

/-- R496, R498: DOZE_ENTRY. -/
theorem dozeIsEntered : Claim.DozeIsEntered := by
  intro s hcore hon hpart hdue hdrain
  have hentry := State.dozeEntry_of_drained (s := s.begin) hon hpart hdue hdrain
  refine ⟨fun hflight => State.ends_of_run hcore rfl (hentry.trans (if_pos hflight)), fun hfree _ => ?_⟩
  refine State.reaches_of_run (f := State.dozeEntry) hcore rfl ?_
  rw [hentry.trans (if_neg (Bool.eq_false_iff.mp hfree)), s.begin.drained_eq]
  have hleave : s.pow.lanesOff = false → s.begin.outOfLanes = s.begin.leaveLanes := fun h => if_neg (Bool.eq_false_iff.mp h)
  refine ⟨rfl, rfl, rfl, by simp [State.lanesRun], fun hon => ?_, ⟨rfl, rfl, rfl, rfl, rfl⟩, ⟨rfl, rfl, rfl, rfl⟩,
    ⟨rfl, rfl, rfl, rfl, rfl, rfl, rfl, rfl, rfl⟩, rfl, rfl, rfl, rfl⟩
  rw [hleave hon]
  exact s.begin.leaveLanes_idle

end Sys2Proof.Machine
end

section
/-! PROOFS. STANDBY_ENTRY and WAKE_REQUEST: what STANDBY releases, and what wakes the device (R296, R313, R338, R498, R499). -/
namespace Sys2Proof.Machine
open Sys2Proof

/-- The state but for monitors and outputs, which STANDBY releases, and for the CAN port and what is sent. -/
def State.besideReleased (s : State) : State := { s.apart with mons := [], outs := [] }

/-- States that agree beside what STANDBY releases. -/
theorem State.eq_of_besideReleased {s u : State} (h : s.besideReleased = u.besideReleased) :
    s = { u with mons := s.mons, outs := s.outs, can := s.can, out := s.out } :=
  congrArg (fun x : State => { x with mons := s.mons, outs := s.outs, can := s.can, out := s.out }) h

/-- A change of one monitor leaves every other. -/
theorem State.monitor_updMonitor_other (s : State) {m k : Nat} (h : m ≠ k) (f : MonRt → MonRt) :
    (s.updMonitor k f).monitor m = s.monitor m := tget_tput_other _ _ _ _ _ h

/-- A change of one output leaves every other. -/
theorem State.output_updOutput_other (s : State) {n k : Nat} (h : n ≠ k) (f : OutRt → OutRt) :
    (s.updOutput k f).output n = s.output n := tget_tput_other _ _ _ _ _ h

/-- Monitor k has its output released, and no other monitor has its output moved (R313). -/
theorem State.monStandby_out (s : State) (k m : Nat) :
    ((s.monStandby k).monitor m).out = if m = k then false else (s.monitor m).out := by
  unfold State.monStandby State.dacsMoved
  by_cases h : m = k
  · subst h
    rw [if_pos rfl, State.monitor_updMonitor, State.monitor_updMonitor]
    dsimp only
    split <;> rfl
  · rw [if_neg h, State.monitor_updMonitor_other _ h, State.monitor_updMonitor_other _ h]

/-- A monitor whose output a walk releases, or that had none, has none after it (R313). -/
theorem foldl_monStandby_out {m : Nat} (l : List Nat) (s : State) (h : (s.monitor m).out = false ∨ m ∈ l) :
    ((l.foldl State.monStandby s).monitor m).out = false := by
  induction l generalizing s with
  | nil => simpa using h
  | cons k l ih =>
    refine ih _ ?_
    rw [s.monStandby_out]
    by_cases hk : m = k
    · exact .inl (if_pos hk)
    · rw [if_neg hk]
      exact h.imp_right fun hmem => (List.mem_cons.mp hmem).resolve_left hk

/-- Output k is high impedance with its held code, and no other output moves (R338). -/
theorem State.outStandby_output (s : State) (k n : Nat) :
    (s.outStandby k).output n = if n = k then { s.output n with hiZ := true } else s.output n := by
  unfold State.outStandby
  split
  next h => subst h; exact State.output_updOutput ..
  next h => exact State.output_updOutput_other _ h _

/-- The outputs of a walk are high impedance after it, every output with the code it held (R338). -/
theorem foldl_outStandby_output {n : Nat} (l : List Nat) (s : State) :
    (((s.output n).hiZ = true ∨ n ∈ l) → ((l.foldl State.outStandby s).output n).hiZ = true) ∧
      ((l.foldl State.outStandby s).output n).held = (s.output n).held := by
  induction l generalizing s with
  | nil => simp
  | cons k l ih =>
    obtain ⟨hhiZ, hheld⟩ := ih (s.outStandby k)
    rw [s.outStandby_output] at hhiZ hheld
    refine ⟨fun h => hhiZ ?_, hheld.trans ?_⟩
    · by_cases hk : n = k
      · simp [hk]
      · rw [if_neg hk]
        exact h.imp_right fun hmem => (List.mem_cons.mp hmem).resolve_left hk
    · split <;> rfl

/-- The device whose tick, system clock and scan have stopped, with nothing that has woken it yet (R296, R498). -/
def State.asleep (s : State) : State :=
  { s with
    tick := { s.tick.dropLatches with on := false }
    pow := { s.pow with
      resume := if s.pow.state = .doze then .doze else .run, state := .standby, request := none, wakeSrc := 0, wakePin := false }
    touch := { s.touch with scan := none }
    clk := { s.clk with pll := 0 }
    plugs := tmapVals (fun _ => {}) (fun _ r => { r with moved := false }) s.plugs
    elems := tmapVals (fun _ => {}) (fun _ r => { r with wakeHits := 0 }) s.elems }

/-- Asleep, no wake scan has hit an electrode yet (R296). -/
theorem State.asleep_elem (s : State) (i : Nat) : s.asleep.elem i = { s.elem i with wakeHits := 0 } := by
  simp only [State.elem, State.asleep]
  exact tget_tmapVals _ _ _ _ rfl

/-- Asleep, no plug group has moved yet (R499). -/
theorem State.asleep_plug (s : State) (g : Nat) : s.asleep.plug g = { s.plug g with moved := false } := by
  simp only [State.plug, State.asleep]
  exact tget_tmapVals _ _ _ _ rfl

/-- The device in STANDBY: asleep, with outputs and monitors released (R313, R338). -/
def State.released (s : State) : State := (List.range 16).foldl State.monStandby ([0, 1, 2, 3].foldl State.outStandby s.asleep)

/-- Where a request for STANDBY is due, it is made from a device out of its lanes whose journal is quiet, and waits else (R498). -/
theorem State.standbyEntry_of_due {s : State} (hon : s.tick.on = true) (hpart : s.tick.part = .prologue) (hdue : s.pow.due = true)
    (hrequest : s.pow.request = some .standby) :
    s.standbyEntry = if s.pow.lanesOff = true ∧ s.jn.quiet = true then s.released else s :=
  if_congr (by simp [hon, hpart, hdue, hrequest]) rfl rfl

/-- A change of a monitor is one of what STANDBY releases. -/
theorem State.updMonitor_besideReleased (s : State) (m : Nat) (f : MonRt → MonRt) :
    (s.updMonitor m f).besideReleased = s.besideReleased := rfl

/-- Releasing a monitor moves monitors alone (R313). -/
theorem State.monStandby_besideReleased (s : State) (m : Nat) : (s.monStandby m).besideReleased = s.besideReleased :=
  (State.updMonitor_besideReleased _ m _).trans (s.updMonitor_besideReleased m _)

/-- Releasing outputs and monitors leaves the rest asleep, to the end of the command (R313, R338). -/
theorem State.released_eq (s : State) : let t := s.released.settle
    t = { s.asleep with mons := t.mons, outs := t.outs, can := t.can, out := t.out } := by
  have houts := foldl_keeps State.besideReleased State.outStandby (fun _ _ => rfl) [0, 1, 2, 3] s.asleep
  have hmons := foldl_keeps State.besideReleased _ State.monStandby_besideReleased (List.range 16)
    ([0, 1, 2, 3].foldl State.outStandby s.asleep)
  have hend : s.released.settle.besideReleased = s.released.besideReleased :=
    congrArg (fun u : State => { u with mons := [], outs := [] }) (State.apart_settle _)
  exact State.eq_of_besideReleased (hend.trans (hmons.trans houts))

/-- The end of a command leaves outputs and monitors alone. -/
theorem State.settle_outs_mons (s : State) : s.settle.outs = s.outs ∧ s.settle.mons = s.mons := by
  rw [State.eq_of_apart s.apart_settle]
  exact ⟨rfl, rfl⟩

/-- In STANDBY every output is high impedance with its held code, and every monitor output is released (R313, R338). -/
theorem State.released_outputs (s : State) :
    (∀ n, n < 4 → (s.released.settle.output n).hiZ = true ∧ (s.released.settle.output n).held = (s.output n).held) ∧
      ∀ m, m < 16 → (s.released.settle.monitor m).out = false := by
  obtain ⟨hkeptOuts, hkeptMons⟩ := s.released.settle_outs_mons
  have hread : s.released.outs = ([0, 1, 2, 3].foldl State.outStandby s.asleep).outs :=
    foldl_keeps State.outs State.monStandby (fun _ _ => rfl) _ _
  have houtput : s.released.settle.output = ([0, 1, 2, 3].foldl State.outStandby s.asleep).output := by
    funext n
    simp only [State.output, hkeptOuts, hread]
  have hmonitor : s.released.settle.monitor = s.released.monitor := by
    funext m
    simp only [State.monitor, hkeptMons]
  refine ⟨fun n hn => ?_, fun m hm => ?_⟩
  · obtain ⟨hhiZ, hheld⟩ := foldl_outStandby_output (n := n) [0, 1, 2, 3] s.asleep
    rw [houtput]
    exact ⟨hhiZ (.inr (by simp; omega)), hheld⟩
  · rw [hmonitor]
    exact foldl_monStandby_out _ _ (.inr (List.mem_range.mpr hm))

/-- R296, R313, R338, R498: STANDBY_ENTRY. -/
theorem standbyIsEntered : Claim.StandbyIsEntered := by
  intro s hcore hon hpart hdue hrequest
  have hentry := State.standbyEntry_of_due (s := s.begin) hon hpart hdue hrequest
  refine ⟨fun hwait => State.ends_of_run hcore rfl (hentry.trans (if_neg ?_)), fun hoff hquiet => ?_⟩
  · rintro ⟨hoff, hquiet⟩
    exact hwait.elim (Bool.eq_false_iff.mp · hoff) (Bool.eq_false_iff.mp · hquiet)
  · refine State.reaches_of_run (f := State.standbyEntry) hcore rfl ?_
    obtain ⟨houts, hmons⟩ := s.begin.released_outputs
    have hframe := s.begin.released_eq
    rw [hentry.trans (if_pos ⟨hoff, hquiet⟩)]
    generalize s.begin.released.settle = t at houts hmons hframe
    have hrest : t.pow = s.asleep.pow ∧ t.tick = s.asleep.tick ∧ t.clk = s.asleep.clk ∧ t.touch = s.asleep.touch ∧
        t.elem = s.asleep.elem ∧ t.plug = s.asleep.plug ∧ t.sameConfig s ∧ t.sameResults s ∧ t.lock = s.lock ∧ t.jn = s.jn ∧
        t.sameLanes s := by
      rw [hframe]
      exact ⟨rfl, rfl, rfl, rfl, rfl, rfl, ⟨rfl, rfl, rfl, rfl, rfl⟩, ⟨rfl, rfl, rfl, rfl⟩, rfl, rfl, ⟨rfl, rfl, rfl, rfl, rfl, rfl⟩⟩
    obtain ⟨hpow, htick, hclk, htouch, helem, hplug, hconfig, hresults, hlock, hjn, hlanes⟩ := hrest
    rw [hpow, htick, hclk, htouch, helem, hplug]
    exact ⟨rfl, rfl, rfl, rfl, rfl, rfl, rfl, rfl, houts, hmons, s.asleep_elem,
      s.asleep_plug, hconfig, hresults, (s.tick.dropLatches_keeps).1, hlock, hjn, hlanes⟩

/-- R296, R313, R499: what each wake source needs. -/
theorem wakeSourcesNeedTheirEvent : Claim.WakeSourcesNeedTheirEvent := by
  refine fun s cycles => ⟨?_, ?_, ?_, rfl⟩
  · simp [State.wakeReady]
  · simp [State.wakeReady]
  · simp [State.wakeReady]

end Sys2Proof.Machine
end

section
/-! SUPPORT. What the work of a boundary leaves alone: the clocks and the power state (R126–R138, R495). One lemma an operation, in the
order of the model; an operation that a single other one runs, without a choice of its own, stands in that one's lemma. -/
namespace Sys2Proof.Machine
open Sys2Proof

/-- A walk of steps that leave clocks and power state alone leaves them alone. -/
theorem foldl_keeps_domains {α : Type} (f : State → α → State) (h : ∀ s a, (f s a).clk = s.clk ∧ (f s a).pow = s.pow) (l : List α)
    (s : State) : (l.foldl f s).clk = s.clk ∧ (l.foldl f s).pow = s.pow :=
  ⟨foldl_keeps State.clk f (fun s a => (h s a).1) l s, foldl_keeps State.pow f (fun s a => (h s a).2) l s⟩

/-- The same for the clocks by themselves, as `simp` asks for them. -/

@[simp] theorem foldl_keeps_clk {α : Type} (f : State → α → State) (l : List α) (s : State) (h : ∀ s a, (f s a).clk = s.clk) :
    (l.foldl f s).clk = s.clk := foldl_keeps State.clk f h l s

/-- The same for the power state by itself. -/

@[simp] theorem foldl_keeps_pow {α : Type} (f : State → α → State) (l : List α) (s : State) (h : ∀ s a, (f s a).pow = s.pow) :
    (l.foldl f s).pow = s.pow := foldl_keeps State.pow f h l s

/-- A change of triggers, with what they start and end, is none of clocks and power state. -/
theorem State.domains_of_sameButTriggers {s u : State} (h : s.sameButTriggers u) : s.clk = u.clk ∧ s.pow = u.pow := by
  unfold State.sameButTriggers at h
  rw [h]
  exact ⟨rfl, rfl⟩

/-- Nor is an evaluation of elements, with its events. -/
theorem State.domains_of_sameButEvaluations {s u : State} (h : s.sameButEvaluations u) : s.clk = u.clk ∧ s.pow = u.pow := by
  rw [h.frame]
  exact ⟨rfl, rfl⟩

/-! Run-time tables, logs, and what is sent -/

@[simp] theorem State.setSlot_domains (s : State) (n : Nat) (r : SlotRt) :
    (s.setSlot n r).clk = s.clk ∧ (s.setSlot n r).pow = s.pow := ⟨rfl, rfl⟩

@[simp] theorem State.updSlot_domains (s : State) (n : Nat) (f : SlotRt → SlotRt) :
    (s.updSlot n f).clk = s.clk ∧ (s.updSlot n f).pow = s.pow := ⟨rfl, rfl⟩

@[simp] theorem State.updLane_domains (s : State) (l : Nat) (f : LaneRt → LaneRt) :
    (s.updLane l f).clk = s.clk ∧ (s.updLane l f).pow = s.pow := ⟨rfl, rfl⟩

@[simp] theorem State.setRing_domains (s : State) (r : Nat) (g : Ring) :
    (s.setRing r g).clk = s.clk ∧ (s.setRing r g).pow = s.pow := ⟨rfl, rfl⟩

@[simp] theorem State.updSource_domains (s : State) (e : Nat) (f : SourceRt → SourceRt) :
    (s.updSource e f).clk = s.clk ∧ (s.updSource e f).pow = s.pow := ⟨rfl, rfl⟩

@[simp] theorem State.updElem_domains (s : State) (i : Nat) (f : ElemRt → ElemRt) :
    (s.updElem i f).clk = s.clk ∧ (s.updElem i f).pow = s.pow := ⟨rfl, rfl⟩

@[simp] theorem State.updPlug_domains (s : State) (g : Nat) (f : PlugRt → PlugRt) :
    (s.updPlug g f).clk = s.clk ∧ (s.updPlug g f).pow = s.pow := ⟨rfl, rfl⟩

@[simp] theorem State.updMonitor_domains (s : State) (m : Nat) (f : MonRt → MonRt) :
    (s.updMonitor m f).clk = s.clk ∧ (s.updMonitor m f).pow = s.pow := ⟨rfl, rfl⟩

@[simp] theorem State.updOutput_domains (s : State) (n : Nat) (f : OutRt → OutRt) :
    (s.updOutput n f).clk = s.clk ∧ (s.updOutput n f).pow = s.pow := ⟨rfl, rfl⟩

@[simp] theorem State.updGen_domains (s : State) (g : Nat) (f : GenRt → GenRt) :
    (s.updGen g f).clk = s.clk ∧ (s.updGen g f).pow = s.pow := ⟨rfl, rfl⟩

@[simp] theorem State.event_domains (s : State) (idx sub detail : Nat) :
    (s.event idx sub detail).clk = s.clk ∧ (s.event idx sub detail).pow = s.pow := ⟨rfl, rfl⟩

@[simp] theorem State.send_domains (s : State) (e : Emit) : (s.send e).clk = s.clk ∧ (s.send e).pow = s.pow := ⟨rfl, rfl⟩

@[simp] theorem State.sendCan_domains (s : State) (cob : Nat) (data : List Byte) :
    (s.sendCan cob data).clk = s.clk ∧ (s.sendCan cob data).pow = s.pow := by
  unfold State.sendCan
  split <;> simp

@[simp] theorem State.emcy_domains (s : State) (code detail : Nat) :
    (s.emcy code detail).clk = s.clk ∧ (s.emcy code detail).pow = s.pow := by
  unfold State.emcy
  split <;> simp

/-! Records, rings and whey -/

@[simp] theorem State.recordDue_domains (s : State) (g : Nat) (r0 : Rec) :
    (s.recordDue g r0).clk = s.clk ∧ (s.recordDue g r0).pow = s.pow := by
  unfold State.recordDue
  dsimp only
  repeat' split
  all_goals simp

@[simp] theorem State.resolve_domains (s : State) (slot : Nat) (reason : Reason) (tick : TickNo) (n : Nat)
    (dly : BitVec 4) (stl : Bool) (ring : Option Nat) :
    (s.resolve slot reason tick n dly stl ring).clk = s.clk ∧ (s.resolve slot reason tick n dly stl ring).pow = s.pow := by
  unfold State.resolve
  split <;> simp

@[simp] theorem State.form_domains (s : State) (ring : Nat) (r : Rec) :
    (s.form ring r).clk = s.clk ∧ (s.form ring r).pow = s.pow := ⟨rfl, rfl⟩

@[simp] theorem State.flush_domains (s : State) : s.flush.clk = s.clk ∧ s.flush.pow = s.pow := by
  simp [State.flush]

@[simp] theorem State.ringReset_domains (s : State) (r : Nat) : (s.ringReset r).clk = s.clk ∧ (s.ringReset r).pow = s.pow := by
  unfold State.ringReset
  dsimp only
  split <;> simp

/-! What a result notes -/

@[simp] theorem State.noteFormation_domains (s : State) (a : Tbl Nat) (n : Nat) (t : TickNo) (c : Nat) (f : Formation) (ovr : Bool) :
    (s.noteFormation a n t c f ovr).clk = s.clk ∧ (s.noteFormation a n t c f ovr).pow = s.pow :=
  ⟨State.noteFormation_view (g := State.clk) (fun _ _ _ _ => rfl) (fun _ _ _ => rfl) ..,
    State.noteFormation_view (g := State.pow) (fun _ _ _ _ => rfl) (fun _ _ _ => rfl) ..⟩

/-! Triggers and slots -/

@[simp] theorem State.accept_domains (s : State) (n : Nat) (t : TickNo) :
    (s.accept n t).clk = s.clk ∧ (s.accept n t).pow = s.pow := State.domains_of_sameButTriggers (s.accept_sameButTriggers n t)

@[simp] theorem State.slotEvent_domains (s : State) (t : TickNo) (n : Nat) :
    (s.slotEvent t n).clk = s.clk ∧ (s.slotEvent t n).pow = s.pow :=
  State.domains_of_sameButTriggers (s.slotEvent_sameButTriggers t n)

@[simp] theorem State.resolveSlot_domains (s : State) (n : Nat) (why : Reason) (tickFor : TickNo → TickNo) (ring : Option Nat) :
    (s.resolveSlot n why tickFor ring).clk = s.clk ∧ (s.resolveSlot n why tickFor ring).pow = s.pow := by
  unfold State.resolveSlot
  dsimp only
  repeat' split
  all_goals simp

/-! Elements, presses, plug groups and absences -/

@[simp] theorem State.touchEvent_domains (s : State) (route bit code source : Nat) (value : BitVec 32) (t : TickNo) (slot : Nat) :
    (s.touchEvent route bit code source value t slot).clk = s.clk ∧ (s.touchEvent route bit code source value t slot).pow = s.pow :=
  State.domains_of_sameButEvaluations (s.touchEvent_sameButEvaluations route bit code source value t slot).1

@[simp] theorem State.evaluate_domains (s : State) (i : Nat) (m : Rat) (t : TickNo) :
    (s.evaluate i m t).clk = s.clk ∧ (s.evaluate i m t).pow = s.pow :=
  State.domains_of_sameButEvaluations (s.evaluate_spec i m t).1

@[simp] theorem State.elemAction_domains (s : State) (i : Nat) : (s.elemAction i).clk = s.clk ∧ (s.elemAction i).pow = s.pow := by
  unfold State.elemAction
  split <;> simp

@[simp] theorem State.elemOpen_domains (s : State) (i : Nat) :
    (s.elemOpen i).clk = s.clk ∧ (s.elemOpen i).pow = s.pow := State.domains_of_sameButEvaluations (s.elemOpen_spec i).frame

@[simp] theorem State.elemBoundary_domains (s : State) (i : Nat) :
    (s.elemBoundary i).clk = s.clk ∧ (s.elemBoundary i).pow = s.pow := by
  unfold State.elemBoundary
  dsimp only
  split <;> simp

@[simp] theorem State.pressEvaluate_domains (s : State) (n : Nat) (t : TickNo) (value : BitVec 32) (raw undef : Bool) :
    (s.pressEvaluate n t value raw undef).clk = s.clk ∧ (s.pressEvaluate n t value raw undef).pow = s.pow := by
  unfold State.pressEvaluate
  split <;> simp

@[simp] theorem State.plugBoundary_domains (s : State) (g : Nat) :
    (s.plugBoundary g).clk = s.clk ∧ (s.plugBoundary g).pow = s.pow := by
  unfold State.plugBoundary
  dsimp only
  split <;> simp [State.plugEvent]

@[simp] theorem State.emptyFilter_domains (s : State) (n : Nat) :
    (s.emptyFilter n).clk = s.clk ∧ (s.emptyFilter n).pow = s.pow := by
  simp [State.emptyFilter]

@[simp] theorem State.absenceBoundary_domains (s : State) (n : Nat) :
    (s.absenceBoundary n).clk = s.clk ∧ (s.absenceBoundary n).pow = s.pow := by
  unfold State.absenceBoundary
  dsimp only
  repeat' split
  all_goals simp

/-! Calibrations -/

@[simp] theorem State.verdict_domains (s : State) (v : Verdict) (cause : Nat) :
    (s.verdict v cause).clk = s.clk ∧ (s.verdict v cause).pow = s.pow :=
  State.domains_of_sameButTriggers (s.verdict_sameButTriggers v cause)

@[simp] theorem State.calLanesStopped_domains (s : State) : s.calLanesStopped.clk = s.clk ∧ s.calLanesStopped.pow = s.pow := by
  unfold State.calLanesStopped
  split <;> simp

@[simp] theorem State.calOpen_domains (s : State) (n : Nat) : (s.calOpen n).clk = s.clk ∧ (s.calOpen n).pow = s.pow := by
  unfold State.calOpen
  split <;> simp

@[simp] theorem State.calLaneFault_domains (s : State) (n : Nat) :
    (s.calLaneFault n).clk = s.clk ∧ (s.calLaneFault n).pow = s.pow := by
  unfold State.calLaneFault
  split <;> simp

@[simp] theorem State.calWhey_domains (s : State) :
    s.calWhey.clk = s.clk ∧ s.calWhey.pow = s.pow := State.domains_of_sameButTriggers s.calWhey_sameButTriggers

@[simp] theorem State.calCollect_domains (s : State) (n : Nat) (x : Int) (ovr : Bool) :
    (s.calCollect n x ovr).clk = s.clk ∧ (s.calCollect n x ovr).pow = s.pow := by
  unfold State.calCollect
  dsimp only
  repeat' split
  all_goals simp

/-! Latches of a tick -/

@[simp] theorem State.latchTo_domains (s : State) (c : Nat) :
    (s.latchTo c).clk = s.clk ∧ (s.latchTo c).pow = s.pow := State.domains_of_sameButTriggers (s.latchTo_sameButTriggers c)

/-! Excitation sources -/

@[simp] theorem State.sourceBoundary_domains (s : State) (e : Nat) :
    (s.sourceBoundary e).clk = s.clk ∧ (s.sourceBoundary e).pow = s.pow := by
  unfold State.sourceBoundary
  dsimp only
  repeat' split
  all_goals simp

/-! Conversions, deliveries and samples of the lanes -/

@[simp] theorem State.noteUnpaired_domains (s : State) (a : Tbl Nat) (n : Nat) (unpaired : Bool) :
    (s.noteUnpaired a n unpaired).clk = s.clk ∧ (s.noteUnpaired a n unpaired).pow = s.pow :=
  ⟨State.noteUnpaired_view (g := State.clk) (fun _ _ _ _ => rfl) .., State.noteUnpaired_view (g := State.pow) (fun _ _ _ _ => rfl) ..⟩

@[simp] theorem State.formData_domains (s : State) (a : Tbl Nat) (n c : Nat) (x5 : Int) (ovr cal : Bool) (dly : Nat) :
    (s.formData a n c x5 ovr cal dly).clk = s.clk ∧ (s.formData a n c x5 ovr cal dly).pow = s.pow := by
  simp [State.formData]

@[simp] theorem State.runSample_domains (s : State) (p n : Nat) :
    (s.runSample p n).clk = s.clk ∧ (s.runSample p n).pow = s.pow := by
  rw [(s.runSample_sameButStages p n).frame]
  exact ⟨rfl, rfl⟩

@[simp] theorem State.deliverRecord_domains (s : State) (a : Tbl Nat) (n p : Nat) (m : Sample) :
    (s.deliverRecord a n p m).clk = s.clk ∧ (s.deliverRecord a n p m).pow = s.pow := by
  unfold State.deliverRecord
  split <;> simp

@[simp] theorem State.deliver_domains (s : State) (a : Tbl Nat) (l : Nat) :
    (s.deliver a l).clk = s.clk ∧ (s.deliver a l).pow = s.pow := by
  unfold State.deliver
  dsimp only
  repeat' split
  all_goals simp [State.dedLost]

@[simp] theorem State.closeHalves_domains (s : State) (l : Nat) :
    (s.closeHalves l).clk = s.clk ∧ (s.closeHalves l).pow = s.pow := by
  unfold State.closeHalves
  dsimp only
  repeat' split
  all_goals simp

@[simp] theorem State.runSamples_domains (s : State) : s.runSamples.clk = s.clk ∧ s.runSamples.pow = s.pow := by
  unfold State.runSamples
  exact foldl_keeps_domains _ (fun s p => by split <;> simp) _ _

@[simp] theorem State.countDelivery_domains (s : State) (l : Nat) :
    (s.countDelivery l).clk = s.clk ∧ (s.countDelivery l).pow = s.pow := by
  unfold State.countDelivery
  split <;> simp

@[simp] theorem State.align_domains (s : State) (l : Nat) : (s.align l).clk = s.clk ∧ (s.align l).pow = s.pow := by
  unfold State.align
  split <;> simp

@[simp] theorem State.connectAll_domains (s : State) : s.connectAll.clk = s.clk ∧ s.connectAll.pow = s.pow := by
  unfold State.connectAll
  exact foldl_keeps_domains _ (fun s l => by split <;> simp) _ _

/-! The rotation and its overlaps -/

@[simp] theorem State.openOverlap_domains (s : State) (i : Nat) (intoE : Bool) :
    (s.openOverlap i intoE).clk = s.clk ∧ (s.openOverlap i intoE).pow = s.pow := by
  simp [State.openOverlap]

@[simp] theorem State.startPhase_domains (s : State) (k : Nat) : (s.startPhase k).clk = s.clk ∧ (s.startPhase k).pow = s.pow := by
  unfold State.startPhase
  dsimp only
  repeat' split
  all_goals simp [State.serveBy]

@[simp] theorem State.enterPhase_domains (s : State) (k : Nat) : (s.enterPhase k).clk = s.clk ∧ (s.enterPhase k).pow = s.pow := by
  unfold State.enterPhase
  split <;> simp

@[simp] theorem State.windowRan_domains (s : State) (p : Nat) : (s.windowRan p).clk = s.clk ∧ (s.windowRan p).pow = s.pow := by
  unfold State.windowRan
  split <;> simp [State.windowDone]

@[simp] theorem State.laneReturns_domains (s : State) (p : Nat) :
    (s.laneReturns p).clk = s.clk ∧ (s.laneReturns p).pow = s.pow := by
  unfold State.laneReturns
  repeat' split
  all_goals simp [State.windowDone, State.handBack]

@[simp] theorem State.clearBoundary_domains (s : State) (p : Nat) :
    (s.clearBoundary p).clk = s.clk ∧ (s.clearBoundary p).pow = s.pow := by
  unfold State.clearBoundary
  dsimp only
  repeat' split
  all_goals simp

@[simp] theorem State.compare_domains (s : State) : s.compare.clk = s.clk ∧ s.compare.pow = s.pow := by
  unfold State.compare
  dsimp only
  repeat' split
  all_goals simp

@[simp] theorem State.calOverlap_domains (s : State) : s.calOverlap.clk = s.clk ∧ s.calOverlap.pow = s.pow := by
  unfold State.calOverlap
  repeat' split
  all_goals simp

@[simp] theorem State.takeOver_domains (s : State) : s.takeOver.clk = s.clk ∧ s.takeOver.pow = s.pow := by
  unfold State.takeOver
  dsimp only
  repeat' split
  all_goals simp

@[simp] theorem State.quadMove_domains (s : State) : s.quadMove.clk = s.clk ∧ s.quadMove.pow = s.pow := by
  unfold State.quadMove
  dsimp only
  repeat' split
  all_goals simp

@[simp] theorem State.dropOverlap_domains (s : State) : s.dropOverlap.clk = s.clk ∧ s.dropOverlap.pow = s.pow := by
  unfold State.dropOverlap
  split <;> simp

@[simp] theorem State.quadOff_domains (old : Tbl Nat) (s : State) :
    (s.quadOff old).clk = s.clk ∧ (s.quadOff old).pow = s.pow := by
  unfold State.quadOff
  repeat' split
  all_goals simp

/-! Monitors and captures -/

@[simp] theorem State.captureEdge_domains (m : Nat) (asserted : Bool) (cyc : Nat) (s : State) (k : Nat) :
    (s.captureEdge m asserted cyc k).clk = s.clk ∧ (s.captureEdge m asserted cyc k).pow = s.pow := by
  unfold State.captureEdge
  dsimp only
  repeat' split
  all_goals simp

@[simp] theorem State.dacsMoved_domains (s : State) (m : Nat) (was : Nat × Nat) (cyc : Nat) :
    (s.dacsMoved m was cyc).clk = s.clk ∧ (s.dacsMoved m was cyc).pow = s.pow := by
  simp [State.dacsMoved]

@[simp] theorem State.compEdge_domains (s : State) (m : Nat) (asserted : Bool) (cyc : Nat) :
    (s.compEdge m asserted cyc).clk = s.clk ∧ (s.compEdge m asserted cyc).pow = s.pow := by
  unfold State.compEdge
  repeat' split
  all_goals simp

@[simp] theorem State.monEvent_domains (s : State) (m code : Nat) (value : BitVec 32) (t : TickNo) :
    (s.monEvent m code value t).clk = s.clk ∧ (s.monEvent m code value t).pow = s.pow := by
  unfold State.monEvent
  dsimp only
  repeat' split
  all_goals simp

@[simp] theorem State.monOutput_domains (s : State) (m : Nat) (asserted : Bool) (value : BitVec 32) (t : TickNo) (cyc : Nat) :
    (s.monOutput m asserted value t cyc).clk = s.clk ∧ (s.monOutput m asserted value t cyc).pow = s.pow := by
  unfold State.monOutput
  repeat' split
  all_goals simp [State.monPend, State.willLatch]

@[simp] theorem State.monForce_domains (s : State) (m : Nat) : (s.monForce m).clk = s.clk ∧ (s.monForce m).pow = s.pow := by
  simp [State.monForce]

@[simp] theorem State.monBoundary_domains (s : State) (m : Nat) :
    (s.monBoundary m).clk = s.clk ∧ (s.monBoundary m).pow = s.pow := by
  unfold State.monBoundary
  dsimp only
  split <;> simp

@[simp] theorem State.monResume_domains (s : State) (m : Nat) : (s.monResume m).clk = s.clk ∧ (s.monResume m).pow = s.pow := by
  unfold State.monResume
  dsimp only
  split <;> simp

/-! Generators and outputs -/

@[simp] theorem State.genAdvance_domains (s : State) (g upTo : Nat) :
    (s.genAdvance g upTo).clk = s.clk ∧ (s.genAdvance g upTo).pow = s.pow := by
  unfold State.genAdvance
  split <;> simp

@[simp] theorem State.gensNow_domains (s : State) : s.gensNow.clk = s.clk ∧ s.gensNow.pow = s.pow := by
  unfold State.gensNow
  split <;> simp

@[simp] theorem State.forceMid_domains (s : State) (n : Nat) : (s.forceMid n).clk = s.clk ∧ (s.forceMid n).pow = s.pow := by
  unfold State.forceMid
  split <;> simp

@[simp] theorem State.genStart_domains (s : State) (g : Nat) : (s.genStart g).clk = s.clk ∧ (s.genStart g).pow = s.pow := by
  simp [State.genStart]

@[simp] theorem State.keepSample_domains (s : State) (n j : Nat) :
    (s.keepSample n j).clk = s.clk ∧ (s.keepSample n j).pow = s.pow := by
  unfold State.keepSample
  split <;> simp

@[simp] theorem State.updateAt_domains (s : State) (n e : Nat) : (s.updateAt n e).clk = s.clk ∧ (s.updateAt n e).pow = s.pow := by
  simp [State.updateAt]

@[simp] theorem State.outTickOver_domains (cycles : Nat) (s : State) (n : Nat) :
    (s.outTickOver cycles n).clk = s.clk ∧ (s.outTickOver cycles n).pow = s.pow := by
  unfold State.outTickOver
  split <;> simp

@[simp] theorem State.outBoundary_domains (s : State) (n : Nat) :
    (s.outBoundary n).clk = s.clk ∧ (s.outBoundary n).pow = s.pow := by
  unfold State.outBoundary
  split <;> simp

@[simp] theorem State.outResume_domains (s : State) (n : Nat) : (s.outResume n).clk = s.clk ∧ (s.outResume n).pow = s.pow := by
  simp [State.outResume]

/-! The journal -/

@[simp] theorem State.jnMove_domains (s : State) : s.jnMove.clk = s.clk ∧ s.jnMove.pow = s.pow := by
  unfold State.jnMove
  split <;> simp

@[simp] theorem State.storeBaseline_domains (s : State) (i : Nat) :
    (s.storeBaseline i).clk = s.clk ∧ (s.storeBaseline i).pow = s.pow := by
  unfold State.storeBaseline
  dsimp only
  repeat' split
  all_goals simp

@[simp] theorem State.withBaselines_domains (s : State) (classes : List Nat) :
    (s.withBaselines classes).clk = s.clk ∧ (s.withBaselines classes).pow = s.pow := by
  unfold State.withBaselines
  split <;> simp

@[simp] theorem State.storeBegin_domains (s : State) : s.storeBegin.clk = s.clk ∧ s.storeBegin.pow = s.pow := by
  unfold State.storeBegin
  repeat' split
  all_goals simp

@[simp] theorem State.jnShutdown_domains (s : State) : s.jnShutdown.clk = s.clk ∧ s.jnShutdown.pow = s.pow := by
  unfold State.jnShutdown
  dsimp only
  repeat' split
  all_goals simp [State.jnMargin, State.storeFails]

/-! Markers of the lock loop -/

@[simp] theorem State.tickMarkers_domains (s : State) (was : Bool) (realign : List Int) (drift wrapped : Bool) :
    (s.tickMarkers was realign drift wrapped).clk = s.clk ∧ (s.tickMarkers was realign drift wrapped).pow = s.pow := by
  unfold State.tickMarkers
  dsimp only
  repeat' split
  all_goals simp [State.marker]

/-! Stops and the clears that end them -/

@[simp] theorem State.stopAll_domains (s : State) (why : Reason) : (s.stopAll why).clk = s.clk ∧ (s.stopAll why).pow = s.pow := by
  simp [State.stopAll, State.forceAllMid, State.openSources, State.lanesStop, State.totStop]

@[simp] theorem State.clearStops_domains (s : State) : s.clearStops.clk = s.clk ∧ s.clearStops.pow = s.pow := by
  unfold State.clearStops
  dsimp only
  repeat' split
  all_goals simp [State.reinitialise]

@[simp] theorem State.thermalStop_domains (s : State) : s.thermalStop.clk = s.clk ∧ s.thermalStop.pow = s.pow := by
  simp [State.thermalStop]

/-! GALT messages -/

@[simp] theorem State.galtSend_domains (s : State) (typ dst : Nat) (payload : List Byte) :
    (s.galtSend typ dst payload).clk = s.clk ∧ (s.galtSend typ dst payload).pow = s.pow := by
  unfold State.galtSend
  split <;> simp

/-! The CAN port -/

@[simp] theorem State.canBoot_domains (s : State) : s.canBoot.clk = s.clk ∧ s.canBoot.pow = s.pow := by
  simp [State.canBoot, State.setNmt]

@[simp] theorem State.ringEvents_domains (s old : State) : (s.ringEvents old).clk = s.clk ∧ (s.ringEvents old).pow = s.pow := by
  rw [(s.ringEvents_sameButTpdos old).frame]
  exact ⟨rfl, rfl⟩

/-! The GALT link -/

@[simp] theorem State.updGalt_domains (s : State) (f : GaltSt → GaltSt) :
    (s.updGalt f).clk = s.clk ∧ (s.updGalt f).pow = s.pow := ⟨rfl, rfl⟩

@[simp] theorem State.galtRole_domains (s : State) (was : Nat) : (s.galtRole was).clk = s.clk ∧ (s.galtRole was).pow = s.pow := by
  unfold State.galtRole
  dsimp only
  repeat' split
  all_goals simp [State.enumerate]

@[simp] theorem State.setStream_domains (s : State) (r : Nat) (x : StreamRt) :
    (s.setStream r x).clk = s.clk ∧ (s.setStream r x).pow = s.pow := ⟨rfl, rfl⟩

@[simp] theorem State.galtBoundary_domains (s : State) : s.galtBoundary.clk = s.clk ∧ s.galtBoundary.pow = s.pow := by
  unfold State.galtBoundary
  repeat' split
  all_goals simp

/-! Activation, and the stages of a boundary -/

@[simp] theorem State.moveResets_domains (s : State) : s.moveResets.clk = s.clk ∧ s.moveResets.pow = s.pow := by
  unfold State.moveResets
  split <;> simp

@[simp] theorem State.reconnect_domains (s : State) (l : Nat) (c : LaneRt → LaneRt) :
    (s.reconnect l c).clk = s.clk ∧ (s.reconnect l c).pow = s.pow := by
  unfold State.reconnect
  dsimp only
  repeat' split
  all_goals simp

@[simp] theorem State.laneActivation_domains (old new : Tbl Nat) (ch : List Nat) (s : State) (l : Nat) :
    (s.laneActivation old new ch l).clk = s.clk ∧ (s.laneActivation old new ch l).pow = s.pow := by
  unfold State.laneActivation
  dsimp only
  repeat' split
  all_goals simp [State.dropHalves]

@[simp] theorem State.leadChange_domains (ch : List Nat) (s : State) (e : Nat) :
    (s.leadChange ch e).clk = s.clk ∧ (s.leadChange ch e).pow = s.pow := by
  unfold State.leadChange
  split <;> simp

@[simp] theorem State.activateLanes_domains (old : Tbl Nat) (ch : List Nat) (s : State) :
    (s.activateLanes old ch).clk = s.clk ∧ (s.activateLanes old ch).pow = s.pow := by
  simp [State.activateLanes]

@[simp] theorem State.ringCut_domains (s : State) (r : Nat) : (s.ringCut r).clk = s.clk ∧ (s.ringCut r).pow = s.pow := by
  unfold State.ringCut
  dsimp only
  split <;> simp

@[simp] theorem State.ringActivation_domains (ch : List Nat) (s : State) (r : Nat) :
    (s.ringActivation ch r).clk = s.clk ∧ (s.ringActivation ch r).pow = s.pow := by
  unfold State.ringActivation
  repeat' split
  all_goals simp

@[simp] theorem State.ioActivation_domains (old : Tbl Nat) (ch : List Nat) (s : State) :
    (s.ioActivation old ch).clk = s.clk ∧ (s.ioActivation old ch).pow = s.pow := by
  simp [State.ioActivation, State.outRestart]

@[simp] theorem State.overlapActivation_domains (old : Tbl Nat) (ch : List Nat) (s : State) :
    (s.overlapActivation old ch).clk = s.clk ∧ (s.overlapActivation old ch).pow = s.pow := by
  unfold State.overlapActivation
  repeat' split
  all_goals simp

@[simp] theorem State.oneShotActivation_domains (old : Tbl Nat) (s : State) :
    (s.oneShotActivation old).clk = s.clk ∧ (s.oneShotActivation old).pow = s.pow := by
  unfold State.oneShotActivation
  split <;> simp

@[simp] theorem State.activate_domains (s : State) (new : Tbl Nat) :
    (s.activate new).clk = s.clk ∧ (s.activate new).pow = s.pow := by
  unfold State.activate
  dsimp only
  split <;> simp [State.resolveAffected]

@[simp] theorem State.closePins_domains (s : State) : s.closePins.clk = s.clk ∧ s.closePins.pow = s.pow := by
  unfold State.closePins
  refine foldl_keeps_domains _ (fun s l => ?_) _ _
  split
  · split <;> simp
  · simp

@[simp] theorem State.absence_domains (s : State) (n : Nat) : (s.absence n).clk = s.clk ∧ (s.absence n).pow = s.pow := by
  unfold State.absence
  dsimp only
  split <;> simp

@[simp] theorem State.tickTriggers_domains (s : State) : s.tickTriggers.clk = s.clk ∧ s.tickTriggers.pow = s.pow := by
  unfold State.tickTriggers
  split <;> simp

@[simp] theorem State.syncTriggers_domains (s : State) : s.syncTriggers.clk = s.clk ∧ s.syncTriggers.pow = s.pow := by
  simp [State.syncTriggers]

@[simp] theorem State.beforeDeliveries_domains (s : State) : s.beforeDeliveries.clk = s.clk ∧ s.beforeDeliveries.pow = s.pow := by
  simp [State.beforeDeliveries, State.quadCount]

@[simp] theorem State.takeDeliveries_domains (s : State) : s.takeDeliveries.clk = s.clk ∧ s.takeDeliveries.pow = s.pow := by
  simp [State.takeDeliveries]

@[simp] theorem State.prologue_domains (s : State) (a : Tbl Nat) (served : List Nat) (ch : Option (List Nat)) :
    (s.prologue a served ch).clk = s.clk ∧ (s.prologue a served ch).pow = s.pow := by
  unfold State.prologue
  split <;> simp

@[simp] theorem State.boundaryTail_domains (s : State) (coef : Option (Nat × Bool × Nat)) :
    (s.boundaryTail coef).clk = s.clk ∧ (s.boundaryTail coef).pow = s.pow := by
  unfold State.boundaryTail
  split <;> simp [State.bankSwaps, State.totClears, State.applyCoef, State.ledgerSnapshot]

@[simp] theorem State.openTick_domains (s : State) (new : Tbl Nat) (act resume : Bool) :
    (s.openTick new act resume).clk = s.clk ∧ (s.openTick new act resume).pow = s.pow := by
  simp [State.openTick]

@[simp] theorem State.boundaryMarkers_domains (s : State) (t : TickSt) (step : Int) :
    (s.boundaryMarkers t step).clk = s.clk ∧ (s.boundaryMarkers t step).pow = s.pow := by
  unfold State.boundaryMarkers
  dsimp only
  split <;> simp

end Sys2Proof.Machine
end

section
/-! PROOFS. WAKE_REQUEST and WAKE_RETURN: the boundary that ends STANDBY opens the next tick in the state that STANDBY left (R498, R499). -/
namespace Sys2Proof.Machine
open Sys2Proof

/-- The end of a tick counts the instant of a power request from the boundary; clocks and power state stay (R495). -/
theorem State.closeTick_domains (s : State) :
    s.closeTick.clk = s.clk ∧ s.closeTick.pow = { s.pow with reqAt := s.pow.reqAt - (s.tickSpan : Int) } := by
  unfold State.closeTick
  simp

/-- Without a request the boundary makes no change of the power state (R496, R497). -/
theorem State.powerBoundary_of_none {s : State} (h : s.pow.request = none) : s.powerBoundary = s :=
  if_neg (by simp [PowerSt.due, h])

/-- Clocks and power state once the tick has ended. -/
theorem State.ended_domains (s : State) :
    s.ended.clk = s.clk ∧ s.ended.pow = { s.pow with reqAt := s.ended.pow.reqAt } := by
  obtain ⟨hclk, hpow⟩ := (s.latchTo (s.tickCycles - 1)).flush.closeTick_domains
  simp only [State.flush_domains, State.latchTo_domains] at hclk hpow
  refine ⟨hclk, hpow.trans ?_⟩
  unfold State.ended
  rw [hpow]

/-- The stages of a boundary without a power request leave clocks and power state alone. -/
theorem State.connected_domains {s : State} (h : s.pow.request = none) (resume : Bool) :
    (s.connected resume).clk = s.clk ∧ (s.connected resume).pow = s.pow := by
  have hrequest : (s.openTick s.nextActive s.activationDue resume).clearStops.pow.request = none := by simp [h]
  have hactivated : (s.activated resume).clk = s.clk ∧ (s.activated resume).pow = s.pow := by
    unfold State.activated State.delivered State.opened
    rw [State.powerBoundary_of_none hrequest]
    split <;> simp
  unfold State.connected
  split <;> simp [hactivated]

/-- A boundary without a power request leaves the clocks and the power state alone, but for the instant of the last request. -/
theorem State.boundary_domains {s : State} (h : s.pow.request = none) (resume : Bool) :
    (s.boundary resume).clk = s.clk ∧ (s.boundary resume).pow = { s.pow with reqAt := s.ended.pow.reqAt } := by
  obtain ⟨hclk, hpow⟩ := s.ended_domains
  have hrequest : s.ended.pow.request = none := by rw [hpow]; exact h
  obtain ⟨hclk', hpow'⟩ := State.connected_domains hrequest resume
  rw [State.boundary_eq]
  simp only [State.ringEvents_domains, State.boundaryTail_domains, State.prologue_domains, State.boundaryMarkers_domains]
  exact ⟨hclk'.trans hclk, hpow'.trans hpow⟩

/-- The device that WAKE has been raised for, in the power state that STANDBY left, with the system clock back (R498, R499). -/
def State.woken (s : State) : State :=
  { s with
    pow := { s.pow with
      state := s.pow.resume, lastWake := s.pow.wakeSrc, wakePin := false
      noTrig := decide (s.pow.resume = .doze), lanesOff := decide (s.pow.resume = .doze) }
    clk := { s.clk with pll := 2 } }

/-- Its outputs drive again (R338). -/
def State.driving (s : State) : State := [0, 1, 2, 3].foldl State.outResume s.woken

/-- Its boundary is done, and its monitors are back (R313, R499). -/
def State.awake (s : State) : State := (monitorsOn (s.driving.boundary true).active).foldl State.monResume (s.driving.boundary true)

/-- WAKE_RETURN in STANDBY with WAKE raised; a shutdown latched in STANDBY takes effect then (R493, R499). -/
theorem State.wakeReturn_of_woken {s : State} (hstate : s.pow.state = .standby) (hwake : s.pow.wakePin = true) :
    s.wakeReturn = if s.awake.sup.shutDue then ({ s.awake with sup := { s.awake.sup with shutDue := false } } : State).thermalStop
      else s.awake := by
  unfold State.wakeReturn State.awake State.driving State.woken
  rw [if_pos (by simp [hstate, hwake])]

/-- WAKE_RETURN leaves tick, clocks and power state as the boundary and the monitors leave them. -/
theorem State.wakeReturn_keeps_awake {s : State} (hstate : s.pow.state = .standby) (hwake : s.pow.wakePin = true) :
    s.wakeReturn.clk = s.awake.clk ∧ s.wakeReturn.pow = s.awake.pow ∧ s.wakeReturn.tick.on = s.awake.tick.on ∧
      s.wakeReturn.tick.part = s.awake.tick.part ∧ s.wakeReturn.tick.counter = s.awake.tick.counter := by
  rw [State.wakeReturn_of_woken hstate hwake]
  split <;> simp

/-- Outputs that drive again leave clocks, power state and the number that follows alone. -/
theorem State.driving_keeps (s : State) : s.driving.clk = s.woken.clk ∧ s.driving.pow = s.woken.pow ∧
    s.driving.tick.counter = s.tick.counter ∧ s.driving.galt.counterNext = s.galt.counterNext := by
  have hnext : s.driving.galt = s.galt := foldl_keeps State.galt State.outResume (fun _ _ => rfl) [0, 1, 2, 3] s.woken
  refine ⟨?_, ?_, ?_, congrArg GaltSt.counterNext hnext⟩
  · exact foldl_keeps State.clk State.outResume (fun s n => (s.outResume_domains n).1) _ _
  · exact foldl_keeps State.pow State.outResume (fun s n => (s.outResume_domains n).2) _ _
  · exact foldl_keeps (·.tick.counter) State.outResume (fun s n => by simp) [0, 1, 2, 3] s.woken

/-- Monitors that are back leave clocks, power state and the tick alone. -/
theorem State.awake_keeps (s : State) :
    s.awake.clk = (s.driving.boundary true).clk ∧ s.awake.pow = (s.driving.boundary true).pow ∧
      s.awake.tick.on = (s.driving.boundary true).tick.on ∧ s.awake.tick.part = (s.driving.boundary true).tick.part ∧
      s.awake.tick.counter = (s.driving.boundary true).tick.counter := by
  simp [State.awake]

/-- The boundary that ends STANDBY opens the next tick (R19, R499). -/
theorem State.driving_opens {s : State} (hnext : s.galt.counterNext = none) :
    (s.driving.boundary true).tick.counter = s.tick.counter + 1 ∧ (s.driving.boundary true).tick.on = true ∧
      (s.driving.boundary true).tick.part = .prologue := by
  obtain ⟨_, _, hcounter, hgalt⟩ := s.driving_keeps
  obtain ⟨_, _, hkept⟩ := s.driving.ended_handover
  obtain ⟨_, hcounted⟩ := s.driving.ended_keeps
  have hopens := s.driving.boundary_opens true
  rwa [State.openNumber_of_none (hkept.trans (hgalt.trans hnext)), hcounted, hcounter] at hopens

/-- R498, R499: what raises WAKE, and the return from STANDBY. -/
theorem wakingOpensTheNextTick : Claim.WakingOpensTheNextTick := by
  refine fun s hcore => ⟨fun k cycles => ⟨fun hwakes => ?_, fun hwakes => ?_⟩, fun hnot => ?_,
    fun hstate hwake hnext hrequest => ?_⟩
  · simp only [Bool.and_eq_true, decide_eq_true_eq, and_assoc] at hwakes
    exact State.ends_of_run (f := (·.wakeRequest k.val cycles)) hcore rfl (if_pos hwakes)
  · rw [← Bool.not_eq_true] at hwakes
    simp only [Bool.and_eq_true, decide_eq_true_eq, and_assoc] at hwakes
    exact State.ends_of_run (f := (·.wakeRequest k.val cycles)) hcore rfl (if_neg hwakes)
  · refine State.ends_of_run (f := State.wakeReturn) hcore rfl (if_neg ?_)
    simp only [Bool.and_eq_true, decide_eq_true_eq, not_and_or, Bool.not_eq_true]
    exact hnot
  · have hreturn := State.wakeReturn_keeps_awake (s := s.begin) hstate hwake
    have hawake := s.begin.awake_keeps
    obtain ⟨hclk, hpow, _⟩ := s.begin.driving_keeps
    have hrequest' : s.begin.driving.pow.request = none := (congrArg PowerSt.request hpow).trans hrequest
    have hboundary := State.boundary_domains hrequest' true
    obtain ⟨hcounter, hon, hpart⟩ := State.driving_opens (s := s.begin) hnext
    refine State.reaches_of_run (f := State.wakeReturn) hcore rfl ?_
    rw [State.eq_of_apart (State.apart_settle _)]
    simp only [hreturn, hawake, hboundary, hclk, hpow, hcounter, hon, hpart]
    exact ⟨trivial, trivial, rfl, rfl, rfl, rfl, rfl⟩

/-- Settles O60, clause by clause. -/
theorem powerStates : Obligations.PowerStates :=
  ⟨powerRequestsWait, dozeIsEntered, standbyIsEntered, wakeSourcesNeedTheirEvent, wakingOpensTheNextTick⟩

end Sys2Proof.Machine
end

section
/-! PROOFS. The queue: a step takes its front command, and no command touches what waits behind it. -/
namespace Sys2Proof.Machine
open Sys2Proof

/-- Settles O1: `step` is a match on the queue. -/
theorem stepRunsFrontCommand : Obligations.StepRunsFrontCommand := by
  intro s c rest h
  simp only [step, h]

/-- On an empty queue nothing happens (log entry 1). -/
theorem emptyQueueIdles : Claim.EmptyQueueIdles := by
  intro s h
  simp only [step, h]

/-- Reset node leaves the queue to the commands behind it (R431, R488). -/
theorem State.nmtCommand_nmtReset_pending (s : State) (node command : Byte) :
    (s.nmtCommand node command State.nmtReset).pending = s.pending := by
  unfold State.nmtCommand
  dsimp only
  split
  · split
    · exact (by simp : (s.relayNmt node.toNat command).pending = s.pending)
    · simp
  · rfl

/-- What a command does between its start and its end leaves the queue alone, whatever the command is. -/
theorem effect_pending {i : Instr} (hi : ∀ b, i ≠ .powerOnReset b ∧ i ≠ .nrst b) :
    ∃ f : State → State, (∀ s, exec i s = s.run f) ∧ ∀ s : State, (f s).pending = s.pending := by
  cases i
  case powerOnReset b => exact absurd rfl (hi b).1
  case nrst b => exact absurd rfl (hi b).2
  case nmtResetNode node => exact ⟨_, fun _ => rfl, fun s => s.nmtCommand_nmtReset_pending node 0x81⟩
  all_goals exact ⟨_, fun s => by unfold exec; rfl, fun s => by simp⟩

/-- The two resets (R488). -/
theorem exec_of_reset {i : Instr} (hi : ¬ ∀ b, i ≠ .powerOnReset b ∧ i ≠ .nrst b) :
    ∃ b, ∀ s, exec i s = .next (s.begin.deviceReset b) := by
  cases i
  case powerOnReset b => exact ⟨b, fun _ => rfl⟩
  case nrst b => exact ⟨b, fun _ => rfl⟩
  all_goals exact absurd (fun _ => ⟨nofun, nofun⟩) hi

/-- No command touches the queue. -/
theorem exec_pending {i : Instr} {s t : State} (h : exec i s = .next t) : t.pending = s.pending := by
  by_cases hi : ∀ b, i ≠ .powerOnReset b ∧ i ≠ .nrst b
  · obtain ⟨f, hrun, hf⟩ := effect_pending hi
    obtain ⟨_, rfl⟩ | ⟨_, rfl⟩ := State.run_cases ((hrun s).symm.trans h)
    · rfl
    · simp [hf]
  · obtain ⟨b, hreset⟩ := exec_of_reset hi
    rw [← Host.Outcome.next.inj ((hreset s).symm.trans h)]
    rfl

/-- The step hands the queue's rest to the command, which leaves it. -/
theorem stepTakesOneCommand : Claim.StepTakesOneCommand := by
  intro s t c rest hq h
  rw [stepRunsFrontCommand s c rest hq] at h
  exact exec_pending h

/-- Settles O2: a command leaves the queue as the step hands it over. -/
theorem queueIsServedInOrder : Obligations.QueueIsServedInOrder := ⟨emptyQueueIdles, stepTakesOneCommand⟩
end Sys2Proof.Machine
end

section
/-! PROOFS. What each operation leaves of the field lock: its state. One lemma an operation, beside those of Laws/Keeps.lean (R438–R443). -/
namespace Sys2Proof.Machine
open Sys2Proof

@[simp] theorem foldl_keeps_lock_state {α : Type} (f : State → α → State) (l : List α) (s : State)
    (h : ∀ s a, (f s a).lock.state = s.lock.state) : (l.foldl f s).lock.state = s.lock.state := foldl_keeps (·.lock.state) f h l s
@[simp] theorem State.clockAt_lockState (s : State) (cyc : Nat) : (s.clockAt cyc).lock.state = s.lock.state := by rfl
@[simp] theorem State.setSlot_lockState (s : State) (n : Nat) (r : SlotRt) : (s.setSlot n r).lock.state = s.lock.state := by rfl
@[simp] theorem State.updSlot_lockState (s : State) (n : Nat) (f : SlotRt → SlotRt) : (s.updSlot n f).lock.state = s.lock.state := by rfl
@[simp] theorem State.updLane_lockState (s : State) (l : Nat) (f : LaneRt → LaneRt) : (s.updLane l f).lock.state = s.lock.state := by rfl
@[simp] theorem State.setRing_lockState (s : State) (r : Nat) (g : Ring) : (s.setRing r g).lock.state = s.lock.state := by rfl
@[simp] theorem State.updPin_lockState (s : State) (x : Nat) (f : PinRt → PinRt) : (s.updPin x f).lock.state = s.lock.state := by rfl
@[simp] theorem State.updSource_lockState (s : State) (e : Nat) (f : SourceRt → SourceRt) :
    (s.updSource e f).lock.state = s.lock.state := by rfl
@[simp] theorem State.updElem_lockState (s : State) (i : Nat) (f : ElemRt → ElemRt) : (s.updElem i f).lock.state = s.lock.state := by rfl
@[simp] theorem State.updPlug_lockState (s : State) (g : Nat) (f : PlugRt → PlugRt) : (s.updPlug g f).lock.state = s.lock.state := by rfl
@[simp] theorem State.updMonitor_lockState (s : State) (m : Nat) (f : MonRt → MonRt) :
    (s.updMonitor m f).lock.state = s.lock.state := by rfl
@[simp] theorem State.updOutput_lockState (s : State) (n : Nat) (f : OutRt → OutRt) : (s.updOutput n f).lock.state = s.lock.state := by rfl
@[simp] theorem State.updGen_lockState (s : State) (g : Nat) (f : GenRt → GenRt) : (s.updGen g f).lock.state = s.lock.state := by rfl
@[simp] theorem State.updTpdo_lockState (s : State) (k : Nat) (f : TpdoRt → TpdoRt) : (s.updTpdo k f).lock.state = s.lock.state := by rfl
@[simp] theorem State.event_lockState (s : State) (idx sub detail : Nat) : (s.event idx sub detail).lock.state = s.lock.state := by rfl
@[simp] theorem State.refusal_lockState (s : State) (code : Nat) (port : Port) (subject abort : Nat) :
    (s.refusal code port subject abort).lock.state = s.lock.state := by rfl
@[simp] theorem State.send_lockState (s : State) (e : Emit) : (s.send e).lock.state = s.lock.state := by rfl
@[simp] theorem State.sendLogic_lockState (s : State) (e : Emit) : (s.sendLogic e).lock.state = s.lock.state := by
  unfold State.sendLogic; split <;> simp
@[simp] theorem State.sendCan_lockState (s : State) (cob : Nat) (data : List Byte) : (s.sendCan cob data).lock.state = s.lock.state := by
  unfold State.sendCan; split <;> simp
@[simp] theorem State.emcy_lockState (s : State) (code detail : Nat) : (s.emcy code detail).lock.state = s.lock.state := by
  unfold State.emcy; split <;> simp
@[simp] theorem State.begin_lockState (s : State) : s.begin.lock.state = s.lock.state := by rfl
@[simp] theorem State.settle_lockState (s : State) : s.settle.lock.state = s.lock.state := by
  unfold State.settle; split <;> simp
@[simp] theorem State.recordDue_lockState (s : State) (g : Nat) (r0 : Rec) : (s.recordDue g r0).lock.state = s.lock.state := by
  unfold State.recordDue; dsimp only; (repeat' split) <;> simp
@[simp] theorem State.ringFull_lockState (s : State) (g : Nat) : (s.ringFull g).lock.state = s.lock.state := by
  unfold State.ringFull; dsimp only; (repeat' split) <;> simp
@[simp] theorem State.resolve_lockState (s : State) (slot : Nat) (reason : Reason) (tick : TickNo) (n : Nat) (dly : BitVec 4)
    (stl : Bool) (ring : Option Nat) :
    (s.resolve slot reason tick n dly stl ring).lock.state = s.lock.state := by
  unfold State.resolve; split <;> simp
@[simp] theorem State.writeWhey_lockState (s : State) (w : Whey) : (s.writeWhey w).lock.state = s.lock.state := by simp [State.writeWhey]
@[simp] theorem State.epilogue_lockState (s : State) : s.epilogue.lock.state = s.lock.state := by simp [State.epilogue]
@[simp] theorem State.marker_lockState (s : State) (code : Nat) (value : BitVec 32) :
    (s.marker code value).lock.state = s.lock.state := by simp [State.marker]
@[simp] theorem State.ledgerSnapshot_lockState (s : State) : s.ledgerSnapshot.lock.state = s.lock.state := by rfl
@[simp] theorem State.form_lockState (s : State) (ring : Nat) (r : Rec) : (s.form ring r).lock.state = s.lock.state := by rfl
@[simp] theorem State.storeOldest_lockState (s : State) : s.storeOldest.lock.state = s.lock.state := by
  unfold State.storeOldest; split <;> simp
@[simp] theorem State.flush_lockState (s : State) : s.flush.lock.state = s.lock.state := by simp [State.flush]
@[simp] theorem State.ringReset_lockState (s : State) (r : Nat) : (s.ringReset r).lock.state = s.lock.state := by
  unfold State.ringReset; dsimp only; (repeat' split) <;> simp
@[simp] theorem State.addSat_lockState (s : State) (p n : Nat) : (s.addSat p n).lock.state = s.lock.state := by rfl
@[simp] theorem State.totalise_lockState (s : State) (n cyc period : Nat) (y : Int) :
    (s.totalise n cyc period y).lock.state = s.lock.state := by
  unfold State.totalise; dsimp only; (repeat' split) <;> simp
@[simp] theorem State.noteFormation_lockState (s : State) (a : Tbl Nat) (n : Nat) (t : TickNo) (c : Nat) (f : Formation) (ovr : Bool) :
    (s.noteFormation a n t c f ovr).lock.state = s.lock.state := by
  unfold State.noteFormation; dsimp only; (repeat' split) <;> simp
@[simp] theorem State.startConv_lockState (s : State) (l n : Nat) (t : Trig) (e : Nat) :
    (s.startConv l n t e).lock.state = s.lock.state := by
  unfold State.startConv; split <;> simp
@[simp] theorem State.startLane_lockState (e : Nat) (s : State) (l : Nat) : (State.startLane e s l).lock.state = s.lock.state := by
  unfold State.startLane; (repeat' split) <;> simp
@[simp] theorem State.startAll_lockState (s : State) (e : Nat) : (s.startAll e).lock.state = s.lock.state := by simp [State.startAll]
@[simp] theorem State.abort_lockState (s : State) (n : Nat) : (s.abort n).lock.state = s.lock.state := by rfl
@[simp] theorem State.accept_lockState (s : State) (n : Nat) (t : TickNo) : (s.accept n t).lock.state = s.lock.state := by
  unfold State.accept; dsimp only; (repeat' split) <;> simp
@[simp] theorem State.slotEvent_lockState (s : State) (t : TickNo) (n : Nat) : (s.slotEvent t n).lock.state = s.lock.state := by
  unfold State.slotEvent; dsimp only; (repeat' split) <;> simp
@[simp] theorem State.expire_lockState (s : State) (n : Nat) (t : TickNo) (why : Reason) :
    (s.expire n t why).lock.state = s.lock.state := by rfl
@[simp] theorem State.expireSlot_lockState (s : State) (n : Nat) : (s.expireSlot n).lock.state = s.lock.state := by
  unfold State.expireSlot; dsimp only; (repeat' split) <;> simp
@[simp] theorem State.resolveSlot_lockState (s : State) (n : Nat) (why : Reason) (tickFor : TickNo → TickNo) (ring : Option Nat) :
    (s.resolveSlot n why tickFor ring).lock.state = s.lock.state := by
  unfold State.resolveSlot; dsimp only; (repeat' split) <;> simp
@[simp] theorem State.touchEvent_lockState (s : State) (route bit code source : Nat) (value : BitVec 32) (t : TickNo) (slot : Nat) :
    (s.touchEvent route bit code source value t slot).lock.state = s.lock.state := by
  unfold State.touchEvent; dsimp only; (repeat' split) <;> simp
@[simp] theorem State.elemEvent_lockState (s : State) (i code : Nat) (t : TickNo) (d : Rat) :
    (s.elemEvent i code t d).lock.state = s.lock.state := by simp [State.elemEvent]
@[simp] theorem State.evaluate_lockState (s : State) (i : Nat) (m : Rat) (t : TickNo) : (s.evaluate i m t).lock.state = s.lock.state := by
  unfold State.evaluate; dsimp only; (repeat' split) <;> simp
@[simp] theorem State.scanStart_lockState (s : State) : s.scanStart.lock.state = s.lock.state := by
  unfold State.scanStart; dsimp only; (repeat' split) <;> simp
@[simp] theorem State.measured_lockState (t : TickNo) (s : State) (im : Nat × Nat) : (State.measured t s im).lock.state = s.lock.state := by
  unfold State.measured; split <;> simp
@[simp] theorem State.scanEnd_lockState (s : State) (ms : List Nat) : (s.scanEnd ms).lock.state = s.lock.state := by
  unfold State.scanEnd; (repeat' split) <;> simp
@[simp] theorem State.elemAction_lockState (s : State) (i : Nat) : (s.elemAction i).lock.state = s.lock.state := by
  unfold State.elemAction; split <;> simp
@[simp] theorem State.repeatAction_lockState (s : State) (i : Nat) : (s.repeatAction i).lock.state = s.lock.state := by
  unfold State.repeatAction; dsimp only; (repeat' split) <;> simp
@[simp] theorem State.restLimit_lockState (s : State) (i : Nat) : (s.restLimit i).lock.state = s.lock.state := by
  unfold State.restLimit; split <;> simp
@[simp] theorem State.startLimit_lockState (s : State) (i : Nat) : (s.startLimit i).lock.state = s.lock.state := by
  unfold State.startLimit; split <;> simp
@[simp] theorem State.elemLimit_lockState (s : State) (i : Nat) : (s.elemLimit i).lock.state = s.lock.state := by
  unfold State.elemLimit; dsimp only; (repeat' split) <;> simp
@[simp] theorem State.elemOpen_lockState (s : State) (i : Nat) : (s.elemOpen i).lock.state = s.lock.state := by simp [State.elemOpen]
@[simp] theorem State.elemBoundary_lockState (s : State) (i : Nat) : (s.elemBoundary i).lock.state = s.lock.state := by
  unfold State.elemBoundary; dsimp only; (repeat' split) <;> simp
@[simp] theorem State.wakeScan_lockState (s : State) (ms : List Nat) : (s.wakeScan ms).lock.state = s.lock.state := by
  unfold State.wakeScan; split <;> simp
@[simp] theorem State.pressEvaluate_lockState (s : State) (n : Nat) (t : TickNo) (value : BitVec 32) (raw undef : Bool) :
    (s.pressEvaluate n t value raw undef).lock.state = s.lock.state := by
  unfold State.pressEvaluate; split <;> simp
@[simp] theorem State.plugEvent_lockState (s : State) (g code : Nat) (t : TickNo) (mv : BitVec 16) :
    (s.plugEvent g code t mv).lock.state = s.lock.state := by simp [State.plugEvent]
@[simp] theorem State.plugSample_lockState (s : State) (g : Nat) (mv : BitVec 16) : (s.plugSample g mv).lock.state = s.lock.state := by
  unfold State.plugSample; dsimp only; (repeat' split) <;> simp
@[simp] theorem State.settleHoldEnd_lockState (s : State) (g : Nat) : (s.settleHoldEnd g).lock.state = s.lock.state := by
  unfold State.settleHoldEnd; split <;> simp
@[simp] theorem State.plugBoundary_lockState (s : State) (g : Nat) : (s.plugBoundary g).lock.state = s.lock.state := by
  unfold State.plugBoundary; dsimp only; (repeat' split) <;> simp
@[simp] theorem State.emptyFilter_lockState (s : State) (n : Nat) : (s.emptyFilter n).lock.state = s.lock.state := by rfl
@[simp] theorem State.absenceBoundary_lockState (s : State) (n : Nat) : (s.absenceBoundary n).lock.state = s.lock.state := by
  unfold State.absenceBoundary; dsimp only; (repeat' split) <;> simp
@[simp] theorem State.verdict_lockState (s : State) (v : Verdict) (cause : Nat) : (s.verdict v cause).lock.state = s.lock.state := by rfl
@[simp] theorem State.calLanesStopped_lockState (s : State) : s.calLanesStopped.lock.state = s.lock.state := by
  unfold State.calLanesStopped; split <;> simp
@[simp] theorem State.calOpen_lockState (s : State) (n : Nat) : (s.calOpen n).lock.state = s.lock.state := by
  unfold State.calOpen; split <;> simp
@[simp] theorem State.calLaneFault_lockState (s : State) (n : Nat) : (s.calLaneFault n).lock.state = s.lock.state := by
  unfold State.calLaneFault; split <;> simp
@[simp] theorem State.calWhey_lockState (s : State) : s.calWhey.lock.state = s.lock.state := by
  unfold State.calWhey; (repeat' split) <;> simp
@[simp] theorem State.calCollect_lockState (s : State) (n : Nat) (x : Int) (ovr : Bool) :
    (s.calCollect n x ovr).lock.state = s.lock.state := by
  unfold State.calCollect; dsimp only; (repeat' split) <;> simp
@[simp] theorem State.applyCoef_lockState (s : State) (k : Nat × Bool × Nat) : (s.applyCoef k).lock.state = s.lock.state := by rfl
@[simp] theorem State.calTimeout_lockState (s : State) : s.calTimeout.lock.state = s.lock.state := by
  unfold State.calTimeout; split <;> simp
@[simp] theorem State.startsBefore_lockState (s : State) (c : Nat) :
    (s.startsBefore c).lock.state = s.lock.state := by simp [State.startsBefore]
@[simp] theorem State.willLatch_lockState (s : State) (codes : List Nat) (c : Nat) :
    (s.willLatch codes c).lock.state = s.lock.state := by rfl
@[simp] theorem State.latchCycle_lockState (s0 : State) (c : Nat) :
    (s0.latchCycle c).lock.state = s0.lock.state := by simp [State.latchCycle]
@[simp] theorem State.latchTo_lockState (s : State) (c : Nat) : (s.latchTo c).lock.state = s.lock.state := by simp [State.latchTo]
@[simp] theorem State.at_lockState (s : State) (c : Nat) : (s.at c).lock.state = s.lock.state := by simp [State.at]
@[simp] theorem State.sourceFault_lockState (x : Nat) (s : State) (e : Nat) : (State.sourceFault x s e).lock.state = s.lock.state := by
  unfold State.sourceFault; dsimp only; (repeat' split) <;> simp
@[simp] theorem State.electrodeRestart_lockState (x : Nat) (s : State) (i : Nat) :
    (State.electrodeRestart x s i).lock.state = s.lock.state := by
  unfold State.electrodeRestart; split <;> simp
@[simp] theorem State.pinFaultEntry_lockState (s : State) (x : Nat) (above : Bool) :
    (s.pinFaultEntry x above).lock.state = s.lock.state := by
  unfold State.pinFaultEntry; dsimp only; (repeat' split) <;> simp
@[simp] theorem State.pinFaultExit_lockState (s : State) (x : Nat) : (s.pinFaultExit x).lock.state = s.lock.state := by
  unfold State.pinFaultExit; split <;> simp
@[simp] theorem State.excitationReading_lockState (s : State) (e currentNa neededUv avddUv : Nat) :
    (s.excitationReading e currentNa neededUv avddUv).lock.state = s.lock.state := by
  unfold State.excitationReading; dsimp only; (repeat' split) <;> simp
@[simp] theorem State.sourceBoundary_lockState (s : State) (e : Nat) : (s.sourceBoundary e).lock.state = s.lock.state := by
  unfold State.sourceBoundary; dsimp only; (repeat' split) <;> simp
@[simp] theorem State.openSources_lockState (s : State) : s.openSources.lock.state = s.lock.state := by rfl
@[simp] theorem State.vrefoReading_lockState (s : State) (uv : BitVec 32) : (s.vrefoReading uv).lock.state = s.lock.state := by
  unfold State.vrefoReading; split <;> simp
@[simp] theorem State.drawRef_lockState (s : State) (n l : Nat) (ref : RefLevel) : (s.drawRef n l ref).lock.state = s.lock.state := by rfl
@[simp] theorem State.noteUnpaired_lockState (s : State) (a : Tbl Nat) (n : Nat) (unpaired : Bool) :
    (s.noteUnpaired a n unpaired).lock.state = s.lock.state := by
  unfold State.noteUnpaired; split <;> simp
@[simp] theorem State.formData_lockState (s : State) (a : Tbl Nat) (n c : Nat) (x5 : Int) (ovr cal : Bool) (dly : Nat) :
    (s.formData a n c x5 ovr cal dly).lock.state = s.lock.state := by simp [State.formData]
@[simp] theorem State.endConv_lockState (s : State) (l : Nat) (c : Conv) (x0 : Int) (ref : RefLevel) :
    (s.endConv l c x0 ref).lock.state = s.lock.state := by
  unfold State.endConv; dsimp only; (repeat' split) <;> simp
@[simp] theorem State.conversionEnd_lockState (s : State) (l : Nat) (x0 : Int) (ref : RefLevel) :
    (s.conversionEnd l x0 ref).lock.state = s.lock.state := by
  unfold State.conversionEnd; dsimp only; (repeat' split) <;> simp
@[simp] theorem State.markSat_lockState (s : State) (n p sats : Nat) : (s.markSat n p sats).lock.state = s.lock.state := by
  unfold State.markSat; split <;> simp
@[simp] theorem State.runSample_lockState (s : State) (p n : Nat) : (s.runSample p n).lock.state = s.lock.state := by
  unfold State.runSample; (repeat' split) <;> simp
@[simp] theorem State.outputSample_lockState (s0 : State) (p : Nat) (x0 : Int) (ref : RefLevel) (cyc : Nat) :
    (s0.outputSample p x0 ref cyc).lock.state = s0.lock.state := by
  unfold State.outputSample; dsimp only; (repeat' split) <;> simp
@[simp] theorem State.deliverRecord_lockState (s : State) (a : Tbl Nat) (n p : Nat) (m : Sample) :
    (s.deliverRecord a n p m).lock.state = s.lock.state := by
  unfold State.deliverRecord; split <;> simp
@[simp] theorem State.dedLost_lockState (s : State) (n : Nat) (t : TickNo) :
    (s.dedLost n t).lock.state = s.lock.state := by simp [State.dedLost]
@[simp] theorem State.deliver_lockState (s : State) (a : Tbl Nat) (l : Nat) : (s.deliver a l).lock.state = s.lock.state := by
  unfold State.deliver; dsimp only; (repeat' split) <;> simp
@[simp] theorem State.closeHalves_lockState (s : State) (l : Nat) : (s.closeHalves l).lock.state = s.lock.state := by
  unfold State.closeHalves; dsimp only; (repeat' split) <;> simp
@[simp] theorem State.runSamples_lockState (s : State) : s.runSamples.lock.state = s.lock.state :=
  foldl_keeps_lock_state _ _ _ fun s p => by split <;> simp
@[simp] theorem State.countDelivery_lockState (s : State) (l : Nat) : (s.countDelivery l).lock.state = s.lock.state := by
  unfold State.countDelivery; split <;> simp
@[simp] theorem State.align_lockState (s : State) (l : Nat) : (s.align l).lock.state = s.lock.state := by
  unfold State.align; split <;> simp
@[simp] theorem State.connectAll_lockState (s : State) : s.connectAll.lock.state = s.lock.state :=
  foldl_keeps_lock_state _ _ _ fun s l => by split <;> simp
@[simp] theorem State.totStop_lockState (s : State) (n : Nat) : (s.totStop n).lock.state = s.lock.state := by rfl
@[simp] theorem State.lanesStop_lockState (s : State) : s.lanesStop.lock.state = s.lock.state := by simp [State.lanesStop]
@[simp] theorem State.windowDone_lockState (s : State) (p : Nat) : (s.windowDone p).lock.state = s.lock.state := by rfl
@[simp] theorem State.openOverlap_lockState (s : State) (i : Nat) (intoE : Bool) :
    (s.openOverlap i intoE).lock.state = s.lock.state := by rfl
@[simp] theorem State.serveBy_lockState (s : State) (i : Nat) : (s.serveBy i).lock.state = s.lock.state := by rfl
@[simp] theorem State.handBack_lockState (s : State) : s.handBack.lock.state = s.lock.state := by rfl
@[simp] theorem State.startPhase_lockState (s : State) (k : Nat) : (s.startPhase k).lock.state = s.lock.state := by
  unfold State.startPhase; dsimp only; (repeat' split) <;> simp
@[simp] theorem State.enterPhase_lockState (s : State) (k : Nat) : (s.enterPhase k).lock.state = s.lock.state := by
  unfold State.enterPhase; split <;> simp
@[simp] theorem State.windowRan_lockState (s : State) (p : Nat) : (s.windowRan p).lock.state = s.lock.state := by
  unfold State.windowRan; split <;> simp
@[simp] theorem State.phaseEnd_lockState (s : State) : s.phaseEnd.lock.state = s.lock.state := by
  unfold State.phaseEnd; dsimp only; (repeat' split) <;> simp
@[simp] theorem State.lostSlots_lockState (s : State) (l : Nat) : (s.lostSlots l).lock.state = s.lock.state := by
  unfold State.lostSlots
  split
  · exact (foldl_keeps_lock_state _ _ _ fun s n => by dsimp only; split <;> simp).trans (by simp)
  · (repeat' split) <;> simp
@[simp] theorem State.faultLane_lockState (s : State) (p cause : Nat) : (s.faultLane p cause).lock.state = s.lock.state := by
  unfold State.faultLane; dsimp only; (repeat' split) <;> simp
@[simp] theorem State.laneFault_lockState (s : State) (p : Nat) : (s.laneFault p).lock.state = s.lock.state := by
  unfold State.laneFault; split <;> simp
@[simp] theorem State.overlapEnd_lockState (s : State) : s.overlapEnd.lock.state = s.lock.state := by
  unfold State.overlapEnd; dsimp only; (repeat' split) <;> simp
@[simp] theorem State.quadMeasure_lockState (s : State) (p j : Nat) (z sp : Int) : (s.quadMeasure p j z sp).lock.state = s.lock.state := by
  unfold State.quadMeasure; dsimp only; (repeat' split) <;> simp
@[simp] theorem State.selfPoint_lockState (s : State) (z sp : Int) : (s.selfPoint z sp).lock.state = s.lock.state := by
  unfold State.selfPoint; dsimp only; (repeat' split) <;> simp
@[simp] theorem State.faultClear_lockState (s : State) (p : Nat) : (s.faultClear p).lock.state = s.lock.state := by
  unfold State.faultClear; split <;> simp
@[simp] theorem State.laneReturns_lockState (s : State) (p : Nat) : (s.laneReturns p).lock.state = s.lock.state := by
  unfold State.laneReturns; (repeat' split) <;> simp
@[simp] theorem State.clearBoundary_lockState (s : State) (p : Nat) : (s.clearBoundary p).lock.state = s.lock.state := by
  unfold State.clearBoundary; dsimp only; (repeat' split) <;> simp
@[simp] theorem State.compare_lockState (s : State) : s.compare.lock.state = s.lock.state := by
  unfold State.compare; dsimp only; (repeat' split) <;> simp
@[simp] theorem State.calOverlap_lockState (s : State) : s.calOverlap.lock.state = s.lock.state := by
  unfold State.calOverlap; (repeat' split) <;> simp
@[simp] theorem State.quadCount_lockState (s : State) : s.quadCount.lock.state = s.lock.state := by rfl
@[simp] theorem State.takeOver_lockState (s : State) : s.takeOver.lock.state = s.lock.state := by
  unfold State.takeOver; dsimp only; (repeat' split) <;> simp
@[simp] theorem State.quadMove_lockState (s : State) : s.quadMove.lock.state = s.lock.state := by
  unfold State.quadMove; dsimp only; (repeat' split) <;> simp
@[simp] theorem State.dropOverlap_lockState (s : State) : s.dropOverlap.lock.state = s.lock.state := by
  unfold State.dropOverlap; split <;> simp
@[simp] theorem State.quadOff_lockState (old : Tbl Nat) (s : State) : (State.quadOff old s).lock.state = s.lock.state := by
  unfold State.quadOff; (repeat' split) <;> simp
@[simp] theorem State.captureEdge_lockState (m : Nat) (asserted : Bool) (cyc : Nat) (s : State) (k : Nat) :
    (State.captureEdge m asserted cyc s k).lock.state = s.lock.state := by
  unfold State.captureEdge; dsimp only; (repeat' split) <;> simp
@[simp] theorem State.dacsMoved_lockState (s : State) (m : Nat) (was : Nat × Nat) (cyc : Nat) :
    (s.dacsMoved m was cyc).lock.state = s.lock.state := by rfl
@[simp] theorem State.compEdge_lockState (s : State) (m : Nat) (asserted : Bool) (cyc : Nat) :
    (s.compEdge m asserted cyc).lock.state = s.lock.state := by
  unfold State.compEdge; (repeat' split) <;> simp
@[simp] theorem State.monEvent_lockState (s : State) (m code : Nat) (value : BitVec 32) (t : TickNo) :
    (s.monEvent m code value t).lock.state = s.lock.state := by
  unfold State.monEvent; dsimp only; (repeat' split) <;> simp
@[simp] theorem State.monPend_lockState (s : State) (k : Nat) : (s.monPend k).lock.state = s.lock.state := by rfl
@[simp] theorem State.monOutput_lockState (s : State) (m : Nat) (asserted : Bool) (value : BitVec 32) (t : TickNo) (cyc : Nat) :
    (s.monOutput m asserted value t cyc).lock.state = s.lock.state := by
  unfold State.monOutput; (repeat' split) <;> simp
@[simp] theorem State.comparatorEdge_lockState (s0 : State) (m : Nat) (v : Int) (vref cyc : Nat) :
    (s0.comparatorEdge m v vref cyc).lock.state = s0.lock.state := by
  unfold State.comparatorEdge; dsimp only; (repeat' split) <;> simp
@[simp] theorem State.monitorChange_lockState (s0 : State) (m : Nat) (asserted : Bool) (cyc : Nat) :
    (s0.monitorChange m asserted cyc).lock.state = s0.lock.state := by
  unfold State.monitorChange; dsimp only; (repeat' split) <;> simp
@[simp] theorem State.monForce_lockState (s : State) (m : Nat) : (s.monForce m).lock.state = s.lock.state := by simp [State.monForce]
@[simp] theorem State.monFault_lockState (s : State) (m : Nat) (high : Bool) (diff : Int) :
    (s.monFault m high diff).lock.state = s.lock.state := by simp [State.monFault]
@[simp] theorem State.monReadback_lockState (s0 : State) (m : Nat) (high : Bool) (reading cyc : Nat) :
    (s0.monReadback m high reading cyc).lock.state = s0.lock.state := by
  unfold State.monReadback; dsimp only; (repeat' split) <;> simp
@[simp] theorem State.monClear_lockState (s : State) (m : Nat) : (s.monClear m).lock.state = s.lock.state := by
  unfold State.monClear; split <;> simp
@[simp] theorem State.monBoundary_lockState (s : State) (m : Nat) : (s.monBoundary m).lock.state = s.lock.state := by
  unfold State.monBoundary; dsimp only; (repeat' split) <;> simp
@[simp] theorem State.monResume_lockState (s : State) (m : Nat) : (s.monResume m).lock.state = s.lock.state := by
  unfold State.monResume; dsimp only; (repeat' split) <;> simp
@[simp] theorem State.monStandby_lockState (s : State) (m : Nat) : (s.monStandby m).lock.state = s.lock.state := by rfl
@[simp] theorem State.capRearm_lockState (s : State) (mask : BitVec 8) : (s.capRearm mask).lock.state = s.lock.state := by rfl
@[simp] theorem State.monPendClear_lockState (s : State) (mask : BitVec 32) : (s.monPendClear mask).lock.state = s.lock.state := by rfl
@[simp] theorem State.writeCode_lockState (s : State) (n : Nat) (code : BitVec 16) (cyc : Nat) :
    (s.writeCode n code cyc).lock.state = s.lock.state := by rfl
@[simp] theorem State.genAdvance_lockState (s : State) (g upTo : Nat) : (s.genAdvance g upTo).lock.state = s.lock.state := by
  unfold State.genAdvance; split <;> simp
@[simp] theorem State.gensNow_lockState (s : State) : s.gensNow.lock.state = s.lock.state := by
  unfold State.gensNow; split <;> simp
@[simp] theorem State.forceMid_lockState (s : State) (n : Nat) : (s.forceMid n).lock.state = s.lock.state := by
  unfold State.forceMid; split <;> simp
@[simp] theorem State.forceAllMid_lockState (s : State) : s.forceAllMid.lock.state = s.lock.state := by simp [State.forceAllMid]
@[simp] theorem State.genStart_lockState (s : State) (g : Nat) : (s.genStart g).lock.state = s.lock.state := by rfl
@[simp] theorem State.keepSample_lockState (s : State) (n j : Nat) : (s.keepSample n j).lock.state = s.lock.state := by
  unfold State.keepSample; split <;> simp
@[simp] theorem State.updateAt_lockState (s : State) (n e : Nat) : (s.updateAt n e).lock.state = s.lock.state := by simp [State.updateAt]
@[simp] theorem State.updateEvent_lockState (s : State) (n : Nat) : (s.updateEvent n).lock.state = s.lock.state := by
  unfold State.updateEvent; dsimp only; (repeat' split) <;> simp
@[simp] theorem State.phaseReset_lockState (s : State) (g : Nat) : (s.phaseReset g).lock.state = s.lock.state := by
  unfold State.phaseReset; dsimp only; (repeat' split) <;> simp
@[simp] theorem State.genArm_lockState (s : State) (g : Nat) : (s.genArm g).lock.state = s.lock.state := by rfl
@[simp] theorem State.outFault_lockState (s : State) (n cause : Nat) : (s.outFault n cause).lock.state = s.lock.state := by
  unfold State.outFault; split <;> simp
@[simp] theorem State.outputReading_lockState (s : State) (n : Nat) (vOut vSense iOut vmid avdd : Int) :
    (s.outputReading n vOut vSense iOut vmid avdd).lock.state = s.lock.state := by
  unfold State.outputReading; dsimp only; (repeat' split) <;> simp
@[simp] theorem State.outClear_lockState (s : State) (n cyc : Nat) : (s.outClear n cyc).lock.state = s.lock.state := by
  unfold State.outClear; split <;> simp
@[simp] theorem State.outTickOver_lockState (cycles : Nat) (s : State) (n : Nat) :
    (State.outTickOver cycles s n).lock.state = s.lock.state := by
  unfold State.outTickOver; split <;> simp
@[simp] theorem State.outBoundary_lockState (s : State) (n : Nat) : (s.outBoundary n).lock.state = s.lock.state := by
  unfold State.outBoundary; split <;> simp
@[simp] theorem State.outRestart_lockState (s : State) (n : Nat) : (s.outRestart n).lock.state = s.lock.state := by rfl
@[simp] theorem State.outStart_lockState (s : State) (n : Nat) : (s.outStart n).lock.state = s.lock.state := by
  unfold State.outStart; split <;> simp
@[simp] theorem State.outStandby_lockState (s : State) (n : Nat) : (s.outStandby n).lock.state = s.lock.state := by rfl
@[simp] theorem State.outResume_lockState (s : State) (n : Nat) : (s.outResume n).lock.state = s.lock.state := by rfl
@[simp] theorem State.jnMove_lockState (s : State) : s.jnMove.lock.state = s.lock.state := by
  unfold State.jnMove; split <;> simp
@[simp] theorem State.jnMargin_lockState (s : State) : s.jnMargin.lock.state = s.lock.state := by rfl
@[simp] theorem State.storeBaseline_lockState (s : State) (i : Nat) : (s.storeBaseline i).lock.state = s.lock.state := by
  unfold State.storeBaseline; dsimp only; (repeat' split) <;> simp
@[simp] theorem State.withBaselines_lockState (s : State) (classes : List Nat) : (s.withBaselines classes).lock.state = s.lock.state := by
  unfold State.withBaselines; split <;> simp
@[simp] theorem State.enqueue_lockState (s : State) (isStore : Bool) (sub : Nat) :
    (s.enqueue isStore sub).lock.state = s.lock.state := by rfl
@[simp] theorem State.storeBegin_lockState (s : State) : s.storeBegin.lock.state = s.lock.state := by
  unfold State.storeBegin; (repeat' split) <;> simp
@[simp] theorem State.clearUnstored_lockState (s : State) (cap : List (Nat × Nat)) (isStore : Bool) :
    (s.clearUnstored cap isStore).lock.state = s.lock.state := by
  unfold State.clearUnstored; split <;> simp
@[simp] theorem State.storeFails_lockState (s : State) (code : Nat) : (s.storeFails code).lock.state = s.lock.state := by rfl
@[simp] theorem State.planDone_lockState (s : State) : s.planDone.lock.state = s.lock.state := by
  unfold State.planDone; (repeat' split) <;> simp
@[simp] theorem State.rewrite_lockState (s : State) (close : Bool) : (s.rewrite close).lock.state = s.lock.state := by
  unfold State.rewrite; split <;> simp
@[simp] theorem State.devDone_lockState (s : State) (r : JRec) (weak : Bool) : (s.devDone r weak).lock.state = s.lock.state := by
  unfold State.devDone; (repeat' split) <;> simp
@[simp] theorem State.copyDone_lockState (s : State) (weak : Bool) (rest : List JRec) :
    (s.copyDone weak rest).lock.state = s.lock.state := by rfl
@[simp] theorem State.recordProgram_lockState (s : State) (weak : Bool) : (s.recordProgram weak).lock.state = s.lock.state := by
  unfold State.recordProgram; dsimp only; (repeat' split) <;> simp
@[simp] theorem State.eraseComplete_lockState (s : State) : s.eraseComplete.lock.state = s.lock.state := by
  unfold State.eraseComplete; (repeat' split) <;> simp
@[simp] theorem State.jnShutdown_lockState (s : State) : s.jnShutdown.lock.state = s.lock.state := by
  unfold State.jnShutdown; dsimp only; (repeat' split) <;> simp
@[simp] theorem State.eraseSpare_lockState (s : State) : s.eraseSpare.lock.state = s.lock.state := by
  unfold State.eraseSpare; split <;> simp
@[simp] theorem State.commitStart_lockState (s : State) : s.commitStart.lock.state = s.lock.state := by rfl
@[simp] theorem State.discard_lockState (s : State) : s.discard.lock.state = s.lock.state := by rfl
@[simp] theorem State.commitRequest_lockState (s : State) (v : Nat) (p : Port) : (s.commitRequest v p).lock.state = s.lock.state := by
  unfold State.commitRequest; split <;> simp
@[simp] theorem State.commitVerdict_lockState (s : State) (cyc : Nat) : (s.commitVerdict cyc).lock.state = s.lock.state := by
  unfold State.commitVerdict; (repeat' split) <;> simp
@[simp] theorem State.startCheck_lockState (s : State) : s.startCheck.lock.state = s.lock.state := by
  unfold State.startCheck; dsimp only; (repeat' split) <;> simp
@[simp] theorem State.refEvent_lockState (s : State) (src : RefSource) (inst : Int) : (s.refEvent src inst).lock.state = s.lock.state := by
  unfold State.refEvent; dsimp only; (repeat' split) <;> simp
@[simp] theorem State.judgeBlock_lockState (s : State) (x : Rat) : (s.judgeBlock x).lock.state = s.lock.state := by
  unfold State.judgeBlock; dsimp only; (repeat' split) <;> simp
@[simp] theorem State.usable_lockState (s : State) (x e : Rat) (back : Nat) :
    (s.usable x e back).lock.state = s.lock.state := by simp [State.usable]
@[simp] theorem State.anchorOn_lockState (s : State) (x : Rat) (more : Nat) : (s.anchorOn x more).lock.state = s.lock.state := by rfl
@[simp] theorem State.lockEval_lockState (s : State) : s.lockEval.lock.state = s.lock.state := by
  unfold State.lockEval; dsimp only; (repeat' split) <;> simp
@[simp] theorem State.holdoverLimit_lockState (s : State) : s.holdoverLimit.lock.state = s.lock.state := by
  unfold State.holdoverLimit; dsimp only; (repeat' split) <;> simp
@[simp] theorem State.tickMarkers_lockState (s : State) (was : Bool) (realign : List Int) (drift wrapped : Bool) :
    (s.tickMarkers was realign drift wrapped).lock.state = s.lock.state := by
  unfold State.tickMarkers; dsimp only; (repeat' split) <;> simp
@[simp] theorem State.stopAll_lockState (s : State) (why : Reason) : (s.stopAll why).lock.state = s.lock.state := by
  simp [State.stopAll]
@[simp] theorem State.integrityStop_lockState (s : State) (cause : BitVec 8) : (s.integrityStop cause).lock.state = s.lock.state := by
  simp [State.integrityStop]
@[simp] theorem State.writeWheyNow_lockState (s : State) : s.writeWheyNow.lock.state = s.lock.state := by simp [State.writeWheyNow]
@[simp] theorem State.supplyStamp_lockState (s0 : State) (avddUv vioMv : Nat) :
    (s0.supplyStamp avddUv vioMv).lock.state = s0.lock.state := by
  unfold State.supplyStamp; dsimp only; (repeat' split) <;> simp
@[simp] theorem State.countMismatch_lockState (s : State) : s.countMismatch.lock.state = s.lock.state := by rfl
@[simp] theorem State.rindMismatch_lockState (s : State) (cause : BitVec 8) : (s.rindMismatch cause).lock.state = s.lock.state := by
  unfold State.rindMismatch; split <;> simp
@[simp] theorem State.rindCheck_lockState (s : State) (signatureDiffers configDiffers : Bool) :
    (s.rindCheck signatureDiffers configDiffers).lock.state = s.lock.state := by
  unfold State.rindCheck; dsimp only; (repeat' split) <;> simp
@[simp] theorem State.stopClear_lockState (s : State) : s.stopClear.lock.state = s.lock.state := by rfl
@[simp] theorem State.sweepComplete_lockState (s0 : State) (mismatch : Bool) (cyc : Nat) :
    (s0.sweepComplete mismatch cyc).lock.state = s0.lock.state := by
  unfold State.sweepComplete; dsimp only; (repeat' split) <;> simp
@[simp] theorem State.reinitialise_lockState (s : State) : s.reinitialise.lock.state = s.lock.state := by rfl
@[simp] theorem State.clearStops_lockState (s : State) : s.clearStops.lock.state = s.lock.state := by
  unfold State.clearStops; dsimp only; (repeat' split) <;> simp
@[simp] theorem State.dieReading_lockState (s : State) (centi : Int) : (s.dieReading centi).lock.state = s.lock.state := by
  unfold State.dieReading; dsimp only; (repeat' split) <;> simp
@[simp] theorem State.thermalStop_lockState (s : State) : s.thermalStop.lock.state = s.lock.state := by
  simp [State.thermalStop]
@[simp] theorem State.thermalShutdown_lockState (s : State) : s.thermalShutdown.lock.state = s.lock.state := by
  unfold State.thermalShutdown; (repeat' split) <;> simp
@[simp] theorem State.shutdownClear_lockState (s : State) : s.shutdownClear.lock.state = s.lock.state := by rfl
@[simp] theorem State.coreStop_lockState (s : State) : s.coreStop.lock.state = s.lock.state := by rfl
@[simp] theorem State.clockStop_lockState (s : State) (cause : Nat) : (s.clockStop cause).lock.state = s.lock.state := by
  simp [State.clockStop]
@[simp] theorem State.clockFaultIn_lockState (s : State) (cause : ClockCause) (cyc : Nat) :
    (s.clockFaultIn cause cyc).lock.state = s.lock.state := by
  unfold State.clockFaultIn; dsimp only; (repeat' split) <;> simp
@[simp] theorem State.alwaysOnLoss_lockState (s : State) (hz : BitVec 16) : (s.alwaysOnLoss hz).lock.state = s.lock.state := by
  unfold State.alwaysOnLoss; split <;> simp
@[simp] theorem State.alwaysOnRecovery_lockState (s : State) (hz : BitVec 16) : (s.alwaysOnRecovery hz).lock.state = s.lock.state := by
  unfold State.alwaysOnRecovery; split <;> simp
@[simp] theorem State.xoRestart_lockState (s : State) : s.xoRestart.lock.state = s.lock.state := by
  unfold State.xoRestart; split <;> simp
@[simp] theorem State.samplerBack_lockState (s : State) : s.samplerBack.lock.state = s.lock.state := by
  unfold State.samplerBack; split <;> simp
@[simp] theorem State.pllLock_lockState (s : State) (external : Bool) : (s.pllLock external).lock.state = s.lock.state := by
  unfold State.pllLock; dsimp only; (repeat' split) <;> simp
@[simp] theorem State.selfCheckRestart_lockState (s : State) : s.selfCheckRestart.lock.state = s.lock.state := by
  unfold State.selfCheckRestart; split <;> simp
@[simp] theorem State.selfCheckQualified_lockState (s : State) (khz : BitVec 16) :
    (s.selfCheckQualified khz).lock.state = s.lock.state := by
  unfold State.selfCheckQualified; split <;> simp
@[simp] theorem State.coreStopEvent_lockState (s : State) : s.coreStopEvent.lock.state = s.lock.state := by
  unfold State.coreStopEvent; split <;> simp
@[simp] theorem State.powerRequest_lockState (s : State) (p : Power) (v cyc : Nat) :
    (s.powerRequest p v cyc).lock.state = s.lock.state := by rfl
@[simp] theorem State.powerBoundary_lockState (s : State) : s.powerBoundary.lock.state = s.lock.state := by
  unfold State.powerBoundary; (repeat' split) <;> simp
@[simp] theorem State.leaveLanes_lockState (s : State) : s.leaveLanes.lock.state = s.lock.state := by simp [State.leaveLanes]
@[simp] theorem State.dozeEntry_lockState (s : State) : s.dozeEntry.lock.state = s.lock.state := by
  unfold State.dozeEntry; (repeat' split) <;> simp
@[simp] theorem State.standbyEntry_lockState (s : State) : s.standbyEntry.lock.state = s.lock.state := by
  unfold State.standbyEntry; split <;> simp
@[simp] theorem State.wakeRequest_lockState (s : State) (k cycles : Nat) : (s.wakeRequest k cycles).lock.state = s.lock.state := by
  unfold State.wakeRequest; split <;> simp
@[simp] theorem State.devRecord_lockState (s : State) (state : FieldLock) (count : Nat) (own : Bool) :
    (s.devRecord state count own).lock.state = s.lock.state := by simp [State.devRecord]
@[simp] theorem State.spendChallenge_lockState (s : State) : s.spendChallenge.lock.state = s.lock.state := by rfl
@[simp] theorem State.attempt_lockState (s : State) (response : Bool) (value : BitVec 128) :
    (s.attempt response value).lock.state = s.lock.state := by simp [State.attempt]
@[simp] theorem State.backOffEnd_lockState (s : State) : s.backOffEnd.lock.state = s.lock.state := by
  unfold State.backOffEnd; split <;> simp
@[simp] theorem State.challengeExpiry_lockState (s : State) : s.challengeExpiry.lock.state = s.lock.state := by
  unfold State.challengeExpiry; split <;> simp
@[simp] theorem State.newChallenge_lockState (s : State) : s.newChallenge.lock.state = s.lock.state := by rfl
@[simp] theorem State.lockServed_lockState (s : State) (p : Port) : (s.lockServed p).lock.state = s.lock.state := by
  unfold State.lockServed; split <;> simp
@[simp] theorem State.noteRelay_lockState (s : State) (via : Via) (served : Bool) : (s.noteRelay via served).lock.state = s.lock.state := by
  unfold State.noteRelay; split <;> simp
@[simp] theorem State.refuse_lockState (s : State) (via : Via) (idx sub code : Nat) (abort : Bool) :
    (s.refuse via idx sub code abort).lock.state = s.lock.state := by
  unfold State.refuse; (repeat' split) <;> simp
@[simp] theorem State.complete_lockState (s : State) (via : Via) : (s.complete via).lock.state = s.lock.state := by simp [State.complete]
@[simp] theorem State.galtSend_lockState (s : State) (typ dst : Nat) (payload : List Byte) :
    (s.galtSend typ dst payload).lock.state = s.lock.state := by
  unfold State.galtSend; split <;> simp
@[simp] theorem State.sendCredit_lockState (s : State) (o : OriginRt) : (s.sendCredit o).lock.state = s.lock.state := by
  unfold State.sendCredit; split <;> simp
@[simp] theorem State.passCredits_lockState (s : State) (ring : Nat) (recs : List Rec) :
    (s.passCredits ring recs).lock.state = s.lock.state := by simp [State.passCredits]
@[simp] theorem State.returnCredits_lockState (s : State) (r n : Nat) :
    (s.returnCredits r n).lock.state = s.lock.state := by simp [State.returnCredits]
@[simp] theorem State.calStart_lockState (s : State) (kind : CalKind) : (s.calStart kind).lock.state = s.lock.state := by
  unfold State.calStart; dsimp only; (repeat' split) <;> simp
@[simp] theorem State.calRequest_lockState (s : State) (v : Nat) : (s.calRequest v).lock.state = s.lock.state := by
  unfold State.calRequest; split <;> simp
@[simp] theorem State.swapRequest_lockState (s : State) (p cyc : Nat) : (s.swapRequest p cyc).lock.state = s.lock.state := by rfl
@[simp] theorem State.totClear_lockState (s : State) (p : Nat) : (s.totClear p).lock.state = s.lock.state := by rfl
@[simp] theorem State.genWrite_lockState (s : State) (g sub v cyc : Nat) : (s.genWrite g sub v cyc).lock.state = s.lock.state := by
  unfold State.genWrite; (repeat' split) <;> simp
@[simp] theorem State.genArmWrite_lockState (s : State) (g v : Nat) : (s.genArmWrite g v).lock.state = s.lock.state := by
  unfold State.genArmWrite; split <;> simp
@[simp] theorem State.setLive_lockState (s : State) (idx sub v : Nat) : (s.setLive idx sub v).lock.state = s.lock.state := by rfl
@[simp] theorem State.liveLow_lockState (s : State) (via : Via) (idx sub v : Nat) :
    (s.liveLow via idx sub v).lock.state = s.lock.state := by
  unfold State.liveLow; (repeat' split) <;> simp
@[simp] theorem State.read_lockState (s : State) (via : Via) (idx sub count : Nat) (records abort : Bool) :
    (s.read via idx sub count records abort).2.2.lock.state = s.lock.state := by
  unfold State.read; dsimp only; (repeat' split) <;> simp
@[simp] theorem State.portRead_lockState (s : State) (via : Via) (idx sub count : Nat) (records : Bool) :
    (s.portRead via idx sub count records).lock.state = s.lock.state := by
  unfold State.portRead; split <;> simp
@[simp] theorem State.canRx_lockState (s : State) : s.canRx.lock.state = s.lock.state := by rfl
@[simp] theorem State.setNmt_lockState (s : State) (n : Nmt) : (s.setNmt n).lock.state = s.lock.state := by rfl
@[simp] theorem State.canBoot_lockState (s : State) : s.canBoot.lock.state = s.lock.state := by simp [State.canBoot]
@[simp] theorem State.commStored_lockState (s : State) : s.commStored.lock.state = s.lock.state := by rfl
@[simp] theorem State.resetComm_lockState (s : State) : s.resetComm.lock.state = s.lock.state := by simp [State.resetComm]
@[simp] theorem State.relayNmt_lockState (s : State) (node : Nat) (command : Byte) :
    (s.relayNmt node command).lock.state = s.lock.state := by
  unfold State.relayNmt; (repeat' split) <;> simp
@[simp] theorem State.heartbeat_lockState (s : State) : s.heartbeat.lock.state = s.lock.state := by
  unfold State.heartbeat; split <;> simp
@[simp] theorem State.sendUsdo_lockState (s : State) (e : Emit) : (s.sendUsdo e).lock.state = s.lock.state := by
  unfold State.sendUsdo; split <;> simp
@[simp] theorem State.closeUsdo_lockState (s : State) (node : Nat) : (s.closeUsdo node).lock.state = s.lock.state := by rfl
@[simp] theorem State.openUsdo_lockState (s : State) (node : Nat) : (s.openUsdo node).lock.state = s.lock.state := by rfl
@[simp] theorem State.abortUsdo_lockState (s : State) (node : Nat) (code : Nat) :
    (s.abortUsdo node code).lock.state = s.lock.state := by simp [State.abortUsdo]
@[simp] theorem State.answerUsdo_lockState (s : State) (node : Nat) (data : List Byte) :
    (s.answerUsdo node data).lock.state = s.lock.state := by
  unfold State.answerUsdo; split <;> simp
@[simp] theorem State.newUsdo_lockState (s : State) (node : Nat) : (s.newUsdo node).lock.state = s.lock.state := by
  unfold State.newUsdo; split <;> simp
@[simp] theorem State.usdoRelay_lockState (s : State) (node a : Nat) (write : Bool) (idx sub : Nat) (data : List Byte) :
    (s.usdoRelay node a write idx sub data).lock.state = s.lock.state := by
  unfold State.usdoRelay; split <;> simp
@[simp] theorem State.usdoAborted_lockState (s : State) (node : Nat) : (s.usdoAborted node).lock.state = s.lock.state := by
  unfold State.usdoAborted; split <;> simp
@[simp] theorem State.usdoTimeout_lockState (s : State) (node : Nat) : (s.usdoTimeout node).lock.state = s.lock.state := by
  unfold State.usdoTimeout; split <;> simp
@[simp] theorem State.tpdoQueue_lockState (s : State) (k ring j : Nat) (data : List Byte) :
    (s.tpdoQueue k ring j data).lock.state = s.lock.state := by rfl
@[simp] theorem State.tpdoForm_lockState (s : State) (k : Nat) : (s.tpdoForm k).lock.state = s.lock.state := by
  unfold State.tpdoForm; dsimp only; (repeat' split) <;> simp
@[simp] theorem State.tpdoEvent_lockState (s : State) (k : Nat) : (s.tpdoEvent k).lock.state = s.lock.state := by
  unfold State.tpdoEvent; (repeat' split) <;> simp
@[simp] theorem State.ringEvents_lockState (s old : State) : (s.ringEvents old).lock.state = s.lock.state :=
  foldl_keeps_lock_state _ _ _ fun s k => by (repeat' split) <;> simp
@[simp] theorem State.tpdoSync_lockState (s : State) (k : Nat) : (s.tpdoSync k).lock.state = s.lock.state := by
  unfold State.tpdoSync; dsimp only; (repeat' split) <;> simp
@[simp] theorem State.tpdoTimer_lockState (s : State) (k : Nat) : (s.tpdoTimer k).lock.state = s.lock.state := by
  unfold State.tpdoTimer; dsimp only; (repeat' split) <;> simp
@[simp] theorem State.inhibitEnd_lockState (s : State) (k : Nat) : (s.inhibitEnd k).lock.state = s.lock.state := by
  unfold State.inhibitEnd; dsimp only; (repeat' split) <;> simp
@[simp] theorem State.tpdoCredit_lockState (s : State) (ring j : Nat) : (s.tpdoCredit ring j).lock.state = s.lock.state := by
  unfold State.tpdoCredit; split <;> simp
@[simp] theorem State.tpdoSent_lockState (s : State) (k : Nat) : (s.tpdoSent k).lock.state = s.lock.state := by
  unfold State.tpdoSent; dsimp only; (repeat' split) <;> simp
@[simp] theorem State.rpdoShort_lockState (s : State) (k : Nat) : (s.rpdoShort k).lock.state = s.lock.state := by simp [State.rpdoShort]
@[simp] theorem State.busOffRecovery_lockState (s : State) : s.busOffRecovery.lock.state = s.lock.state := by
  unfold State.busOffRecovery; split <;> simp
@[simp] theorem State.errorConfinement_lockState (s : State) (tec rec : Byte) (busOff : Bool) :
    (s.errorConfinement tec rec busOff).lock.state = s.lock.state := by
  unfold State.errorConfinement; dsimp only; (repeat' split) <;> simp
@[simp] theorem State.crxd_lockState (s : State) : s.crxd.lock.state = s.lock.state := by
  unfold State.crxd; split <;> simp
@[simp] theorem State.updGalt_lockState (s : State) (f : GaltSt → GaltSt) : (s.updGalt f).lock.state = s.lock.state := by rfl
@[simp] theorem State.forward_lockState (s : State) (typ : Nat) (hd : FrameHead) (payload : List Byte) :
    (s.forward typ hd payload).lock.state = s.lock.state := by
  unfold State.forward; split <;> simp
@[simp] theorem State.pass_lockState (s : State) (typ : Nat) (hd : FrameHead) (payload : List Byte) :
    (s.pass typ hd payload).lock.state = s.lock.state := by
  unfold State.pass; split <;> simp
theorem State.galtFrame_lockState {s : State} {f : State → State} (h : (f s).lock.state = s.lock.state) (hd : FrameHead) (typ : Nat)
    (p : List Byte) : (s.galtFrame hd typ p f).lock.state = s.lock.state := by
  unfold State.galtFrame; (repeat' split) <;> simp [h]
@[simp] theorem State.enumerate_lockState (s : State) : s.enumerate.lock.state = s.lock.state := by simp [State.enumerate]
@[simp] theorem State.galtRole_lockState (s : State) (was : Nat) : (s.galtRole was).lock.state = s.lock.state := by
  unfold State.galtRole; dsimp only; (repeat' split) <;> simp
@[simp] theorem State.tryClose_lockState (s : State) : s.tryClose.lock.state = s.lock.state := by
  unfold State.tryClose; (repeat' split) <;> simp
@[simp] theorem State.freshOrigin_lockState (s : State) (serial : BitVec 32) : (s.freshOrigin serial).lock.state = s.lock.state := by rfl
@[simp] theorem State.enumDone_lockState (s : State) (count : BitVec 8) (l : List EnumEntry) :
    (s.enumDone count l).lock.state = s.lock.state := by
  unfold State.enumDone; split <;> simp
@[simp] theorem State.enumMember_lockState (s : State) (hd : FrameHead) (count : BitVec 8) (l : List EnumEntry) :
    (s.enumMember hd count l).lock.state = s.lock.state := by
  unfold State.enumMember; (repeat' split) <;> simp
@[simp] theorem State.enumFrame_lockState (s : State) (hd : FrameHead) (count : BitVec 8) (l : List EnumEntry) :
    (s.enumFrame hd count l).lock.state = s.lock.state :=
  State.galtFrame_lockState (by (repeat' split) <;> simp) _ _ _
@[simp] theorem State.enumRetry_lockState (s : State) : s.enumRetry.lock.state = s.lock.state := by
  unfold State.enumRetry; split <;> simp
@[simp] theorem State.tableFrame_lockState (s : State) (hd : FrameHead) (l : List EnumEntry) :
    (s.tableFrame hd l).lock.state = s.lock.state :=
  State.galtFrame_lockState (by dsimp only; (repeat' split) <;> simp) _ _ _
@[simp] theorem State.soundSegment_lockState (s : State) (trips : List Nat) : (s.soundSegment trips).lock.state = s.lock.state := by
  unfold State.soundSegment; split <;> simp
@[simp] theorem State.sendTime_lockState (s : State) : s.sendTime.lock.state = s.lock.state := by simp [State.sendTime]
@[simp] theorem State.soundingStart_lockState (s : State) (trips : List Nat) : (s.soundingStart trips).lock.state = s.lock.state := by
  unfold State.soundingStart; (repeat' split) <;> simp
@[simp] theorem State.sound_lockState (s : State) (trips : List Nat) : (s.sound trips).lock.state = s.lock.state := by
  unfold State.sound; split <;> simp
@[simp] theorem State.delayFrame_lockState (s : State) (hd : FrameHead) (cablePs : BitVec 32) :
    (s.delayFrame hd cablePs).lock.state = s.lock.state :=
  State.galtFrame_lockState (by dsimp only; (repeat' split) <;> simp) _ _ _
@[simp] theorem State.tickSymbol_lockState (s : State) (offset : BitVec 32) (residence : Nat) :
    (s.tickSymbol offset residence).lock.state = s.lock.state := by
  unfold State.tickSymbol; (repeat' split) <;> simp
@[simp] theorem State.timeSend_lockState (s : State) : s.timeSend.lock.state = s.lock.state := by
  unfold State.timeSend; split <;> simp
@[simp] theorem State.takeAdvances_lockState (s : State) (l : List (BitVec 32)) :
    (s.takeAdvances l).lock.state = s.lock.state := by simp [State.takeAdvances]
@[simp] theorem State.adoptCounter_lockState (s : State) (tick : TickNo) (inst : Int) (epoch : BitVec 16) :
    (s.adoptCounter tick inst epoch).lock.state = s.lock.state := by
  unfold State.adoptCounter; dsimp only; (repeat' split) <;> simp
@[simp] theorem State.timeFrame_lockState (s : State) (hd : FrameHead) (tick : TickNo) (inst : Int) (epoch : BitVec 16) (l : List
    (BitVec 32)) :
    (s.timeFrame hd tick inst epoch l).lock.state = s.lock.state :=
  State.galtFrame_lockState (by dsimp only; (repeat' split) <;> simp) _ _ _
@[simp] theorem State.endSession_lockState (s : State) (id : Byte) : (s.endSession id).lock.state = s.lock.state := by rfl
@[simp] theorem State.response_lockState (s : State) (session : Byte) (status : BitVec 16) (abort : BitVec 32) (data : List Byte) :
    (s.response session status abort data).lock.state = s.lock.state := by
  unfold State.response; (repeat' split) <;> simp
@[simp] theorem State.accessTimeout_lockState (s : State) (session : Byte) : (s.accessTimeout session).lock.state = s.lock.state := by
  unfold State.accessTimeout; split <;> simp
@[simp] theorem State.setStream_lockState (s : State) (r : Nat) (x : StreamRt) : (s.setStream r x).lock.state = s.lock.state := by rfl
@[simp] theorem State.streamNext_lockState (s : State) (r : Nat) : (s.streamNext r).lock.state = s.lock.state := by
  unfold State.streamNext; dsimp only; (repeat' split) <;> simp
@[simp] theorem State.streamSend_lockState (s : State) (r : Nat) : (s.streamSend r).lock.state = s.lock.state := by
  unfold State.streamSend; split <;> simp
@[simp] theorem State.streamResend_lockState (s : State) (r : Nat) : (s.streamResend r).lock.state = s.lock.state := by
  unfold State.streamResend; split <;> simp
@[simp] theorem State.setOrigin_lockState (s : State) (o : OriginRt) : (s.setOrigin o).lock.state = s.lock.state := by rfl
@[simp] theorem State.ack_lockState (s : State) (org : BitVec 8) (r : Nat) (q : BitVec 16) :
    (s.ack org r q).lock.state = s.lock.state := by simp [State.ack]
@[simp] theorem State.judge_lockState (s : State) (org : BitVec 8) (serial : BitVec 32) (r : Nat) (q : BitVec 16) (b : BitVec 128) :
    (s.judge org serial r q b).lock.state = s.lock.state := by
  unfold State.judge; dsimp only; (repeat' split) <;> simp
@[simp] theorem State.judgeAll_lockState (s : State) (o : BitVec 8) (e : BitVec 32) (r : Nat) (q : BitVec 16) (l : List (BitVec 128)) :
    (s.judgeAll o e r q l).lock.state = s.lock.state := by
  induction l generalizing s q with
  | nil => rfl
  | cons b l ih => exact (ih _ _).trans (by simp)
@[simp] theorem State.streamFrame_lockState (s : State) (hd : FrameHead) (r : Nat) (q : BitVec 16) (recs : List (BitVec 128)) :
    (s.streamFrame hd r q recs).lock.state = s.lock.state :=
  State.galtFrame_lockState (by dsimp only; (repeat' split) <;> simp) _ _ _
@[simp] theorem State.acked_lockState (s : State) (r : Nat) (q : BitVec 16) : (s.acked r q).lock.state = s.lock.state := by
  unfold State.acked; dsimp only; (repeat' split) <;> simp
@[simp] theorem State.ackFrame_lockState (s : State) (hd : FrameHead) (r : Nat) (q : BitVec 16) :
    (s.ackFrame hd r q).lock.state = s.lock.state :=
  State.galtFrame_lockState (by dsimp only; (repeat' split) <;> simp) _ _ _
@[simp] theorem State.credited_lockState (s : State) (r : Nat) (count : BitVec 16) : (s.credited r count).lock.state = s.lock.state := by
  unfold State.credited; dsimp only; (repeat' split) <;> simp
@[simp] theorem State.creditFrame_lockState (s : State) (hd : FrameHead) (r : Nat) (count : BitVec 16) :
    (s.creditFrame hd r count).lock.state = s.lock.state :=
  State.galtFrame_lockState (by dsimp only; (repeat' split) <;> simp) _ _ _
@[simp] theorem State.breakDetected_lockState (s : State) : s.breakDetected.lock.state = s.lock.state := by
  unfold State.breakDetected; split <;> simp
@[simp] theorem State.breakFrame_lockState (s : State) (hd : FrameHead) (addr : Byte) :
    (s.breakFrame hd addr).lock.state = s.lock.state :=
  State.galtFrame_lockState (by (repeat' split) <;> simp) _ _ _
@[simp] theorem State.characterLock_lockState (s : State) : s.characterLock.lock.state = s.lock.state := by
  unfold State.characterLock; (repeat' split) <;> simp
@[simp] theorem State.restoredFrame_lockState (s : State) (hd : FrameHead) (addr : Byte) :
    (s.restoredFrame hd addr).lock.state = s.lock.state :=
  State.galtFrame_lockState (by dsimp only; (repeat' split) <;> simp) _ _ _
@[simp] theorem State.galtBoundary_lockState (s : State) : s.galtBoundary.lock.state = s.lock.state := by
  unfold State.galtBoundary; (repeat' split) <;> simp
@[simp] theorem State.closeTick_lockState (s : State) : s.closeTick.lock.state = s.lock.state :=
  (foldl_keeps_lock_state _ _ _ fun s n => by simp).trans (foldl_keeps_lock_state _ _ _ fun s n => by simp)
@[simp] theorem State.moveResets_lockState (s : State) : s.moveResets.lock.state = s.lock.state := by
  unfold State.moveResets; split <;> simp
@[simp] theorem State.reconnect_lockState (s : State) (l : Nat) (c : LaneRt → LaneRt) : (s.reconnect l c).lock.state = s.lock.state := by
  unfold State.reconnect; dsimp only; (repeat' split) <;> simp
@[simp] theorem State.dropHalves_lockState (s : State) (n : Nat) : (s.dropHalves n).lock.state = s.lock.state := by rfl
@[simp] theorem State.laneActivation_lockState (old new : Tbl Nat) (ch : List Nat) (s : State) (l : Nat) :
    (State.laneActivation old new ch s l).lock.state = s.lock.state := by
  unfold State.laneActivation; dsimp only; (repeat' split) <;> simp
@[simp] theorem State.leadChange_lockState (ch : List Nat) (s : State) (e : Nat) : (State.leadChange ch s e).lock.state = s.lock.state := by
  unfold State.leadChange; split <;> simp
@[simp] theorem State.activateLanes_lockState (old : Tbl Nat) (ch : List Nat) (s : State) :
    (State.activateLanes old ch s).lock.state = s.lock.state := by simp [State.activateLanes]
@[simp] theorem State.ringCut_lockState (s : State) (r : Nat) : (s.ringCut r).lock.state = s.lock.state := by
  unfold State.ringCut; dsimp only; (repeat' split) <;> simp
@[simp] theorem State.ringActivation_lockState (ch : List Nat) (s : State) (r : Nat) :
    (State.ringActivation ch s r).lock.state = s.lock.state := by
  unfold State.ringActivation; (repeat' split) <;> simp
@[simp] theorem State.ioActivation_lockState (old : Tbl Nat) (ch : List Nat) (s : State) :
    (State.ioActivation old ch s).lock.state = s.lock.state := by simp [State.ioActivation]
@[simp] theorem State.resolveAffected_lockState (s : State) (old new : Tbl Nat) (ch : List Nat) :
    (s.resolveAffected old new ch).lock.state = s.lock.state := by simp [State.resolveAffected]
@[simp] theorem State.overlapActivation_lockState (old : Tbl Nat) (ch : List Nat) (s : State) :
    (State.overlapActivation old ch s).lock.state = s.lock.state := by
  unfold State.overlapActivation; (repeat' split) <;> simp
@[simp] theorem State.oneShotActivation_lockState (old : Tbl Nat) (s : State) :
    (State.oneShotActivation old s).lock.state = s.lock.state := by
  unfold State.oneShotActivation; split <;> simp
@[simp] theorem State.activate_lockState (s : State) (new : Tbl Nat) : (s.activate new).lock.state = s.lock.state := by
  unfold State.activate; dsimp only; (repeat' split) <;> simp
@[simp] theorem State.closePins_lockState (s : State) : s.closePins.lock.state = s.lock.state :=
  (foldl_keeps_lock_state _ _ _ fun s l => by (repeat' split) <;> simp).trans rfl
@[simp] theorem State.absence_lockState (s : State) (n : Nat) : (s.absence n).lock.state = s.lock.state := by
  unfold State.absence; dsimp only; (repeat' split) <;> simp
@[simp] theorem State.tickTriggers_lockState (s : State) : s.tickTriggers.lock.state = s.lock.state := by
  unfold State.tickTriggers; split <;> simp
@[simp] theorem State.syncTriggers_lockState (s : State) : s.syncTriggers.lock.state = s.lock.state := by simp [State.syncTriggers]
@[simp] theorem State.bankSwaps_lockState (s : State) : s.bankSwaps.lock.state = s.lock.state := by rfl
@[simp] theorem State.totClears_lockState (s : State) : s.totClears.lock.state = s.lock.state := by simp [State.totClears]
@[simp] theorem State.beforeDeliveries_lockState (s : State) : s.beforeDeliveries.lock.state = s.lock.state := by
  simp [State.beforeDeliveries]
@[simp] theorem State.takeDeliveries_lockState (s : State) : s.takeDeliveries.lock.state = s.lock.state := by simp [State.takeDeliveries]
@[simp] theorem State.prologue_lockState (s : State) (a : Tbl Nat) (served : List Nat) (ch : Option (List Nat)) :
    (s.prologue a served ch).lock.state = s.lock.state := by
  unfold State.prologue; split <;> simp
@[simp] theorem State.boundaryTail_lockState (s : State) (coef : Option (Nat × Bool × Nat)) :
    (s.boundaryTail coef).lock.state = s.lock.state := by
  unfold State.boundaryTail; dsimp only; split <;> simp
@[simp] theorem State.openTick_lockState (s : State) (new : Tbl Nat) (act resume : Bool) :
    (s.openTick new act resume).lock.state = s.lock.state := by simp [State.openTick]
@[simp] theorem State.boundaryMarkers_lockState (s : State) (t : TickSt) (step : Int) :
    (s.boundaryMarkers t step).lock.state = s.lock.state := by
  unfold State.boundaryMarkers; dsimp only; (repeat' split) <;> simp
theorem State.ended_lockState (s : State) : s.ended.lock.state = s.lock.state := by simp [State.ended]
theorem State.connected_lockState (s : State) (resume : Bool) : (s.connected resume).lock.state = s.lock.state := by
  unfold State.connected State.activated State.delivered State.opened; (repeat' split) <;> simp
@[simp] theorem State.boundary_lockState (s : State) (resume : Bool) : (s.boundary resume).lock.state = s.lock.state := by
  rw [State.boundary_eq]
  simp only [State.ringEvents_lockState, State.boundaryTail_lockState, State.prologue_lockState, State.boundaryMarkers_lockState,
    State.connected_lockState, State.ended_lockState]
@[simp] theorem State.tickBoundary_lockState (s : State) : s.tickBoundary.lock.state = s.lock.state := by
  unfold State.tickBoundary; split <;> simp
@[simp] theorem State.layRings_lockState (s : State) : s.layRings.lock.state = s.lock.state := by simp [State.layRings]
@[simp] theorem State.firstTick_lockState (s : State) : s.firstTick.lock.state = s.lock.state := by rfl
@[simp] theorem State.tickZero_lockState (s : State) : s.tickZero.lock.state = s.lock.state := by
  unfold State.tickZero; dsimp only; (repeat' split) <;> simp
@[simp] theorem State.wakeReturn_lockState (s : State) : s.wakeReturn.lock.state = s.lock.state := by
  unfold State.wakeReturn; dsimp only; (repeat' split) <;> simp
@[simp] theorem State.bodyOpen_lockState (s : State) : s.bodyOpen.lock.state = s.lock.state := by
  unfold State.bodyOpen; split <;> simp
@[simp] theorem State.halfTick_lockState (s : State) : s.halfTick.lock.state = s.lock.state := by
  unfold State.halfTick; split <;> simp
@[simp] theorem State.guardWindow_lockState (s : State) : s.guardWindow.lock.state = s.lock.state := by
  unfold State.guardWindow; split <;> simp
@[simp] theorem State.recordStore_lockState (s : State) : s.recordStore.lock.state = s.lock.state := by simp [State.recordStore]
@[simp] theorem State.trigEdge_lockState (s : State) (rising : Bool) (cyc : Nat) : (s.trigEdge rising cyc).lock.state = s.lock.state := by
  unfold State.trigEdge; split <;> simp
@[simp] theorem State.clockFaultAll_lockState (s : State) (cause : ClockCause) (cyc : Nat) :
    (s.clockFaultAll cause cyc).lock.state = s.lock.state := by simp [State.clockFaultAll]
@[simp] theorem State.svcReply_lockState (s : State) (resp : Option (List Byte)) :
    (s.svcReply resp).lock.state = s.lock.state := by simp [State.svcReply]

end Sys2Proof.Machine
end

section
/-! PROOFS. The seal holds on: no step makes a blown fuse intact, or a device with one OPEN (R413, R438). -/
namespace Sys2Proof.Machine
open Sys2Proof

/-! What leaves the fuse alone besides -/

@[simp] theorem State.devDone_fuse (s : State) (r : JRec) (weak : Bool) : (s.devDone r weak).lock.fuse = s.lock.fuse := by
  unfold State.devDone; dsimp only; (repeat' split) <;> simp

@[simp] theorem State.recordProgram_fuse (s : State) (weak : Bool) : (s.recordProgram weak).lock.fuse = s.lock.fuse := by
  unfold State.recordProgram; dsimp only; (repeat' split) <;> simp

@[simp] theorem State.attempt_fuse (s : State) (response : Bool) (x : BitVec 128) : (s.attempt response x).lock.fuse = s.lock.fuse := by
  simp [State.attempt]

@[simp] theorem State.usdoRelay_fuse (s : State) (node a : Nat) (write : Bool) (idx sub : Nat) (data : List Byte) :
    (s.usdoRelay node a write idx sub data).lock.fuse = s.lock.fuse := by
  unfold State.usdoRelay; dsimp only; split <;> simp

@[simp] theorem State.response_fuse (s : State) (session : Byte) (status : BitVec 16) (abort : BitVec 32) (data : List Byte) :
    (s.response session status abort data).lock.fuse = s.lock.fuse := by
  unfold State.response; (repeat' split) <;> simp

/-- From `s` to `t` the seal holds on: a blown fuse stays blown, and a device that is not OPEN with it does not become OPEN (R413, R438). -/
structure State.keepsSeal (s t : State) : Prop where
  fuse : s.lock.fuse = true → t.lock.fuse = true
  holds : s.sealHolds → t.sealHolds

/-- Nothing changed keeps the seal. -/
theorem State.keepsSeal_refl (s : State) : s.keepsSeal s := ⟨id, id⟩

/-- What keeps the seal adds up. -/
theorem State.keepsSeal.trans {s t u : State} (h : s.keepsSeal t) (k : t.keepsSeal u) : s.keepsSeal u :=
  ⟨k.fuse ∘ h.fuse, k.holds ∘ h.holds⟩

/-- What leaves start-up stage, fuse and lock state alone keeps the seal. -/
theorem State.keepsSeal.of_same {s t : State} (hboot : t.boot = s.boot := by simp) (hfuse : t.lock.fuse = s.lock.fuse := by simp)
    (hstate : t.lock.state = s.lock.state := by simp) : s.keepsSeal t where
  fuse := by rw [hfuse]; exact id
  holds := by unfold State.sealHolds; rw [hboot, hfuse, hstate]; exact id

/-- Either branch keeps the seal. -/
theorem State.keepsSeal.ite {s t u : State} {c : Prop} [Decidable c] (ht : s.keepsSeal t) (hu : s.keepsSeal u) :
    s.keepsSeal (if c then t else u) := by
  split
  · exact ht
  · exact hu

/-- Time that goes on keeps the seal. -/
theorem State.at_keepsSeal (s : State) (c : Nat) : s.keepsSeal (s.at c) := .of_same

/-- A walk over a list whose every step keeps the seal. -/
theorem foldl_keepsSeal {α : Type} {f : State → α → State} (h : ∀ (s : State) a, s.keepsSeal (f s a)) (l : List α) (s : State) :
    s.keepsSeal (l.foldl f s) := by
  induction l generalizing s with
  | nil => exact s.keepsSeal_refl
  | cons a l ih => exact (h s a).trans (ih (f s a))

/-- A device that is not OPEN afterwards keeps the seal where its fuse does. -/
theorem State.keepsSeal_of_not_open {s t : State} (hfuse : s.lock.fuse = true → t.lock.fuse = true)
    (hstate : t.lock.state ≠ .unsealed) : s.keepsSeal t := ⟨hfuse, fun _ _ _ => hstate⟩

/-- A device in a stage before the journal scan has its seal to come (R413). -/
theorem State.keepsSeal_of_starting {s t : State} (hfuse : s.lock.fuse = true → t.lock.fuse = true)
    (hchecked : t.boot ≠ .checked) (hrunning : t.boot ≠ .running) : s.keepsSeal t :=
  ⟨hfuse, fun _ _ hboot => absurd hboot (by simp [hchecked, hrunning])⟩

/-- The lock state that a change names, with the fuse as it was. -/
theorem State.lockChange_lock (s : State) (f : FieldLock) (count unlock : Nat) :
    (s.lockChange f count unlock).lock.state = f ∧ (s.lockChange f count unlock).lock.fuse = s.lock.fuse := by
  simp [State.lockChange]

/-- SEAL leaves the device SEALED (R438). -/
theorem State.sealDevice_keepsSeal (s : State) : s.keepsSeal s.sealDevice :=
  State.keepsSeal_of_not_open (fun _ => (State.lockChange_lock ..).2) (by simp [State.sealDevice, State.lockChange_lock])

/-- A change to any state but OPEN keeps the seal. -/
theorem State.lockChange_keepsSeal (s : State) {f : FieldLock} (hf : f ≠ .unsealed) (count unlock : Nat) :
    s.keepsSeal (s.lockChange f count unlock) :=
  State.keepsSeal_of_not_open (fun h => by rw [(State.lockChange_lock ..).2, h]) (by rw [(State.lockChange_lock ..).1]; exact hf)

/-- A verdict unlocks or refuses (R441). -/
theorem State.unlockVerdict_keepsSeal (s : State) : s.keepsSeal s.unlockVerdict := by
  unfold State.unlockVerdict
  split
  · exact s.keepsSeal_refl
  · split
    · exact s.keepsSeal_refl
    · dsimp only
      split
      · exact .of_same
      · refine State.keepsSeal.trans (t := { s with lock := { s.lock with attempt := none, verifyFailed := false } })
          (.of_same rfl rfl rfl) ?_
        unfold State.judgeAttempt
        split
        · exact State.lockChange_keepsSeal _ (by split <;> simp) _ _
        · exact .of_same

/-- An unlock that expires ends SEALED (R443). -/
theorem State.unlockExpiry_keepsSeal (s : State) : s.keepsSeal s.unlockExpiry := by
  unfold State.unlockExpiry
  split
  · exact (s.at_keepsSeal _).trans (State.lockChange_keepsSeal _ (by simp) _ _)
  · exact s.keepsSeal_refl

/-! Writes: SEAL and RELOCK, or none that reaches the lock state -/

/-- Of the live entries from 2600h only 2C10h.02 names a lock state, and never OPEN (R438). -/
theorem State.liveHigh_keepsSeal (s : State) (via : Via) (idx sub v : Nat) : s.keepsSeal (s.liveHigh via idx sub v) := by
  unfold State.liveHigh
  refine .ite .of_same (.ite .of_same (.ite .of_same (.ite .of_same (.ite .of_same (.ite .of_same (.ite .of_same (.ite .of_same
    (.ite .of_same (.ite .of_same (.ite .of_same (.ite ?lockCommand (.ite .of_same (.ite .of_same (.ite .of_same (.ite .of_same
      (.ite .of_same .of_same))))))))))))))))
  exact .ite s.sealDevice_keepsSeal (s.lockChange_keepsSeal (by simp) _ _)

/-- What an accepted write does. -/
theorem State.writeEffect_keepsSeal (s : State) (via : Via) (idx sub : Nat) (e : Entry) (v : Nat) :
    s.keepsSeal (s.writeEffect via idx sub e v) := by
  unfold State.writeEffect
  split
  · exact .of_same rfl rfl rfl
  · split
    · exact .of_same
    · exact s.liveHigh_keepsSeal via idx sub v

/-- An access that completes. -/
theorem State.complete_keepsSeal (s : State) (via : Via) : s.keepsSeal (s.complete via) :=
  .of_same

/-- A write, refused or accepted. -/
theorem State.write_keepsSeal (s : State) (via : Via) (idx sub : Nat) (data : List Byte) (abort : Bool) :
    s.keepsSeal (s.write via idx sub data abort).2 := by
  unfold State.write
  dsimp only
  split
  · split <;> exact .of_same
  · split
    · exact (s.writeEffect_keepsSeal ..).trans (State.complete_keepsSeal ..)
    · exact s.keepsSeal_refl

/-- A read. -/
theorem State.read_keepsSeal (s : State) (via : Via) (idx sub count : Nat) (records abort : Bool) :
    s.keepsSeal (s.read via idx sub count records abort).2.2 := .of_same

/-- A write that arrives on a port. -/
theorem State.portWrite_keepsSeal (s : State) (via : Via) (idx sub : Nat) (data : List Byte) :
    s.keepsSeal (s.portWrite via idx sub data) := by
  unfold State.portWrite
  split
  · exact (s.at_keepsSeal _).trans (State.write_keepsSeal ..)
  · exact s.keepsSeal_refl

/-- An RPDO that is written (R433). -/
theorem State.rpdoWrite_keepsSeal (s : State) (k : Nat) (data : List Byte) (cyc : Nat) : s.keepsSeal (s.rpdoWrite k data cyc) := by
  have hparts (via : Via) (parts) : s.keepsSeal (s.writeParts via parts) := foldl_keepsSeal (fun s p => by
    split
    · exact s.writeEffect_keepsSeal ..
    · exact s.keepsSeal_refl) _ _
  unfold State.rpdoWrite
  dsimp only
  split
  · exact .of_same
  · split
    · exact .of_same
    · exact (hparts _ _).trans (State.complete_keepsSeal ..)

/-- An RPDO that arrives (R433). -/
theorem State.rpdoFrame_keepsSeal (s : State) (k : Nat) (data : List Byte) (cyc : Nat) : s.keepsSeal (s.rpdoFrame k data cyc) := by
  unfold State.rpdoFrame
  dsimp only
  split
  · split
    · exact .of_same
    · exact State.keepsSeal.trans .of_same (State.rpdoWrite_keepsSeal ..)
  · exact s.keepsSeal_refl

/-- The RPDOs held for a SYNC (R433). -/
theorem State.writeHeld_keepsSeal (s : State) (cyc : Nat) : s.keepsSeal (s.writeHeld cyc) := by
  refine State.keepsSeal.trans (t := { s with can := { s.can with held := [] } }) (.of_same rfl rfl rfl)
    (foldl_keepsSeal (fun s e => by
      split
      · exact s.rpdoWrite_keepsSeal ..
      · exact s.keepsSeal_refl) _ _)

/-- A SYNC (R433). -/
theorem State.syncFrame_keepsSeal (s : State) (cyc : Nat) : s.keepsSeal (s.syncFrame cyc) := by
  unfold State.syncFrame
  dsimp only
  split
  · split
    · exact State.keepsSeal.trans .of_same (State.writeHeld_keepsSeal ..)
    · exact .of_same
  · exact s.keepsSeal_refl

/-- An access to the USDO server of this node (R430). -/
theorem State.usdoHere_keepsSeal (s : State) (node : Nat) (write : Bool) (idx sub : Nat) (data : List Byte) (cyc : Nat) :
    s.keepsSeal (s.usdoHere node write idx sub data cyc) := by
  unfold State.usdoHere
  dsimp only
  split
  · refine (s.write_keepsSeal { port := .n, cyc := cyc } idx sub data true).trans ?_
    split <;> exact .of_same
  · split <;> exact .of_same

/-- An access to a USDO server, here or by proxy (R466). -/
theorem State.usdoAccess_keepsSeal (s : State) (node : Nat) (write : Bool) (idx sub : Nat) (data : List Byte) (cyc : Nat) :
    s.keepsSeal (s.usdoAccess node write idx sub data cyc) := by
  unfold State.usdoAccess
  split
  · exact .of_same
  · exact s.usdoHere_keepsSeal ..

/-- A session that opens. -/
theorem State.openUsdo_keepsSeal (s : State) (node : Nat) : s.keepsSeal (s.openUsdo node) := .of_same rfl rfl rfl

/-- A request to the USDO server (R430). -/
theorem State.usdoServe_keepsSeal (s : State) (node : Nat) (req : UsdoReq) (cyc : Nat) : s.keepsSeal (s.usdoServe node req cyc) := by
  have hnew : s.keepsSeal (s.newUsdo node) := .of_same
  have hclose : s.keepsSeal (s.closeUsdo node) := .of_same
  have habort (code : Nat) : s.keepsSeal (s.abortUsdo node code) := .of_same
  cases req with
  | read | write => exact hnew.trans (State.usdoAccess_keepsSeal ..)
  | openSegmented => exact hnew.trans (State.openUsdo_keepsSeal ..)
  | segmentedWrite =>
    simp only [State.usdoServe]
    split
    · exact hclose.trans (State.usdoAccess_keepsSeal ..)
    · exact habort _
  | endSegmented => exact hclose
  | badToggle | badCommand => exact habort _

/-- A USDO request that arrives (R430). -/
theorem State.usdoRequest_keepsSeal (s : State) (node : Nat) (req : UsdoReq) (cyc : Nat) : s.keepsSeal (s.usdoRequest node req cyc) := by
  unfold State.usdoRequest
  split
  · exact State.keepsSeal.trans .of_same (State.usdoServe_keepsSeal ..)
  · exact s.keepsSeal_refl

/-- A frame of the ring keeps the seal where what it does with a good one does. -/
theorem State.galtFrame_keepsSeal {s : State} {f : State → State} (h : s.keepsSeal (f s)) (hd : FrameHead) (typ : Nat) (p : List Byte) :
    s.keepsSeal (s.galtFrame hd typ p f) := by
  unfold State.galtFrame
  split
  · split
    · exact h
    · exact .of_same rfl rfl rfl
  · exact s.keepsSeal_refl

/-- A frame sent into the ring. -/
theorem State.galtSend_keepsSeal (s : State) (typ dst : Nat) (p : List Byte) : s.keepsSeal (s.galtSend typ dst p) :=
  .of_same

/-- An access relayed to this node (R456). -/
theorem State.serveAccess_keepsSeal (s : State) (org : BitVec 8) (session op : Byte) (write : Bool) (idx : BitVec 16) (sub : BitVec 8)
    (data : List Byte) (cyc : Nat) : s.keepsSeal (s.serveAccess org session op write idx sub data cyc) := by
  unfold State.serveAccess
  dsimp only
  split
  · refine State.keepsSeal.trans ?_ (State.galtSend_keepsSeal ..)
    split
    · exact (s.at_keepsSeal _).trans (State.write_keepsSeal ..)
    · exact (s.at_keepsSeal _).trans (State.read_keepsSeal ..)
  · exact s.keepsSeal_refl

/-- ACCESS on the ring (R456). -/
theorem State.accessFrame_keepsSeal (s : State) (hd : FrameHead) (session op : Byte) (write : Bool) (idx : BitVec 16) (sub : BitVec 8)
    (data : List Byte) (cyc : Nat) : s.keepsSeal (s.accessFrame hd session op write idx sub data cyc) := by
  refine State.galtFrame_keepsSeal (State.keepsSeal.trans (t := s.pass 5 hd (session :: op :: accessBody write idx sub data))
    .of_same ?_) _ _ _
  dsimp only
  split
  · exact State.serveAccess_keepsSeal ..
  · exact State.keepsSeal_refl _

/-- RESPONSE on the ring (R456). -/
theorem State.responseFrame_keepsSeal (s : State) (hd : FrameHead) (session : Byte) (write : Bool) (idx : BitVec 16) (sub : BitVec 8)
    (status : BitVec 16) (abort : BitVec 32) (data : List Byte) :
    s.keepsSeal (s.responseFrame hd session write idx sub status abort data) := by
  refine State.galtFrame_keepsSeal ?_ _ _ _
  dsimp only
  split
  · exact .of_same
  · exact .of_same

/-- A request of a frame port (R425). -/
theorem State.execReq_keepsSeal (s : State) (via : Via) (last : Option (List Byte)) (r : Req) : s.keepsSeal (s.execReq via last r).2 := by
  unfold State.execReq
  split
  · exact s.keepsSeal_refl
  · unfold State.reqAccess
    dsimp only
    split
    · exact s.write_keepsSeal ..
    · exact s.read_keepsSeal ..

/-- A request of an SPI frame, whose response is held (R425). -/
theorem State.spiExec_keepsSeal (s : State) (cyc : Nat) (r : Req) :
    let x := s.execReq { port := .h, cyc := cyc } s.spi.last r
    s.keepsSeal { x.2 with spi := x.2.spi.await r x.1 } := by
  have hreq := s.execReq_keepsSeal { port := .h, cyc := cyc } s.spi.last r
  generalize s.execReq { port := .h, cyc := cyc } s.spi.last r = x at hreq
  exact hreq.trans (t := x.2) (.of_same rfl rfl rfl)

/-- An SPI frame (R424–R426). -/
theorem State.spiFrame_keepsSeal (s : State) (sdi : List Byte) (cyc : Nat) (ready : Bool) : s.keepsSeal (s.spiFrame sdi cyc ready) := by
  unfold State.spiFrame
  dsimp only
  split
  · refine (s.at_keepsSeal cyc).trans ?_
    generalize s.at cyc = h
    split
    · exact State.keepsSeal.trans .of_same (State.spiExec_keepsSeal { h.sendLogic _ with spi := _ } cyc _)
    · exact .of_same
  · exact s.keepsSeal_refl

/-- A reply on the service port. -/
theorem State.svcReply_keepsSeal (s : State) (resp : Option (List Byte)) : s.keepsSeal (s.svcReply resp) := .of_same

/-- A request of a service frame, which is answered (R427). -/
theorem State.svcExec_keepsSeal (s : State) (cyc : Nat) (r : Req) : s.keepsSeal (s.svcExec cyc r) := by
  have hreq := s.execReq_keepsSeal { port := .s, cyc := cyc } s.svc.last r
  unfold State.svcExec
  dsimp only
  generalize s.execReq { port := .s, cyc := cyc } s.svc.last r = x at hreq
  refine State.keepsSeal.trans ?_ (State.svcReply_keepsSeal _ x.1)
  exact hreq.trans (.of_same rfl rfl rfl)

/-- A service frame (R427). -/
theorem State.serviceFrame_keepsSeal (s : State) (b : List Byte) (cyc : Nat) : s.keepsSeal (s.serviceFrame b cyc) := by
  unfold State.serviceFrame
  dsimp only
  split
  · refine (s.at_keepsSeal cyc).trans ?_
    split
    · refine State.keepsSeal.trans ?_ (State.svcExec_keepsSeal _ cyc _)
      exact .of_same rfl rfl rfl
    · exact .of_same
  · exact s.keepsSeal_refl

/-- REPEAT_LAST_RESPONSE (R450). -/
theorem State.repeatLast_keepsSeal (s : State) (via : Via) (tag : Byte) : s.keepsSeal (s.repeatLast via tag) := by
  unfold State.repeatLast
  dsimp only
  split
  · exact s.keepsSeal_refl
  · split
    · exact (s.at_keepsSeal _).trans (.of_same rfl rfl rfl)
    · refine (s.at_keepsSeal via.cyc).trans (State.keepsSeal.trans ?_ (State.svcExec_keepsSeal _ via.cyc _))
      exact .of_same rfl rfl rfl
    · exact s.keepsSeal_refl

/-! Resets and the start-up -/

/-- A device that is reset starts with the fuse it had (R488). -/
theorem State.deviceReset_keepsSeal (s : State) (n : Nat) : s.keepsSeal (s.deviceReset n) :=
  State.keepsSeal_of_starting id (by simp [State.deviceReset]) (by simp [State.deviceReset])

/-- Reset node (R431). -/
theorem State.nmtReset_keepsSeal (s : State) : s.keepsSeal s.nmtReset := State.keepsSeal_of_starting id nofun nofun

/-- An NMT command keeps the seal where what it does at its node does. -/
theorem State.nmtCommand_keepsSeal {f : State → State} (hf : ∀ s : State, s.keepsSeal (f s)) (s : State) (node command : Byte) :
    s.keepsSeal (s.nmtCommand node command f) := by
  unfold State.nmtCommand
  dsimp only
  split
  · split
    · exact State.keepsSeal.trans .of_same (hf _)
    · exact .of_same
  · exact s.keepsSeal_refl

/-- An NMT command of the master (R466). -/
theorem State.galtNmt_keepsSeal (s : State) (hd : FrameHead) (command : Byte) : s.keepsSeal (s.galtNmt hd command) := by
  refine State.galtFrame_keepsSeal (State.keepsSeal.trans (t := s.pass 0x0c hd [command])
    .of_same ?_) _ _ _
  dsimp only
  split
  · unfold State.nmtByte
    split
    case h_4 => exact State.nmtReset_keepsSeal _
    all_goals exact .of_same
  · exact State.keepsSeal_refl _

/-- A lock state that is restored is not OPEN under a blown fuse (R413). -/
theorem State.restoreLock_sealed (s : State) (dev : Option (List Byte)) (h : (s.restoreLock dev).lock.fuse = true) :
    (s.restoreLock dev).lock.state ≠ .unsealed := by
  unfold State.restoreLock at *
  split at h <;> simp_all

/-- So is the one the journal scan finds. -/
theorem State.scan_sealed (s : State) (us : BitVec 16) (h : (s.scan us).lock.fuse = true) : (s.scan us).lock.state ≠ .unsealed :=
  State.restoreLock_sealed _ _ h

/-- The journal scan leaves no device OPEN whose fuse is blown (R413). -/
theorem State.journalScan_keepsSeal (s : State) (us : BitVec 16) : s.keepsSeal (s.journalScan us) := by
  unfold State.journalScan
  split
  · refine ⟨by simp, fun _ hfuse _ => ?_⟩
    have hscan := s.scan_sealed us (by simpa using hfuse)
    simpa using hscan
  · exact s.keepsSeal_refl

/-- RESET_RELEASE (R490). -/
theorem State.resetRelease_keepsSeal (s : State) : s.keepsSeal s.resetRelease := by
  unfold State.resetRelease
  split
  · exact State.keepsSeal_of_starting id (by simp) (by simp)
  · exact s.keepsSeal_refl

/-- FUSES_LOADED (R490). -/
theorem State.fusesLoaded_keepsSeal (s : State) (glmaster : Bool) : s.keepsSeal (s.fusesLoaded glmaster) := by
  unfold State.fusesLoaded
  split
  · exact State.keepsSeal_of_starting id (by simp) (by simp)
  · exact s.keepsSeal_refl

/-- TICK_ZERO leaves the lock as the start-up found it (R490). -/
theorem State.tickZero_keepsSeal (s : State) : s.keepsSeal s.tickZero := by
  by_cases h : s.boot = .checked
  · refine ⟨fun hfuse => by simp [hfuse], fun hs hfuse hboot => ?_⟩
    rw [State.tickZero_lockState]
    exact hs (by simpa using hfuse) (.inl h)
  · unfold State.tickZero
    rw [if_neg (by simp [h])]
    exact s.keepsSeal_refl

/-- The end of a command (R432). -/
theorem State.settle_keepsSeal (s : State) : s.keepsSeal s.settle := .of_same

/-- The start of a command. -/
theorem State.begin_keepsSeal (s : State) : s.keepsSeal s.begin := .of_same rfl rfl rfl

/-- A command keeps the seal where what it does between its start and its end does. -/
theorem State.run_keepsSeal {s t : State} {f : State → State} (hf : ∀ s : State, s.keepsSeal (f s)) (h : s.run f = .next t) : s.keepsSeal t := by
  obtain ⟨_, rfl⟩ | ⟨_, rfl⟩ := State.run_cases h
  · exact s.begin_keepsSeal
  · exact (s.begin_keepsSeal.trans (hf _)).trans (State.settle_keepsSeal _)

/-- What a command does between its start and its end keeps the seal, whatever the command is. -/
theorem effect_keepsSeal {i : Instr} (hi : ∀ b, i ≠ .powerOnReset b ∧ i ≠ .nrst b) :
    ∃ f : State → State, (∀ s, exec i s = s.run f) ∧ ∀ s : State, s.keepsSeal (f s) := by
  cases hw : writes i with
  | some w =>
    obtain ⟨v, idx, sub, data⟩ := w
    exact ⟨_, exec_of_writes hw, fun s => s.portWrite_keepsSeal v idx sub data⟩
  | none =>
    cases i
    case powerOnReset b => exact absurd rfl (hi b).1
    case nrst b => exact absurd rfl (hi b).2
    case resetRelease => exact ⟨_, fun _ => rfl, State.resetRelease_keepsSeal⟩
    case fusesLoaded g => exact ⟨_, fun _ => rfl, fun s => s.fusesLoaded_keepsSeal g⟩
    case journalScan us => exact ⟨_, fun _ => rfl, fun s => s.journalScan_keepsSeal us⟩
    case tickZero => exact ⟨_, fun _ => rfl, State.tickZero_keepsSeal⟩
    case unlockVerdict => exact ⟨_, fun _ => rfl, State.unlockVerdict_keepsSeal⟩
    case unlockExpiry => exact ⟨_, fun _ => rfl, State.unlockExpiry_keepsSeal⟩
    case spiFrame sdi cyc ready => exact ⟨_, fun _ => rfl, fun s => s.spiFrame_keepsSeal sdi cyc ready⟩
    case serviceFrame b cyc => exact ⟨_, fun _ => rfl, fun s => s.serviceFrame_keepsSeal b cyc⟩
    case repeatLastResponse v tag => exact ⟨_, fun _ => rfl, fun s => s.repeatLast_keepsSeal v tag⟩
    case usdoRequest node req cyc => exact ⟨_, fun _ => rfl, fun s => s.usdoRequest_keepsSeal node.toNat req cyc⟩
    case syncFrame cyc => exact ⟨_, fun _ => rfl, fun s => s.syncFrame_keepsSeal cyc⟩
    case rpdo k data cyc => exact ⟨_, fun _ => rfl, fun s => s.rpdoFrame_keepsSeal k.val data cyc⟩
    case nmtResetNode node => exact ⟨_, fun _ => rfl, fun s => State.nmtCommand_keepsSeal State.nmtReset_keepsSeal s node 0x81⟩
    case nmtStart node => exact ⟨_, fun _ => rfl, fun s => State.nmtCommand_keepsSeal (fun _ => .of_same) s node 1⟩
    case nmtStop node => exact ⟨_, fun _ => rfl, fun s => State.nmtCommand_keepsSeal (fun _ => .of_same) s node 2⟩
    case nmtEnterPreOperational node => exact ⟨_, fun _ => rfl, fun s => State.nmtCommand_keepsSeal (fun _ => .of_same) s node 0x80⟩
    case nmtResetCommunication node => exact ⟨_, fun _ => rfl, fun s => State.nmtCommand_keepsSeal (fun _ => .of_same) s node 0x82⟩
    case responseFrame hd a st abort data => exact ⟨_, fun _ => rfl, fun s => s.responseFrame_keepsSeal hd a.session a.write a.idx a.sub st abort data⟩
    case accessFrame hd session op write idx sub data cyc =>
      exact ⟨_, fun _ => rfl, fun s => s.accessFrame_keepsSeal hd session op write idx sub data cyc⟩
    case galtlinkNmtFrame hd c => exact ⟨_, fun _ => rfl, fun s => s.galtNmt_keepsSeal hd c⟩
    all_goals cases hw
    all_goals exact ⟨_, fun s => by unfold exec; rfl, fun s => .of_same⟩

/-- Every command keeps the seal, a reset too. -/
theorem exec_keepsSeal {i : Instr} {s t : State} (h : exec i s = .next t) : s.keepsSeal t := by
  by_cases hi : ∀ b, i ≠ .powerOnReset b ∧ i ≠ .nrst b
  · obtain ⟨f, hrun, hf⟩ := effect_keepsSeal hi
    exact State.run_keepsSeal hf ((hrun s).symm.trans h)
  · obtain ⟨b, hreset⟩ := exec_of_reset hi
    rw [← Host.Outcome.next.inj ((hreset s).symm.trans h)]
    exact s.begin_keepsSeal.trans (State.deviceReset_keepsSeal _ b)

/-- Every step keeps the seal. -/
theorem step_keepsSeal {s t : State} (h : step s = .next t) : s.keepsSeal t := by
  cases hq : s.pending with
  | nil =>
    rw [← Host.Outcome.next.inj ((emptyQueueIdles s hq).symm.trans h)]
    exact s.keepsSeal_refl
  | cons c rest =>
    have hpopped : s.keepsSeal { s with pending := rest } := .of_same rfl rfl rfl
    rw [stepRunsFrontCommand s c rest hq] at h
    exact hpopped.trans (exec_keepsSeal h)

/-- Settles O4: a step keeps the seal. -/
theorem sealFuseStaysBlown : Obligations.SealFuseStaysBlown := fun _ _ hfuse h => (step_keepsSeal h).fuse hfuse

/-- Settles O5: a step keeps the seal. -/
theorem sealedNeverOpenAgain : Obligations.SealedNeverOpenAgain := fun _ _ hholds h => (step_keepsSeal h).holds hholds

/-- Settles O6: at reset the fuse is intact. -/
theorem resetMeetsSealHolds : Obligations.ResetMeetsSealHolds := nofun

end Sys2Proof.Machine
end

section
/-! PROOFS. The error register 1001h, the end of a command, and EMCY. -/
namespace Sys2Proof.Machine
open Sys2Proof

/-- A device that has been reset calls for 00h in 1001h (R432, R488). -/
theorem State.deviceReset_errReg (s : State) (n : Nat) : (s.deviceReset n).errReg = 0 := rfl

/-- R432: what ends goes through `settle`, and a reset leaves 00h. -/
theorem errorRegisterFollows : Claim.ErrorRegisterFollows := by
  intro i s t hcore h
  obtain ⟨b, hreset⟩ | ⟨f, hrun⟩ := exec_eq_run i
  · rw [← Host.Outcome.next.inj ((hreset s).symm.trans h), State.deviceReset_errReg]
    rfl
  · rw [← Host.Outcome.next.inj ((State.run_next s f hcore).symm.trans ((hrun s).symm.trans h))]
    exact State.settle_err _

/-- An EMCY where none is sent (R432, log entry 56). -/
theorem State.emcy_of_off {s : State} (hoff : s.emcyOn = false) (code detail : Nat) : s.emcy code detail = s :=
  if_neg (by simp [hoff])

/-- A CAN frame goes out, counted, where the port can send (R428). -/
theorem State.sendCan_eq (s : State) (cob : Nat) (data : List Byte) : s.sendCan cob data = { s with
    can := { s.can with txFrames := if s.canOn then satInc s.can.txFrames else s.can.txFrames }
    out := s.out ++ if s.canOn then [.can cob data s.canBrs] else [] } := by
  unfold State.sendCan
  cases s.canOn
  · simp
  · rfl

/-- An EMCY that is sent is entered first (R432). -/
theorem State.emcy_of_on {s : State} (hon : s.emcyOn = true) (code detail : Nat) :
    s.emcy code detail = { s with
      can := { s.can with
        errs := (BitVec.ofNat 32 (code % 65536 + 65536 * (detail % 65536)) :: s.can.errs).take 8
        txFrames := if s.canOn then satInc s.can.txFrames else s.can.txFrames }
      out := s.out ++ if s.canOn then [.can (s.liveVal 0x1014 0 % 2048)
        (leBytes 2 code ++ [s.errReg, 0] ++ leBytes 2 detail ++ leBytes 2 s.tick.counter.toNat) s.canBrs] else [] } := by
  unfold State.emcy
  rw [if_pos hon, State.sendCan_eq]
  rfl

/-- R432: an EMCY. -/
theorem emcyIsEnteredAndSent : Claim.EmcyIsEnteredAndSent := by
  refine fun s code detail => ⟨fun hoff => State.emcy_of_off hoff _ _, fun hon => ?_⟩
  rw [State.emcy_of_on hon]
  exact ⟨rfl, rfl, rfl⟩

/-- The end of a command where 1001h does not return to 00h. -/
theorem State.settle_of_stays {s : State} (h : ¬ (s.can.err ≠ 0 ∧ s.errReg = 0)) :
    s.settle = { s with can := { s.can with err := s.errReg } } := by
  unfold State.settle
  rw [if_neg h]

/-- The end of a command where 1001h returns to 00h (R432). -/
theorem State.settle_of_returns {s : State} (herr : s.can.err ≠ 0) (hzero : s.errReg = 0) :
    s.settle = { s.emcy 0 0 with can := { (s.emcy 0 0).can with err := s.errReg } } := by
  unfold State.settle
  rw [if_pos ⟨herr, hzero⟩]

/-- R432: what the end of a command changes. -/
theorem endTouchesOnlyErrorRegister : Claim.EndTouchesOnlyErrorRegister := by
  refine fun s => ⟨fun h => ?_, fun herr hzero hon => ⟨s.apart_settle, ?_⟩⟩
  · by_cases hreturns : s.can.err ≠ 0 ∧ s.errReg = 0
    · have hoff : s.emcyOn = false := by tauto
      rw [State.settle_of_returns hreturns.1 hreturns.2, State.emcy_of_off hoff]
    · exact State.settle_of_stays hreturns
  · rw [State.settle_of_returns herr hzero, State.emcy_of_on hon]
    refine ⟨rfl, fun hcan => ?_⟩
    simp only [hcan, hzero, if_true]
    rfl

/-- Settles O7, clause by clause. -/
theorem commandsEndWithErrorRegister : Obligations.CommandsEndWithErrorRegister :=
  ⟨errorRegisterFollows, endTouchesOnlyErrorRegister⟩
end Sys2Proof.Machine
end

section
/-! PROOFS. The resets and the stages of the start-up. -/
namespace Sys2Proof.Machine
open Sys2Proof

/-- R488: both resets are one. -/
theorem resetClearsVolatileState : Claim.ResetClearsVolatileState := fun _ _ => ⟨rfl, rfl⟩

/-- The end of a command leaves the commit machinery alone. -/
theorem State.settle_com (s : State) : s.settle.com = s.com := by
  rw [State.eq_of_apart s.apart_settle]

/-- A configuration that fails the check at the start is dropped (R121, log entry 38). -/
theorem State.startCheck_startCfg (s : State) (h : s.startCheck.com.startOk = false) : s.startCheck.com.startCfg = [] := by
  unfold State.startCheck at *
  dsimp only at *
  split at h
  · cases h
  · rfl

/-- R490: the stages of the start-up. -/
theorem startUpStages : Claim.StartUpStages := by
  refine fun s gl us hcore => ⟨fun hboot => ?_, fun hboot => ?_, fun hboot => ?_⟩
  · exact State.ends_of_run (f := State.resetRelease) hcore rfl (if_pos hboot)
  · exact State.ends_of_run (f := (·.fusesLoaded gl)) hcore rfl (if_pos hboot)
  · have hscan : s.begin.journalScan us = { (s.begin.scan us).startCheck with boot := .checked } := if_pos hboot
    refine State.reaches_of_run (f := (·.journalScan us)) hcore rfl ?_
    rw [hscan, State.settle_com]
    refine ⟨by simp, by simp, State.startCheck_startCfg _⟩

/-- Settles O8: the resets and the stages behind them. -/
theorem resetAndStartUp : Obligations.ResetAndStartUp := ⟨resetClearsVolatileState, startUpStages⟩
end Sys2Proof.Machine
end

section
/-! PROOFS. Refused writes. -/
namespace Sys2Proof.Machine
open Sys2Proof

/-- R392, R398, R440: the check that fails, its log entry, and the challenge it spends. -/
theorem refusedWritesEndRefused : Claim.RefusedWritesEndRefused := by
  intro i s v idx sub data hw ⟨hcore, hserves⟩ hc
  refine State.ends_of_run (f := (·.portWrite v idx sub data)) hcore (exec_of_writes hw s) ?_
  rw [State.portWrite_of_refusal hserves rfl hc]
  have hspends (c : Nat) : spends idx sub c = true ↔ idx = 0x2c10 ∧ sub = 5 ∧ (c = 0x203 ∨ c = 0x204 ∨ c = 0x205 ∨ c = 0x208) := by
    simp only [spends, Bool.and_eq_true, Bool.or_eq_true, decide_eq_true_eq]
    tauto
  simp only [hspends]

/-- A port that is not served takes no write (log entry 2). -/
theorem unservedPortTakesNoWrite : Claim.UnservedPortTakesNoWrite := fun _ s v idx sub data hw hcore hserves =>
  State.ends_of_run (f := (·.portWrite v idx sub data)) hcore (exec_of_writes hw s) (if_neg (by simp [hserves]))

/-- R398, R404: the log, its counters, and the counters of the relay and of returns beyond what is outstanding. -/
theorem refusalChangesOnlyLogs : Claim.RefusalChangesOnlyLogs := by
  intro s v idx sub code abort
  have hrelay : s.noteRelay v false = { s with galt := (s.noteRelay v false).galt } := by
    unfold State.noteRelay
    split <;> rfl
  have hlog : s.refuse v idx sub code abort = { s with
      diag := s.diag.refusal s.tick.counter code v.port (key idx sub) (if abort then abortCode code else 0)
      galt := (s.noteRelay v false).galt
      ledger := { s.ledger with overReturn := if code = 0x601 then satInc s.ledger.overReturn else s.ledger.overReturn } } := by
    unfold State.refuse State.refusal
    rw [hrelay]
    by_cases h : code = 0x601
    · subst h
      rfl
    · simp only [if_neg h]
  rw [hlog]
  refine ⟨rfl, ?_, fun hport => ?_, fun hport => ?_, rfl⟩
  · cases abort <;> rfl
  · show (s.noteRelay v false).galt = s.galt
    unfold State.noteRelay
    rw [if_pos hport]
  · show (s.noteRelay v false).galt = _
    unfold State.noteRelay
    rw [if_neg (not_not_intro hport)]
    rfl

/-- Settles O12, clause by clause. -/
theorem refusalsOfWrites : Obligations.RefusalsOfWrites := ⟨refusedWritesEndRefused, unservedPortTakesNoWrite, refusalChangesOnlyLogs⟩
end Sys2Proof.Machine
end

section
/-! PROOFS. The order of the checks of an access. -/
namespace Sys2Proof.Machine
open Sys2Proof

/-- An index that is not served (R410). -/
theorem State.refusals_of_no_object {idx : Nat} (h : objectAt idx = none) (s : State) (v : Via) (sub : Nat) (data : List Byte) (records : Bool) :
    s.writeRefusal v idx sub data = 0x407 ∧ s.readRefusal v idx sub records = 0x407 := by
  simp [State.writeRefusal, State.formRefusal, State.readRefusal, h]

/-- A sub-index that is not served (R410). -/
theorem State.refusals_of_no_entry {idx sub : Nat} {f : Nat → Option Entry} (h : objectAt idx = some f) (hsub : f sub = none) (s : State)
    (v : Via) (data : List Byte) (records : Bool) :
    s.writeRefusal v idx sub data = 0x402 ∧ s.readRefusal v idx sub records = 0x402 := by
  simp [State.writeRefusal, State.formRefusal, State.readRefusal, h, hsub]

/-- The first check that fails gives its code: the letter, the field lock, the data (R392). -/
theorem State.writeRefusal_of_entry {idx sub : Nat} {f : Nat → Option Entry} {e : Entry} (h : objectAt idx = some f) (hsub : f sub = some e)
    {s : State} {v : Via} {data : List Byte} {c : Nat} (hc : c ≠ 0)
    (hfirst : s.letterRefusal e v = c ∨ s.letterRefusal e v = 0 ∧ s.lockCheck e idx sub data = c ∨
      s.letterRefusal e v = 0 ∧ s.lockCheck e idx sub data = 0 ∧ e.dataRefusal idx data = c) :
    s.writeRefusal v idx sub data = c := by
  have hform : s.formRefusal v idx sub data = (c, some e) := by
    simp only [State.formRefusal, h, hsub]
    rcases hfirst with hl | ⟨hl, hk⟩ | ⟨hl, hk, hd⟩
    · simp [hl, hc]
    · simp [hl, hk, hc]
    · simp [hl, hk, hd]
  simp only [State.writeRefusal, hform, if_pos hc]

/-- R392: the first checks of a write. -/
theorem writeChecksInOrder : Claim.WriteChecksInOrder := by
  refine fun s v idx sub data hport => ⟨fun h => (State.refusals_of_no_object h s v sub data false).1, fun f h =>
    ⟨fun hsub => (State.refusals_of_no_entry h hsub s v data false).1, fun e hsub => ⟨fun hletter => ?_, fun hletter => ⟨fun hseal hguard => ?_, fun hlock =>
      ⟨fun hcount => ?_, fun hcount hbits => ?_, fun hcount hbits hrange => ?_⟩⟩⟩⟩⟩
  · refine State.writeRefusal_of_entry h hsub (by split <;> simp) (.inl ?_)
    simp [State.letterRefusal, hport, hletter]
  all_goals have hpasses : s.letterRefusal e v = 0 := by simp [State.letterRefusal, Entry.originGrants, hport, hletter]
  · exact State.writeRefusal_of_entry h hsub (by simp) (.inr (.inl ⟨hpasses, by simp [State.lockCheck, hseal, hguard]⟩))
  · exact State.writeRefusal_of_entry h hsub (by simp) (.inr (.inr ⟨hpasses, hlock, by simp [Entry.dataRefusal, hcount]⟩))
  · exact State.writeRefusal_of_entry h hsub (by simp) (.inr (.inr ⟨hpasses, hlock, by simp [Entry.dataRefusal, hcount, hbits]⟩))
  · refine State.writeRefusal_of_entry h hsub (by split <;> simp) (.inr (.inr ⟨hpasses, hlock, ?_⟩))
    simp [Entry.dataRefusal, hcount, hbits, hrange, rangeCode]

/-- R410: what is not served is refused on reads and writes. -/
theorem unlistedObjectsAreRefused : Claim.UnlistedObjectsAreRefused := fun s v _ sub data records =>
  ⟨fun h => State.refusals_of_no_object h s v sub data records, fun _ h hsub => State.refusals_of_no_entry h hsub s v data records⟩

/-- Settles O13, clause by clause. -/
theorem accessChecksInOrder : Obligations.AccessChecksInOrder := ⟨writeChecksInOrder, unlistedObjectsAreRefused⟩
end Sys2Proof.Machine
end

section
/-! PROOFS. Stops in force (R486, R493, R500). -/
namespace Sys2Proof.Machine
open Sys2Proof

/-- Where a stop is in force a mismatch only counts (R486). -/
theorem State.rindMismatch_of_stop {s : State} (h : s.sup.stopCause ≠ 0) (cause : BitVec 8) : s.rindMismatch cause = s.countMismatch :=
  if_pos h

/-- The rind check of a running tick: the next segment, and the first mismatch that is found (R484). -/
theorem State.rindCheck_of_tick {s : State} (hon : s.tick.on = true) (hbus : s.clk.causes.contains 3 = false) (sig conf : Bool) :
    s.rindCheck sig conf =
      let s1 := { s with sup := { s.sup with segment := (s.sup.segment + 1) % 96 } }
      if (sig || conf) = true then s1.rindMismatch 1 else if (!s1.ledgerHolds) = true then s1.rindMismatch 2 else s1 :=
  if_pos (by rw [hon, hbus]; rfl)

/-- R486: mismatches under a stop only count. -/
theorem furtherMismatchesOnlyCount : Claim.FurtherMismatchesOnlyCount := by
  intro s sig conf hcore hon hbus hstop hmismatch
  have hstop' : ({ s.begin with sup := { s.begin.sup with segment := (s.begin.sup.segment + 1) % 96 } } : State).sup.stopCause ≠ 0 := hstop
  refine State.ends_of_run (f := (·.rindCheck sig conf)) hcore rfl ?_
  rw [State.rindCheck_of_tick (s := s.begin) hon hbus]
  dsimp only
  rw [State.rindMismatch_of_stop hstop', State.rindMismatch_of_stop hstop']
  split
  · rfl
  next hneither =>
    refine if_pos ?_
    rw [Bool.not_eq_true] at hneither
    rwa [hneither] at hmismatch

/-- R486: triggers under a stop. -/
theorem stopResolvesTriggersAtOnce : Claim.StopResolvesTriggersAtOnce := fun _ _ _ hstop => if_pos hstop

/-- Settles O26, clause by clause. -/
theorem stopsInForce : Obligations.StopsInForce := ⟨furtherMismatchesOnlyCount, stopResolvesTriggersAtOnce⟩

/-- Outside STANDBY the lanes run with neither a shutdown nor a stop in force (R493, R500). -/
theorem State.stopped_eq_false_iff {s : State} (hpow : s.pow.state ≠ .standby) :
    s.stopped = false ↔ s.sup.shutdown = false ∧ s.sup.stopCause = 0 := by
  simp [State.stopped, hpow, and_comm]

/-- Settles O59: 2004h.07 gives the shutdown first, and lanes run in no stop. -/
theorem bothStopsMustClear : Obligations.BothStopsMustClear := by
  intro s hpow
  refine ⟨fun hshut _ => ?_, fun hrun => (State.stopped_eq_false_iff hpow).mp ?_⟩
  · simp [State.readDevice, State.stopState, hshut, hpow]
  · simp only [State.lanesRun, Bool.and_eq_true, Bool.not_eq_true'] at hrun
    exact hrun.1.2
end Sys2Proof.Machine
end

section
/-! PROOFS. What a stop ends, and the rind check (R323, R484, R485, R493). -/
namespace Sys2Proof.Machine
open Sys2Proof

/-- The state but for what a stop ends: generators, outputs, sources, slots, lanes, the rotation, a calibration, the log and the whey. -/
def State.besideStopped (s : State) : State :=
  { s with gens := [], outs := [], sources := [], slots := [], lanes := [], quad := {}, cal := {}, diag := {}, whey := [] }

/-- What a stop resolves to whey: a trigger of slot n, with the reason and the tick. -/
def Resolved (n : Nat) (why : Reason) (t : TickNo) (l : List Whey) : Prop := ∃ w ∈ l, w.slot = n ∧ w.reason = why ∧ w.tick = t

/-- Whey that waits keeps its triggers when more joins (R59). -/
theorem Resolved.addWhey {n : Nat} {why : Reason} {t : TickNo} {l : List Whey} (h : Resolved n why t l) (v : Whey) :
    Resolved n why t (addWhey v l) := by
  obtain ⟨w, hw, hspec⟩ := h
  induction l with
  | nil => cases hw
  | cons x xs ih =>
    unfold Machine.addWhey
    split
    · obtain rfl | hxs := List.mem_cons.mp hw
      · exact ⟨_, List.mem_cons_self, hspec⟩
      · exact ⟨w, List.mem_cons_of_mem _ hxs, hspec⟩
    · obtain rfl | hxs := List.mem_cons.mp hw
      · exact ⟨w, List.mem_cons_self, hspec⟩
      · obtain ⟨u, hu, hu'⟩ := ih hxs
        exact ⟨u, List.mem_cons_of_mem _ hu, hu'⟩

/-- A trigger that joins the whey is among it (R59). -/
theorem resolved_addWhey (v : Whey) (l : List Whey) : Resolved v.slot v.reason v.tick (addWhey v l) := by
  induction l with
  | nil => exact ⟨v, List.mem_cons_self, rfl, rfl, rfl⟩
  | cons x xs ih =>
    unfold addWhey
    split
    next h => exact ⟨_, List.mem_cons_self, h.1, h.2.1, h.2.2.1⟩
    · obtain ⟨w, hw, hspec⟩ := ih
      exact ⟨w, List.mem_cons_of_mem _ hw, hspec⟩

/-- The slots after the triggers of one are resolved: that one is idle, every other as it was. -/
theorem State.slot_resolveSlot (s : State) (n m : Nat) (why : Reason) (f : TickNo → TickNo) (ring : Option Nat) :
    (s.resolveSlot n why f ring).slot m = if m = n then { s.slot n with run := none, pend := none } else s.slot m := by
  have hslots : (s.resolveSlot n why f ring).slots = (s.setSlot n { s.slot n with run := none, pend := none }).slots := by
    unfold State.resolveSlot
    dsimp only
    split <;> split <;> rfl
  rw [State.slot, hslots]
  by_cases h : m = n
  · rw [h, if_pos rfl]
    exact State.slot_setSlot s n _
  · rw [if_neg h]
    exact State.slot_setSlot_other s h _

/-- Whey that waits keeps its triggers when a slot is resolved. -/
theorem Resolved.resolveSlot {n : Nat} {why : Reason} {t : TickNo} {s : State} (h : Resolved n why t s.whey) (m : Nat) (why' : Reason)
    (f : TickNo → TickNo) (ring : Option Nat) : Resolved n why t (s.resolveSlot m why' f ring).whey := by
  unfold State.resolveSlot
  dsimp only
  split <;> split
  · exact (h.addWhey _).addWhey _
  · exact h.addWhey _
  · exact h.addWhey _
  · exact h

/-- A slot with a trigger has it resolved to whey (R59). -/
theorem State.resolveSlot_whey {s : State} {n : Nat} (h : (s.slot n).run.isSome = true ∨ (s.slot n).pend.isSome = true) (why : Reason)
    (t : TickNo) (ring : Option Nat) : Resolved n why t (s.resolveSlot n why (fun _ => t) ring).whey := by
  unfold State.resolveSlot
  dsimp only
  cases hrun : (s.slot n).run <;> cases hpend : (s.slot n).pend
  · simp [hrun, hpend] at h
  · exact resolved_addWhey ⟨n, why, t, 1, 0, false, ring⟩ _
  · exact resolved_addWhey ⟨n, why, t, 1, 0, false, ring⟩ _
  · exact (resolved_addWhey ⟨n, why, t, 1, 0, false, ring⟩ _).addWhey _

/-- A slot is idle: it runs no trigger and none waits. -/
def SlotRt.Idle (r : SlotRt) : Prop := r.run = none ∧ r.pend = none

/-- A walk over slots that resolves each leaves those it visits idle, and those idle before. -/
theorem foldl_resolveSlot_idle {n : Nat} (why : Reason) (t : TickNo) (l : List Nat) (s : State) (h : (s.slot n).Idle ∨ n ∈ l) :
    ((l.foldl (fun acc k => acc.resolveSlot k why (fun _ => t) none) s).slot n).Idle := by
  induction l generalizing s with
  | nil => exact h.resolve_right List.not_mem_nil
  | cons k l ih =>
    refine ih _ ?_
    rw [State.slot_resolveSlot]
    by_cases hk : n = k
    · exact .inl (by rw [if_pos hk]; exact ⟨rfl, rfl⟩)
    · rw [if_neg hk]
      exact h.imp_right fun hmem => (List.mem_cons.mp hmem).resolve_left hk

/-- A walk over slots resolves the triggers of each that it visits. -/
theorem foldl_resolveSlot_whey {n : Nat} (why : Reason) (t : TickNo) (l : List Nat) (s : State)
    (h : Resolved n why t s.whey ∨ n ∈ l ∧ ((s.slot n).run.isSome = true ∨ (s.slot n).pend.isSome = true)) :
    Resolved n why t (l.foldl (fun acc k => acc.resolveSlot k why (fun _ => t) none) s).whey := by
  induction l generalizing s with
  | nil => exact h.resolve_right fun hmem => List.not_mem_nil hmem.1
  | cons k l ih =>
    refine ih _ ?_
    obtain h | ⟨hmem, hbusy⟩ := h
    · exact .inl (h.resolveSlot ..)
    · by_cases hk : n = k
      · exact .inl (hk ▸ State.resolveSlot_whey (hk ▸ hbusy) why t none)
      · rw [State.slot_resolveSlot, if_neg hk]
        exact .inr ⟨(List.mem_cons.mp hmem).resolve_left hk, hbusy⟩

/-- A slot that is not in the table is at its reset value, with no trigger. -/
theorem State.slot_idle_of_unlisted {s : State} {n : Nat} (h : n ∉ s.slots.map (·.1)) : (s.slot n).Idle := by
  have hdflt : s.slot n = {} := by
    unfold State.slot
    generalize s.slots = l at h
    induction l with
    | nil => rfl
    | cons e l ih =>
      simp only [List.map_cons, List.mem_cons, not_or] at h
      rw [tget, if_neg h.1]
      exact ih h.2
  rw [hdflt]
  exact ⟨rfl, rfl⟩

/-- The triggers of a slot. -/
def State.trigs (n : Nat) (s : State) : Option Trig × Option Trig := ((s.slot n).run, (s.slot n).pend)

/-- Idle slots are those without triggers. -/
theorem SlotRt.idle_iff_trigs {s : State} {n : Nat} : (s.slot n).Idle ↔ s.trigs n = (none, none) := by
  simp [SlotRt.Idle, State.trigs]

/-- The lanes that stop keep every trigger (R66). -/
theorem State.lanesStop_trigs (s : State) (n : Nat) : s.lanesStop.trigs n = s.trigs n :=
  foldl_keeps (State.trigs n) State.totStop
    (fun s m => State.slot_setSlot_keeps (fun r => (r.run, r.pend)) s (n := m) (r := { s.slot m with totSince := none }) rfl n) _ _

/-- A verdict on a calibration keeps every trigger. -/
theorem State.verdict_trigs (s : State) (v : Verdict) (cause n : Nat) : (s.verdict v cause).trigs n = s.trigs n := by
  unfold State.verdict State.trigs State.slot State.event
  dsimp only
  split
  · exact State.slot_setSlot_keeps (fun r => (r.run, r.pend)) s (n := s.cal.slot)
      (r := { s.slot s.cal.slot with calStatus :=
        ((s.slot s.cal.slot).calStatus &&& 0xc0) ||| BitVec.ofNat 8 (v.code + if s.cal.run = some CalKind.span then 16 else 0) }) rfl n
  · rfl

/-- A calibration that a stop ends keeps every trigger (R353). -/
theorem State.calLanesStopped_trigs (s : State) (n : Nat) : s.calLanesStopped.trigs n = s.trigs n := by
  unfold State.calLanesStopped
  split
  · exact s.verdict_trigs ..
  · rfl

/-- Generators that run on change nothing beside what a stop ends (R330). -/
theorem State.gensNow_besideStopped (s : State) : s.gensNow.besideStopped = s.besideStopped := by
  unfold State.gensNow
  split
  · refine foldl_keeps State.besideStopped _ (fun s g => ?_) _ _
    unfold State.genAdvance
    dsimp only
    split <;> rfl
  · rfl

/-- Generators that run on leave the slots alone. -/
theorem State.gensNow_slots (s : State) : s.gensNow.slots = s.slots := by
  unfold State.gensNow
  split
  · refine foldl_keeps State.slots _ (fun s g => ?_) _ _
    unfold State.genAdvance
    dsimp only
    split <;> rfl
  · rfl

/-- The outputs that are forced change nothing beside what a stop ends (R323). -/
theorem State.forceAllMid_besideStopped (s : State) : s.forceAllMid.besideStopped = s.besideStopped := by
  refine (foldl_keeps State.besideStopped _ (fun s n => ?_) _ _).trans s.gensNow_besideStopped
  unfold State.forceMid
  split <;> rfl

/-- The outputs that are forced leave the slots alone. -/
theorem State.forceAllMid_slots (s : State) : s.forceAllMid.slots = s.slots := by
  refine (foldl_keeps State.slots _ (fun s n => ?_) _ _).trans s.gensNow_slots
  unfold State.forceMid
  split <;> rfl

/-- The outputs that are forced keep every trigger. -/
theorem State.forceAllMid_trigs (s : State) (n : Nat) : s.forceAllMid.trigs n = s.trigs n := by
  unfold State.trigs State.slot
  rw [State.forceAllMid_slots]

/-- Sources that open keep every trigger (R153). -/
theorem State.openSources_trigs (s : State) (n : Nat) : s.openSources.trigs n = s.trigs n := rfl

/-- A resolved slot changes nothing beside what a stop ends. -/
theorem State.resolveSlot_besideStopped (s : State) (n : Nat) (why : Reason) (f : TickNo → TickNo) (ring : Option Nat) :
    (s.resolveSlot n why f ring).besideStopped = s.besideStopped := by
  unfold State.resolveSlot
  dsimp only
  split <;> split <;> rfl

/-- The state of a stop before its triggers are resolved: outputs forced, sources open, lanes and calibration ended. -/
def State.allIdle (s : State) : State := s.forceAllMid.openSources.lanesStop.calLanesStopped

/-- A stop resolves the triggers of the slots last. -/
theorem State.stopAll_eq_walk (s : State) (why : Reason) : s.stopAll why =
    (s.allIdle.slots.map (·.1)).foldl (fun acc n => acc.resolveSlot n why (fun _ => s.tick.counter) none) s.allIdle := rfl

/-- A calibration that ends changes nothing beside what a stop ends (R353). -/
theorem State.calLanesStopped_besideStopped (s : State) : s.calLanesStopped.besideStopped = s.besideStopped := by
  unfold State.calLanesStopped
  split <;> rfl

/-- The lanes that stop change nothing beside what a stop ends (R66). -/
theorem State.lanesStop_besideStopped (s : State) : s.lanesStop.besideStopped = s.besideStopped :=
  foldl_keeps State.besideStopped State.totStop (fun _ _ => rfl) _ _

/-- Sources that open change nothing beside what a stop ends (R153). -/
theorem State.openSources_besideStopped (s : State) : s.openSources.besideStopped = s.besideStopped := rfl

/-- Before the walk nothing has changed beside what a stop ends. -/
theorem State.allIdle_besideStopped (s : State) : s.allIdle.besideStopped = s.besideStopped := by
  rw [State.allIdle, State.calLanesStopped_besideStopped, State.lanesStop_besideStopped, State.openSources_besideStopped,
    State.forceAllMid_besideStopped]

/-- A stop changes only what it ends (R485, R493). -/
theorem State.stopAll_besideStopped (s : State) (why : Reason) : (s.stopAll why).besideStopped = s.besideStopped := by
  rw [State.stopAll_eq_walk, ← s.allIdle_besideStopped]
  generalize s.allIdle = u
  exact foldl_keeps State.besideStopped _ (fun s n => s.resolveSlot_besideStopped ..) _ _

/-- A stop leaves every slot idle (R485, R493). -/
theorem State.stopAll_idle (s : State) (why : Reason) (n : Nat) : ((s.stopAll why).slot n).Idle := by
  rw [State.stopAll_eq_walk]
  generalize s.allIdle = u
  refine foldl_resolveSlot_idle why _ _ _ ?_
  by_cases h : n ∈ u.slots.map (·.1)
  · exact .inr h
  · exact .inl (State.slot_idle_of_unlisted h)

/-- A stop resolves every trigger as whey of the tick that runs, with its reason (R485, R493). -/
theorem State.stopAll_whey {s : State} {n : Nat} (h : (s.slot n).run.isSome = true ∨ (s.slot n).pend.isSome = true) (why : Reason) :
    Resolved n why s.tick.counter (s.stopAll why).whey := by
  have htrigs : s.allIdle.trigs n = s.trigs n := by
    unfold State.allIdle
    rw [State.calLanesStopped_trigs, State.lanesStop_trigs, State.openSources_trigs, State.forceAllMid_trigs]
  have hbusy : (s.allIdle.slot n).run.isSome = true ∨ (s.allIdle.slot n).pend.isSome = true := by
    simp only [State.trigs, Prod.mk.injEq] at htrigs
    rwa [htrigs.1, htrigs.2]
  rw [State.stopAll_eq_walk]
  generalize s.allIdle = u at hbusy
  refine foldl_resolveSlot_whey why _ _ _ (.inr ⟨?_, hbusy⟩)
  by_contra hunlisted
  have hidle := State.slot_idle_of_unlisted hunlisted
  simp [hidle.1, hidle.2] at hbusy

/-- What the walk over the slots leaves alone: lanes, sources, the rotation, the log and the calibration. -/
def State.lanesSide (s : State) : Tbl LaneRt × Tbl SourceRt × CalSt × DiagSt := (s.lanes, s.sources, s.cal, s.diag)

/-- The walk over the slots leaves lanes, sources, calibration and log alone. -/
theorem State.stopAll_lanesSide (s : State) (why : Reason) : (s.stopAll why).lanesSide = s.allIdle.lanesSide := by
  rw [State.stopAll_eq_walk]
  generalize s.allIdle = u
  refine foldl_keeps State.lanesSide _ (fun s n => ?_) _ _
  unfold State.resolveSlot
  dsimp only
  split <;> split <;> rfl

/-- Before the walk the lanes and sources are those of a stop of the lanes with its sources open, and no calibration runs. -/
theorem State.allIdle_lanes (s : State) :
    s.allIdle.lanes = tmapVals (fun _ => {}) (fun _ r => { r.disconnect with conv := none }) s.forceAllMid.lanes ∧
    s.allIdle.sources = tmapVals (fun _ => {}) (fun _ r => r.open) s.forceAllMid.sources ∧ s.allIdle.cal.run = none := by
  unfold State.allIdle
  generalize s.forceAllMid = u
  refine ⟨?_, ?_, State.calLanesStopped_run _⟩
  · rw [State.calLanesStopped_eq, State.lanesStop_eq]
    rfl
  · rw [State.calLanesStopped_eq, State.lanesStop_eq]
    rfl

/-- A stop opens every source, leaves every lane without a conversion, and ends a calibration (R485, R493). -/
theorem State.stopAll_lanes (s : State) (why : Reason) : (∀ e ∈ (s.stopAll why).sources, e.2.isOpen = true) ∧
    (∀ l, ((s.stopAll why).lane l).conv = none) ∧ (s.stopAll why).cal.run = none := by
  have hside := s.stopAll_lanesSide why
  obtain ⟨hlanes', hsources', hrun⟩ := s.allIdle_lanes
  simp only [State.lanesSide, Prod.mk.injEq] at hside
  obtain ⟨hlanes, hsources, hcal, -⟩ := hside
  refine ⟨fun e he => ?_, fun l => ?_, (congrArg CalSt.run hcal).trans hrun⟩
  · rw [hsources, hsources'] at he
    obtain ⟨r, hr⟩ := mem_tmapVals he
    exact hr ▸ rfl
  · rw [State.lane, hlanes, hlanes', tget_tmapVals _ _ _ _ rfl]

/-- Every output that drives has its held code at mid-scale and not released once a walk has forced it (R323, R338). -/
theorem foldl_forceMid_released {n : Nat} (l : List Nat) (s : State)
    (h : (s.output n).released = false ∨ n ∈ l ∧ s.outMode n ≠ 0) : ((l.foldl State.forceMid s).output n).released = false := by
  induction l generalizing s with
  | nil => simpa using h
  | cons m l ih =>
    refine ih _ ?_
    have hmode : (s.forceMid m).outMode n = s.outMode n := by simp [State.outMode, State.acfg]
    rw [hmode]
    unfold State.forceMid
    by_cases hmn : n = m
    · subst hmn
      by_cases hoff : s.outMode n = 0
      · rw [if_pos hoff]
        exact h.imp_right fun hm => absurd hoff hm.2
      · rw [if_neg hoff, State.output_updOutput]
        exact .inl rfl
    · have hother : ((if s.outMode m = 0 then s else s.updOutput m OutRt.mid).output n) = s.output n := by
        split
        · rfl
        · exact s.output_updOutput_other hmn _
      rw [hother]
      exact h.imp_right fun hm => ⟨(List.mem_cons.mp hm.1).resolve_left hmn, hm.2⟩

/-- A stop holds every output that is not HIZ at mid-scale, and none is released (R323, R485, R493). -/
theorem State.stopAll_outputs (s : State) (why : Reason) {n : Nat} (hn : n < 4) (hmode : s.outMode n ≠ 0) :
    ((s.stopAll why).output n).held = 0x8000 ∧ ((s.stopAll why).output n).released = false := by
  have hstop := s.stopAll_underStop why
  simp only [State.underStop, Prod.mk.injEq] at hstop
  obtain ⟨-, -, houts⟩ := hstop
  rw [State.output, houts]
  refine ⟨s.forceAllMid_spec.2.2 n hn hmode, foldl_forceMid_released _ _ (.inr ⟨by simp; omega, ?_⟩)⟩
  simpa [State.outMode, State.acfg] using hmode

/-- A stop, the thermal warning, a shutdown or a latched fault keeps 1001h from 00h (R432). -/
theorem State.errReg_ne_zero {s : State}
    (h : s.sup.stopCause ≠ 0 ∨ (s.sup.warning || s.sup.shutdown) = true ∨ s.anyFault = true) : s.errReg ≠ 0 := by
  have hbits (b2 b3 b4 b7 : Nat) (h2 : b2 = 0 ∨ b2 = 4) (h3 : b3 = 0 ∨ b3 = 8) (h4 : b4 = 0 ∨ b4 = 16) (h7 : b7 = 0 ∨ b7 = 128)
      (hany : s.sup.stopCause ≠ 0 ∨ b3 = 8 ∨ b7 = 128) :
      BitVec.ofNat 8 (b2 + b3 + b4 + b7 + if s.sup.stopCause ≠ 0 || b2 + b3 + b4 + b7 ≠ 0 then 1 else 0) ≠ 0 := by
    have hone : (if s.sup.stopCause ≠ 0 || b2 + b3 + b4 + b7 ≠ 0 then 1 else 0) = 1 := by
      refine if_pos ?_
      obtain hany | hany | hany := hany
      · rw [decide_eq_true hany]
        rfl
      · simp [hany]
      · simp [hany]
    rw [hone]
    intro hzero
    have := congrArg BitVec.toNat hzero
    rw [BitVec.toNat_ofNat] at this
    simp at this
    omega
  unfold State.errReg
  refine hbits _ _ _ _ ?_ ?_ ?_ ?_ (h.imp_right (Or.imp (if_pos ·) (if_pos ·)))
  all_goals split <;> simp

/-- What a stop leaves: all but what it ends (R485, R493). -/
theorem State.stopAll_frame (s : State) (why : Reason) : (s.stopAll why).sup = s.sup ∧ (s.stopAll why).can = s.can ∧
    (s.stopAll why).live = s.live ∧ (s.stopAll why).pow = s.pow ∧ (s.stopAll why).tick = s.tick ∧ (s.stopAll why).clk = s.clk ∧
    (s.stopAll why).jn = s.jn ∧ (s.stopAll why).sameConfig s := by
  have h := s.stopAll_besideStopped why
  simp only [State.besideStopped, State.mk.injEq] at h
  simp only [State.sameConfig, h, and_self]

/-- A mismatch that begins a stop: the stop, the count, the event and the EMCY (R485). -/
theorem State.rindMismatch_of_free {s : State} (h : s.sup.stopCause = 0) (cause : BitVec 8) : s.rindMismatch cause =
    ((({ s.stopAll .integrityStop with sup := { s.sup with
        stopCause := cause, sweeping := false, clearDue := false, mismatches := satInc s.sup.mismatches } } : State).event
      0x2e00 6 cause.toNat).emcy 0x5000 cause.toNat) := by
  obtain ⟨hsup, -⟩ := s.stopAll_frame .integrityStop
  refine (if_neg (not_not_intro h)).trans ?_
  unfold State.integrityStop
  generalize s.stopAll .integrityStop = w at *
  simp only [State.countMismatch, hsup, h, stopCauseAfter]
  rfl

/-- R484: a rind check that finds nothing. -/
theorem cleanRindCheckOnlyMovesOn : Claim.CleanRindCheckOnlyMovesOn := by
  intro s hcore hon hbus hledger
  have hholds : (({ s.begin with sup := { s.begin.sup with segment := (s.begin.sup.segment + 1) % 96 } } : State).ledgerHolds) = true := hledger
  refine State.ends_of_run (f := (·.rindCheck false false)) hcore rfl ?_
  rw [State.rindCheck_of_tick (s := s.begin) hon hbus]
  dsimp only
  rw [hholds]
  rfl

/-- The cause of a stop that a rind check begins (log entry 66). -/
def rindCause (sig conf : Bool) : BitVec 8 := if sig || conf then 1 else 2

/-- The state in which a rind check has moved on to its next segment (R484). -/
def State.nextSegment (s : State) : State := { s.begin with sup := { s.sup with segment := (s.sup.segment + 1) % 96 } }

/-- A rind check that finds a mismatch (R484, R485). -/
theorem State.rindCheck_of_mismatch {s : State} (hon : s.tick.on = true) (hbus : s.clk.causes.contains 3 = false) {sig conf : Bool}
    (h : (sig || conf || !s.ledgerHolds) = true) : s.begin.rindCheck sig conf = s.nextSegment.rindMismatch (rindCause sig conf) := by
  have hledger : s.nextSegment.ledgerHolds = s.ledgerHolds := rfl
  rw [State.rindCheck_of_tick (s := s.begin) hon hbus]
  change (if (sig || conf) = true then s.nextSegment.rindMismatch 1 else if (!s.nextSegment.ledgerHolds) = true then
    s.nextSegment.rindMismatch 2 else s.nextSegment) = _
  unfold rindCause
  rw [hledger]
  split
  · rfl
  next hneither =>
    rw [Bool.not_eq_true] at hneither
    rw [hneither, Bool.false_or] at h
    exact if_pos h

/-- Whether EMCYs are sent turns on the CAN port, the configuration and the power state (R432). -/
theorem State.emcyOn_congr {s u : State} (hcan : u.can = s.can) (hactive : u.active = s.active) (hlive : u.live = s.live)
    (hpow : u.pow = s.pow) : u.emcyOn = s.emcyOn := by
  have hval : u.liveVal 0x1014 0 = s.liveVal 0x1014 0 := by
    unfold State.liveVal State.lcfg State.nodeId State.acfg
    rw [hlive, hactive]
  simp only [State.emcyOn, hcan, hval, hpow]

/-- In a stop no lane runs (R486). -/
theorem State.lanesRun_of_stopped {s : State} (h : s.stopped = true) : s.lanesRun = false := by
  simp [State.lanesRun, h]

/-- With a cause in force the device is stopped (R486). -/
theorem State.stopped_of_cause {s : State} (h : s.sup.stopCause ≠ 0) : s.stopped = true := by
  unfold State.stopped
  rw [decide_eq_true h, Bool.true_or]

/-- R484, R485: a mismatch begins a stop. -/
theorem mismatchStopsTheDevice : Claim.MismatchStopsTheDevice := by
  intro s sig conf hcore hon hbus hfree hmismatch cause
  have hcause : rindCause sig conf = BitVec.ofNat 8 cause := by
    simp only [cause, rindCause]
    split <;> rfl
  have hnat : (BitVec.ofNat 8 cause).toNat = cause := by
    simp only [cause]
    split <;> rfl
  have hne : BitVec.ofNat 8 cause ≠ 0 := by
    simp only [cause]
    split <;> decide
  refine State.reaches_of_run (f := (·.rindCheck sig conf)) hcore rfl ?_
  rw [State.rindCheck_of_mismatch hon hbus hmismatch, State.rindMismatch_of_free (s := s.nextSegment) hfree, hcause, hnat]
  obtain ⟨-, hcan, hlive, hpow, htick, -, -, hconfig⟩ := s.nextSegment.stopAll_frame .integrityStop
  have hidle := s.nextSegment.stopAll_idle .integrityStop
  have hwhey (n : Nat) := State.stopAll_whey (s := s.nextSegment) (n := n) (why := .integrityStop)
  obtain ⟨hopen, hconv, -⟩ := s.nextSegment.stopAll_lanes .integrityStop
  have houts (n : Nat) := s.nextSegment.stopAll_outputs .integrityStop (n := n)
  generalize s.nextSegment.stopAll .integrityStop = w at *
  set u : State := ({ w with sup := { s.nextSegment.sup with stopCause := BitVec.ofNat 8 cause, sweeping := false, clearDue := false, mismatches := satInc s.nextSegment.sup.mismatches } } : State).event 0x2e00 6 cause with hu
  have hx := State.eq_of_apart (u.apart_emcy 0x5000 cause)
  have herr : (u.emcy 0x5000 cause).errReg ≠ 0 := State.errReg_ne_zero (.inl (by rw [hx]; exact hne))
  rw [State.settle_of_stays (fun h => herr h.2), hx]
  refine ⟨rfl, ?_, ?_, hwhey, rfl, ?_, houts, hopen, hconv, hidle, ?_⟩
  · simp only [hu, State.event, DiagSt.event, List.take_succ_cons, List.head?_cons]
    rw [htick]
    rfl
  · intro hsends
    have hon' : u.emcyOn = true := (State.emcyOn_congr hcan hconfig.1 hlive hpow).trans hsends
    rw [State.emcy_of_on hon']
    have hcode : 0x5000 % 65536 + 65536 * (cause % 65536) = 0x5000 + 0x10000 * cause := by
      simp only [cause]
      split <;> rfl
    rw [hcode]
    exact congrArg (fun c : CanSt => (_ :: c.errs).take 8) hcan
  · exact State.lanesRun_of_stopped (State.stopped_of_cause hne)
  · exact hconfig

/-- Settles O25, clause by clause. -/
theorem rindChecksStopOnMismatch : Obligations.RindChecksStopOnMismatch := ⟨cleanRindCheckOnlyMovesOn, mismatchStopsTheDevice⟩
end Sys2Proof.Machine
end

section
/-! PROOFS. The sweep, the clears, the die temperature and the thermal shutdown (R487, R492–R494). -/
namespace Sys2Proof.Machine
open Sys2Proof

/-- A command at its cycle meets the supply, the clocks and the power state of its start. -/
theorem State.at_supply (s : State) (c : Nat) : (s.at c).sup = s.sup ∧ (s.at c).clk = s.clk ∧ (s.at c).pow = s.pow := by
  rw [s.at_sameButTriggers c]
  exact ⟨rfl, rfl, rfl⟩

/-- R487, R498: the sweep's end. -/
theorem sweepDecidesTheClear : Claim.SweepDecidesTheClear := by
  intro s m cyc hcore h runs
  obtain ⟨hsup, hclk, hpow⟩ := s.begin.at_supply cyc
  have hruns : (h.sup.sweeping && h.sup.stopCause ≠ 0 && !h.clockFault && h.pow.state ≠ .standby) = runs := by
    have hsup' : h.sup = s.sup := hsup
    have hclk' : h.clk = s.clk := hclk
    have hpow' : h.pow = s.pow := hpow
    simp only [runs, State.clockFault, hsup', hclk', hpow']
  have hends (m : Bool) {u : State} (hu : s.begin.sweepComplete m cyc = u) : Ends (.sweepComplete ⟨m, cyc⟩) s u :=
    State.ends_of_run (f := (·.sweepComplete m cyc)) hcore rfl hu
  refine ⟨fun hno => hends m ?_, fun hyes => hends false ?_, fun hyes => hends true ?_⟩
  · exact if_neg (by rw [hruns, hno]; decide)
  · refine (if_pos (hruns.trans hyes)).trans ?_
    show ({ h with sup := { h.sup with sweeping := false, clearDue := true } } : State) = _
    rw [show h.sup = s.sup from hsup]
  · refine (if_pos (hruns.trans hyes)).trans ?_
    show State.event { h with sup := { h.sup with sweeping := false, mismatches := satInc h.sup.mismatches } } 0x2e00 5 (satInc h.sup.mismatches) = _
    rw [show h.sup = s.sup from hsup]

/-- The journal but for where its next record goes and what it waits for. -/
def JournalSt.kept (j : JournalSt) : JournalSt :=
  { j with active := 0, used := 0, spareUsed := 0, todo := [], run := 0, firstSeq := 0, prog := none, compact := .idle, erase := none, bad := false }

/-- Preparing the spare sector programs nothing. -/
theorem JournalSt.prepareSpare_kept (j : JournalSt) : j.prepareSpare.kept = j.kept := by
  unfold JournalSt.prepareSpare
  repeat' split
  all_goals rfl

/-- The end of a compaction programs nothing by itself. -/
theorem JournalSt.finishCopy_kept (j : JournalSt) : j.finishCopy.kept = j.kept := by
  unfold JournalSt.finishCopy
  split <;> rfl

/-- A record that starts puts nothing into the flash yet. -/
theorem JournalSt.startRec_kept (j : JournalSt) (margin spare : Bool) (r : JRec) : (j.startRec margin spare r).kept = j.kept := rfl

/-- The next record of an idle sector puts nothing into the flash yet. -/
theorem JournalSt.nextIdle_kept (j : JournalSt) (margin : Bool) : (j.nextIdle margin).kept = j.kept := by
  unfold JournalSt.nextIdle
  dsimp only
  split
  · split
    · rw [JournalSt.startRec_kept, apply_ite JournalSt.kept]
      exact ite_self _
    · rfl
  · split <;> rfl
  · rfl

/-- The journal that moves on programs, stores and ends nothing by itself (R380). -/
theorem JournalSt.move_kept (j : JournalSt) (margin : Bool) : (j.move margin).kept = j.kept := by
  have hready (j : JournalSt) : j.prepareSpare.finishCopy.kept = j.kept := by
    rw [JournalSt.finishCopy_kept, JournalSt.prepareSpare_kept]
  unfold JournalSt.move
  dsimp only
  split
  · rfl
  · split
    · rw [JournalSt.startRec_kept, hready]
    · split
      · rw [JournalSt.nextIdle_kept, hready]
      · split
        · rw [JournalSt.startRec_kept, hready, JournalSt.nextIdle_kept, hready]
        · rw [JournalSt.nextIdle_kept, hready, JournalSt.nextIdle_kept, hready]
        · rw [hready, JournalSt.nextIdle_kept, hready]
    · exact hready j

/-- The journal that moves on changes nothing beside itself. -/
theorem State.jnMove_eq (s : State) : s.jnMove = { s with jn := s.jnMove.jn } := by
  unfold State.jnMove
  split <;> rfl

/-- A journal that moves on keeps its flash, its requests and records that wait, its generations, and what it has counted and
reported. -/
theorem State.jnMove_kept (s : State) : s.jnMove.jn.flash = s.jn.flash ∧ s.jnMove.jn.queue = s.jn.queue ∧ s.jnMove.jn.dev = s.jn.dev ∧
    s.jnMove.jn.gens = s.jn.gens ∧ s.jnMove.jn.seq = s.jn.seq ∧ s.jnMove.jn.weak = s.jn.weak ∧ s.jnMove.jn.result = s.jn.result ∧
    s.jnMove.jn.tick = s.jn.tick ∧ s.jnMove.jn.erases0 = s.jn.erases0 ∧ s.jnMove.jn.erases1 = s.jn.erases1 := by
  have h : s.jnMove.jn.kept = s.jn.kept := by
    unfold State.jnMove
    split
    · rfl
    · exact s.jn.move_kept _
  simp only [JournalSt.kept, JournalSt.mk.injEq] at h
  simp only [h, and_self]

/-- The INTEGRITY-STOP ended at a boundary, with the filters, pairing and event counts anew (R487). -/
def State.stopEnded (s : State) : State :=
  if s.sup.clearDue then ({ s with sup := { s.sup with clearDue := false, stopCause := 0 } }).reinitialise else s

/-- The clears of a boundary: the stop's, then the shutdown's (R487, R494). -/
theorem State.clearStops_eq (s : State) : s.clearStops =
    if s.stopEnded.sup.shutClear then
      ({ s.stopEnded with sup := { s.stopEnded.sup with shutClear := false, shutdown := false } }).jnMove
    else s.stopEnded := rfl

/-- The end of an INTEGRITY-STOP changes the supply record, the slots and the lanes. -/
theorem State.stopEnded_eq (s : State) : s.stopEnded = { s with
    sup := { s.sup with clearDue := false, stopCause := if s.sup.clearDue then 0 else s.sup.stopCause }
    slots := s.stopEnded.slots, lanes := s.stopEnded.lanes } := by
  unfold State.stopEnded
  split
  next h => simp [State.reinitialise]
  next h =>
    rw [Bool.not_eq_true] at h
    rw [← h]

/-- The clears of a boundary change the supply record, the slots, the lanes and, with a shutdown's, the journal. -/
theorem State.clearStops_frame (s : State) : s.clearStops = { s with
    sup := { s.sup with
      clearDue := false, stopCause := if s.sup.clearDue then 0 else s.sup.stopCause
      shutClear := false, shutdown := s.sup.shutdown && !s.sup.shutClear }
    slots := s.stopEnded.slots, lanes := s.stopEnded.lanes, jn := s.clearStops.jn } ∧ s.clearStops.jn.flash = s.jn.flash := by
  rw [State.clearStops_eq, State.stopEnded_eq]
  dsimp only
  split
  next h =>
    rw [(State.jnMove_kept _).1, State.jnMove_eq, h]
    simp
  next h =>
    rw [Bool.not_eq_true] at h
    simp [h]

/-- R487, R494: the clears at the boundary. -/
theorem clearsEndTheirStop : Claim.ClearsEndTheirStop := by
  intro s t
  obtain ⟨hframe, hflash⟩ := s.clearStops_frame
  refine ⟨congrArg State.sup hframe, fun hdue n => ?_, fun hdue l => ?_, fun hno => ?_, ?_, ?_, ?_, ?_, hflash⟩
  all_goals simp only [t]
  all_goals rw [hframe]
  · unfold State.stopEnded
    rw [if_pos hdue]
    exact tget_tmapVals (fun _ => ({} : SlotRt)) (fun _ (r : SlotRt) => { r with filt := {}, prev := none, events := 0 }) _ _ rfl
  · unfold State.stopEnded
    rw [if_pos hdue]
    exact tget_tmapVals (fun _ => ({} : LaneRt)) (fun _ (r : LaneRt) => { r with filt := {} }) _ _ rfl
  · unfold State.stopEnded
    rw [if_neg (by simp [hno])]
    exact ⟨rfl, rfl⟩
  · exact ⟨rfl, rfl, rfl, rfl, rfl⟩
  · exact ⟨rfl, rfl, rfl, rfl⟩
  · exact ⟨rfl, rfl, rfl⟩
  · exact ⟨rfl, rfl, rfl, rfl, rfl, rfl, rfl, rfl, rfl⟩

/-- The die reading within 16 bits, with its maximum (R492). -/
def State.withDie (s : State) (v : Int) (warns : Bool) : State :=
  { s with sup := { s.sup with
      die := v, warning := warns
      dieMax := some (match s.sup.dieMax with
        | some m => max m v
        | none => v) } }

/-- The warning that a reading begins, with its event (R492). -/
def State.warned (s : State) (v : Int) : State := (s.withDie v true).event 0x2e01 2 (s.withDie v true).sup.thermal

/-- A reading that begins the warning (R492). -/
theorem State.dieReading_of_hot {s : State} (hon : s.converterOn = true) {c : Int} (hcold : s.sup.warning = false)
    (hhot : 15000 ≤ clampInt (-32768) 32767 c) : s.dieReading c =
      (s.warned (clampInt (-32768) 32767 c)).emcy 0x4200 1 := by
  refine (if_pos hon).trans ((if_pos ?_).trans rfl)
  rw [hcold, decide_eq_true hhot]
  rfl

/-- Any other reading: the warning stays from 145 °C on (R492). -/
theorem State.dieReading_of_mild {s : State} (hon : s.converterOn = true) {c : Int}
    (hmild : s.sup.warning = true ∨ clampInt (-32768) 32767 c < 15000) : s.dieReading c =
      s.withDie (clampInt (-32768) 32767 c) (s.sup.warning && decide (14500 ≤ clampInt (-32768) 32767 c)) := by
  refine (if_pos hon).trans ((if_neg ?_).trans rfl)
  obtain hwarm | hlow := hmild
  · rw [hwarm]
    simp
  · rw [decide_eq_false (not_le.mpr hlow)]
    simp

/-- A command that ends with an EMCY while 1001h is not 00h changes the CAN port and what is sent, and enters it where EMCYs are
sent (R432). -/
theorem State.settle_emcy {u : State}
    (h : u.sup.stopCause ≠ 0 ∨ (u.sup.warning || u.sup.shutdown) = true ∨ u.anyFault = true) (code detail : Nat) :
    ∃ c o, (u.emcy code detail).settle = { u with can := c, out := o } ∧
      (u.emcyOn = true → c.errs.head? = some (BitVec.ofNat 32 (code % 65536 + 65536 * (detail % 65536)))) := by
  have herr : (u.emcy code detail).errReg ≠ 0 := by
    refine State.errReg_ne_zero ?_
    rw [State.eq_of_apart (u.apart_emcy code detail)]
    exact h
  refine ⟨{ (u.emcy code detail).can with err := (u.emcy code detail).errReg }, (u.emcy code detail).out, ?_,
    fun hsends => State.emcy_errs hsends code detail⟩
  rw [State.settle_of_stays fun h => herr h.2, State.eq_of_apart (u.apart_emcy code detail)]

/-- The end of a command changes the CAN port and what is sent. -/
theorem State.settle_eq (u : State) : ∃ c o, u.settle = { u with can := c, out := o } :=
  ⟨u.settle.can, u.settle.out, State.eq_of_apart u.apart_settle⟩

/-- R492: a die reading. -/
theorem dieReadingsWarn : Claim.DieReadingsWarn := by
  intro s c hcore hon v
  refine State.reaches_of_run (f := (·.dieReading c)) hcore rfl ?_
  by_cases hbegins : s.sup.warning = false ∧ 15000 ≤ v
  · obtain ⟨hcold, hhot⟩ := hbegins
    have hread : s.begin.dieReading c = (s.begin.warned v).emcy 0x4200 1 := State.dieReading_of_hot (s := s.begin) hon hcold hhot
    rw [hread]
    clear_value v
    obtain ⟨can, out, hends, hsent⟩ := State.settle_emcy (u := s.begin.warned v) (.inr (.inl rfl)) 0x4200 1
    rw [hends]
    refine ⟨rfl, rfl, ⟨fun _ => .inl hhot, fun _ => rfl⟩, fun _ _ => ⟨rfl, hsent⟩, fun hmild => ?_,
      by dsimp only [State.warned, State.withDie, State.event, State.begin]⟩
    exact absurd hmild (by simp [hcold, hhot])
  · have hmild : s.sup.warning = true ∨ v < 15000 := by
      by_cases hw : s.sup.warning = true
      · exact .inl hw
      · exact .inr (by simpa [hw] using hbegins)
    have hread : s.begin.dieReading c = s.begin.withDie v (s.sup.warning && decide (14500 ≤ v)) :=
      State.dieReading_of_mild (s := s.begin) hon hmild
    clear_value v
    rw [hread]
    generalize hwarns : (s.sup.warning && decide (14500 ≤ v)) = warns
    obtain ⟨can, out, hends⟩ := (s.begin.withDie v warns).settle_eq
    rw [hends]
    refine ⟨rfl, rfl, ?_, fun hcold hhot => (hbegins ⟨hcold, hhot⟩).elim, fun _ => rfl, by dsimp only [State.withDie, State.begin]⟩
    simp only [State.withDie, ← hwarns, Bool.and_eq_true, decide_eq_true_eq]
    constructor
    · exact .inr
    · rintro (hhot | hwarm)
      · exact ⟨hmild.resolve_right (not_lt.mpr hhot), le_trans (by decide) hhot⟩
      · exact hwarm

/-- The journal at a shutdown: only itself and the log change, and one request at most stays queued (R382). -/
theorem State.jnShutdown_eq (s : State) : s.jnShutdown = { s with jn := s.jnShutdown.jn, diag := s.jnShutdown.diag } ∧
    s.jnShutdown.jn.queue.length ≤ 1 := by
  unfold State.jnShutdown
  dsimp only
  split
  all_goals
    split
    · exact ⟨rfl, List.length_take_le ..⟩
    · split
      · exact ⟨rfl, Nat.zero_le _⟩
      · exact ⟨rfl, Nat.zero_le _⟩

/-- Generators that run on leave all but themselves (R330). -/
theorem State.gensNow_frame (s : State) : s.gensNow.sup = s.sup ∧ s.gensNow.can = s.can ∧ s.gensNow.live = s.live ∧
    s.gensNow.sameTime s ∧ s.gensNow.sameConfig s := by
  have h := s.gensNow_besideStopped
  simp only [State.besideStopped, State.mk.injEq] at h
  simp only [State.sameTime, State.sameConfig, h, and_self]

/-- Configurations that are the same as a third are the same. -/
theorem State.sameConfig.trans {s u v : State} (h : s.sameConfig u) (h' : u.sameConfig v) : s.sameConfig v := by
  obtain ⟨hactive, hshadow, hlive, hcom, hboot⟩ := h
  obtain ⟨hactive', hshadow', hlive', hcom', hboot'⟩ := h'
  exact ⟨hactive.trans hactive', hshadow.trans hshadow', hlive.trans hlive', hcom.trans hcom', hboot.trans hboot'⟩

/-- R493: a shutdown. -/
theorem thermalShutdownLatches : Claim.ThermalShutdownLatches := by
  refine fun s hcore => ⟨fun hdone => ?_, fun hfree hboot hawake => ?_, fun hfree hboot hsleep => ?_⟩
  · refine State.ends_of_run (f := State.thermalShutdown) hcore rfl (if_pos ?_)
    simp only [Bool.or_eq_true, decide_eq_true_eq]
    exact hdone
  · refine State.reaches_of_run (f := State.thermalShutdown) hcore rfl ?_
    have hbegin : s.begin.thermalShutdown = ({ s.begin.gensNow with
        sup := { s.begin.gensNow.sup with shutdown := true, shutClear := false } } : State).thermalStop := by
      refine (if_neg ?_).trans ((if_neg ?_).trans ?_)
      · simp [State.begin, hfree, hboot]
      · exact hawake
      · exact congrArg (fun u : State => ({ u with sup := { u.sup with shutdown := true, shutClear := false } } : State).thermalStop) (if_neg hawake)
    rw [hbegin]
    set u : State := { s.begin.gensNow with sup := { s.begin.gensNow.sup with shutdown := true, shutClear := false } } with hu
    obtain ⟨hsup, hcan, hlive, hpow, htick, hclk, -, hconfig⟩ := u.stopAll_frame .thermalStop
    have hidle := u.stopAll_idle .thermalStop
    obtain ⟨hopen, hconv, hcal⟩ := u.stopAll_lanes .thermalStop
    have houts (n : Nat) := u.stopAll_outputs .thermalStop (n := n)
    obtain ⟨hjn, hqueue⟩ := (u.stopAll .thermalStop).jnShutdown_eq
    unfold State.thermalStop
    generalize u.stopAll .thermalStop = w at *
    generalize w.jnShutdown = x at *
    obtain ⟨hgsup, hgcan, hglive, ⟨hgtick, hgclk, hgpow⟩, hgconfig⟩ := s.begin.gensNow_frame
    have hsup' : x.sup = u.sup := by rw [hjn, hsup]
    have hcan' : x.can = u.can := by rw [hjn, hcan]
    have hlive' : x.live = u.live := by rw [hjn, hlive]
    have hpow' : x.pow = u.pow := by rw [hjn, hpow]
    have hconfig' : x.sameConfig u := by rwa [hjn]
    set y : State := ({ x with sup := { x.sup with shutdowns := satInc x.sup.shutdowns } } : State).event 0x2e01 2 ({ x.sup with shutdowns := satInc x.sup.shutdowns } : SupplySt).thermal with hy
    have hshut : y.sup.shutdown = true := congrArg SupplySt.shutdown hsup'
    have hpowy : y.pow.state ≠ .standby := by
      show x.pow.state ≠ _
      rw [hpow']
      exact fun h => hawake ((congrArg PowerSt.state hgpow).symm.trans h)
    obtain ⟨can, out, hends, hsent⟩ := State.settle_emcy (u := y) (.inr (.inl (by rw [hshut, Bool.or_true]))) 0x4200 2
    rw [hends]
    refine ⟨hshut, ?_, ?_, ?_, ?_, ?_, ?_, ?_, ?_, hqueue, fun hsends => hsent ?_, ?_, ?_⟩
    · show satInc x.sup.shutdowns = _
      rw [hsup']
      show satInc s.begin.gensNow.sup.shutdowns = _
      rw [hgsup]
      rfl
    · exact if_pos (by rw [hshut, decide_eq_true hpowy]; rfl)
    · exact State.lanesRun_of_stopped (by unfold State.stopped; rw [hshut, decide_eq_true hpowy, Bool.and_true, Bool.or_true])
    · intro n hn hmode
      have hactive : u.active = s.active := hgconfig.1
      show (x.output n).held = 0x8000
      rw [hjn]
      exact (houts n hn (by rwa [State.outMode, State.acfg, hactive])).1
    · show ∀ e ∈ x.sources, _
      rwa [hjn]
    · intro n
      show (x.slot n).Idle
      rw [hjn]
      exact hidle n
    · intro l
      show (x.lane l).conv = none
      rw [hjn]
      exact hconv l
    · show x.cal.run = none
      rwa [hjn]
    · refine (State.emcyOn_congr (s := s) ?_ ?_ ?_ ?_).trans hsends
      · exact hcan'.trans hgcan
      · exact hconfig'.1.trans hgconfig.1
      · exact hlive'.trans hglive
      · exact hpow'.trans hgpow
    · exact State.sameConfig.trans (u := u) hconfig' hgconfig
    · refine ⟨?_, ?_, hpow'.trans hgpow⟩
      · show x.tick = s.tick
        rw [hjn]
        exact htick.trans hgtick
      · show x.clk = s.clk
        rw [hjn]
        exact hclk.trans hgclk
  · refine State.ends_of_run (f := State.thermalShutdown) hcore rfl ((if_neg ?_).trans ?_)
    · simp [State.begin, hfree, hboot]
    · dsimp only
      rw [if_pos (show s.begin.pow.state = .standby from hsleep), if_pos (show s.begin.pow.state = .standby from hsleep)]
      rfl

/-- Settles O58, clause by clause. -/
theorem heatAndSweep : Obligations.HeatAndSweep := ⟨sweepDecidesTheClear, clearsEndTheirStop, dieReadingsWarn, thermalShutdownLatches⟩
end Sys2Proof.Machine
end

section
/-! PROOFS. Verdicts on attempts and the timers of the field lock (R439–R443, R448, R498). -/
namespace Sys2Proof.Machine
open Sys2Proof

/-- The verdict on a verified attempt outside STANDBY, whose record has passed its verification or failed it (R441, R498). -/
theorem State.unlockVerdict_of_verified {s : State} {a : Attempt} (ha : s.lock.attempt = some a) (hverified : a.verified = true)
    (hawake : s.pow.state ≠ .standby) : s.unlockVerdict =
      let s1 := { s with lock := { s.lock with attempt := none, verifyFailed := false } }
      if s.lock.verifyFailed then s1.refusal 0x205 a.port a.subject 0 else s1.judgeAttempt a := by
  unfold State.unlockVerdict
  rw [ha]
  exact if_neg (by simp [hverified, hawake])

/-- R439–R442: verdicts. -/
theorem verdictsUnlockOrBackOff : Claim.VerdictsUnlockOrBackOff := by
  intro s a hcore ha judged state refused
  have hends {u : State} (hu : s.begin.unlockVerdict = u) : Ends .unlockVerdict s u := State.ends_of_run hcore rfl hu
  have hverdict (hverified : a.verified = true) (hawake : s.pow.state ≠ .standby) : s.begin.unlockVerdict =
      if s.lock.verifyFailed then refused judged 0x205 else judged.judgeAttempt a :=
    State.unlockVerdict_of_verified (s := s.begin) ha hverified hawake
  refine ⟨fun hwaits => hends ?_, fun hawake hverified hfailed => hends ?_, fun hawake hverified hpassed haccepts => hends ?_,
    fun hawake hverified hpassed hrejects => hends ?_⟩
  · unfold State.unlockVerdict
    rw [show s.begin.lock.attempt = some a from ha]
    refine if_pos ?_
    obtain hunverified | hsleeps := hwaits
    · rw [hunverified]
      rfl
    · rw [decide_eq_true (show s.begin.pow.state = .standby from hsleeps), Bool.or_true]
  · rw [hverdict hverified hawake, if_pos hfailed]
  · rw [hverdict hverified hawake, if_neg (by simp [hpassed])]
    exact if_pos haccepts
  · rw [hverdict hverified hawake, if_neg (by simp [hpassed])]
    exact if_neg (Bool.eq_false_iff.mp hrejects)

/-- R439, R440: the right secret. -/
theorem secretsAreCompared : Claim.SecretsAreCompared := by
  refine fun s a => ⟨fun hpassword => ?_, fun hresponse => ?_⟩
  · rw [State.accepts, if_neg (by simp [hpassword]), decide_eq_true_eq]
  · rw [State.accepts, if_pos hresponse, decide_eq_true_eq]
    rfl

/-- A command at its cycle meets the field lock of its start. -/
theorem State.at_lock (s : State) (c : Nat) : (s.at c).lock = s.lock := by
  rw [s.at_sameButTriggers c]

/-- R440, R442, R443: the lock's timers. -/
theorem lockTimersRunOut : Claim.LockTimersRunOut := by
  intro s hcore h due
  have hdue (timer : Nat) : s.begin.lockDue timer = due timer := rfl
  have hlock (timer : Nat) : (h timer).lock = s.lock := State.at_lock _ _
  have hstands {timer : Nat} (hno : due timer = false) : ¬ s.begin.lockDue timer = true := Bool.eq_false_iff.mp ((hdue timer).trans hno)
  refine ⟨fun hruns => State.ends_of_run hcore rfl ((if_pos ((hdue _).trans hruns)).trans ?_),
    fun hno => State.ends_of_run hcore rfl (if_neg (hstands hno)),
    fun hruns => State.ends_of_run hcore rfl ((if_pos ((hdue _).trans hruns)).trans ?_),
    fun hno => State.ends_of_run hcore rfl (if_neg (hstands hno)),
    fun hruns hunlocked => State.ends_of_run hcore rfl ((if_pos ?_).trans ?_), fun hkeeps => State.ends_of_run hcore rfl (if_neg ?_)⟩
  · show ({ h s.lock.backOff with lock := { (h s.lock.backOff).lock with backOff := 0 } } : State) = _
    rw [hlock]
  · show ({ h s.lock.chalLeft with lock := { (h s.lock.chalLeft).lock with chal := none, chalLeft := 0 } } : State) = _
    rw [hlock]
  · have hopen : s.lock.state.unlocked = true := by simpa [FieldLock.unlocked] using hunlocked
    show (s.lock.state.unlocked && due s.lock.unlock) = true
    rw [hopen, hruns]
    rfl
  · show ({ h s.lock.unlock with lock := { (h s.lock.unlock).lock with state := .isSealed, unlock := 0, fails := (h s.lock.unlock).lock.fails } } : State).devRecord
      .isSealed (h s.lock.unlock).lock.fails false = _
    rw [hlock]
  · show ¬ (s.lock.state.unlocked && due s.lock.unlock) = true
    obtain hno | hlocked := hkeeps
    · simp [hno]
    · have hshut : s.lock.state.unlocked = false := by
        obtain hlocked | hlocked := hlocked <;> rw [hlocked] <;> rfl
      simp [hshut]

/-- Settles O52, clause by clause. -/
theorem lockVerdictsAndTimers : Obligations.LockVerdictsAndTimers := ⟨verdictsUnlockOrBackOff, secretsAreCompared, lockTimersRunOut⟩
end Sys2Proof.Machine
end

section
/-! PROOFS. The accesses that change the field lock, and device-state records (R371, R438–R443). -/
namespace Sys2Proof.Machine
open Sys2Proof

/-- The first seven checks give the entry that is written (R392). -/
theorem State.formRefusal_entry {idx sub : Nat} {e : Entry} (h : entryOf idx sub = some e) (s : State) (v : Via) (data : List Byte) :
    (s.formRefusal v idx sub data).2 = some e := by
  unfold entryOf at h
  unfold State.formRefusal
  cases hobj : objectAt idx with
  | none => simp [hobj] at h
  | some f =>
    simp only [hobj] at h
    simp only [h]

/-- The requested operation itself passes where a write is refused by no check (R392, check 9). -/
theorem State.ownRefusal_of_admits {s : State} {v : Via} {idx sub : Nat} {data : List Byte} (h : s.admits v idx sub data) :
    (s.heard v).ownRefusal idx sub (leNum data) = 0 := by
  obtain ⟨e, hentry⟩ := State.entryOf_of_admits h
  obtain ⟨-, -, hpass⟩ := h
  generalize s.heard v = u at *
  have hform := State.formRefusal_entry hentry u v data
  unfold State.writeRefusal at hpass
  generalize u.formRefusal v idx sub data = form at *
  obtain ⟨c, e'⟩ := form
  cases hform
  dsimp only at hpass
  have hstate : u.stateRefusal idx sub (leNum data) e = 0 := by
    by_contra hfails
    rw [if_pos hfails] at hpass
    repeat' split at hpass
    all_goals contradiction
  by_contra hown
  unfold State.stateRefusal at hstate
  dsimp only at hstate
  rw [if_pos hown] at hstate
  split at hstate
  · exact absurd hstate (by decide)
  · exact hown hstate

/-- A command at its port meets the field lock of its start. -/
theorem State.heard_lock (s : State) (v : Via) : (s.heard v).lock = s.lock := State.at_lock _ _

/-- A device-state record changes the journal alone (R371). -/
theorem State.devRecord_eq (s : State) (f : FieldLock) (n : Nat) (own : Bool) :
    s.devRecord f n own = { s with jn := (s.devRecord f n own).jn } :=
  State.jnMove_eq _

/-- R371, R443: a device-state record waits. -/
theorem deviceStateRecordWaits : Claim.DeviceStateRecordWaits := by
  intro s f n own t
  obtain ⟨hflash, hqueue, hdev, -⟩ := State.jnMove_kept { s with jn := { s.jn with
    dev := s.jn.dev ++ [{ typ := 4, cls := 0, payload := leBytes 1 f.code ++ [0] ++ leBytes 2 n, own := own }] } }
  exact ⟨s.devRecord_eq f n own, hflash, hqueue, hdev⟩

/-- The entries of the field lock that are written. -/
def lockEntries : List (Nat × Nat) := [(0x2c10, 2), (0x2c10, 3), (0x2c10, 5)]

/-- None of them is a commit entry (R438–R440). -/
theorem apply_of_lockEntries {idx sub : Nat} (hmem : (idx, sub) ∈ lockEntries) {e : Entry} (h : entryOf idx sub = some e) :
    e.apply ≠ .commit := by
  have hall : ∀ p ∈ lockEntries, (entryOf p.1 p.2).all (fun e => e.apply ≠ .commit) = true := by decide
  simpa [h] using hall _ hmem

/-- An admitted write of one of them ends in its live effect (R392–R394). -/
theorem ends_of_lockEntry {i : Instr} {s t : State} {v : Via} {idx sub : Nat} {data : List Byte}
    (hw : writes i = some (v, idx, sub, data)) (hadm : s.admits v idx sub data) (hmem : (idx, sub) ∈ lockEntries)
    (heffect : (s.heard v).liveHigh v idx sub (leNum data) = t) : Ends i s (t.complete v) := by
  have hidx : ∀ p ∈ lockEntries, 0x2600 ≤ p.1 := by decide
  exact ends_of_liveHigh hw hadm (fun e he => apply_of_lockEntries hmem he) (hidx _ hmem) heffect

/-- R438, R443: SEAL and RELOCK. -/
theorem sealAndRelockSeal : Claim.SealAndRelockSeal := by
  intro s v h
  have hlock := s.heard_lock v
  refine ⟨fun hadm => ⟨?_, ends_of_lockEntry rfl hadm (by decide) rfl⟩, fun hadm => ⟨?_, ends_of_lockEntry rfl hadm (by decide) rfl⟩⟩
  · have hown : (s.heard v).lockRefusal 1 = 0 := State.ownRefusal_of_admits hadm
    rw [← hlock]
    by_contra hstate
    exact absurd (hown.symm.trans (if_neg hstate)) (by decide)
  · have hown : (s.heard v).lockRefusal 2 = 0 := State.ownRefusal_of_admits hadm
    have hopen : (s.heard v).lock.state.unlocked = true := by
      by_contra hstate
      exact absurd (hown.symm.trans (if_neg hstate)) (by decide)
    rw [← hlock]
    simpa [FieldLock.unlocked] using hopen

/-- An attempt that is not refused: its state, its secret stored or its challenge drawn, and no back-off (R439–R441). -/
theorem State.of_attemptRefusal {s : State} {response : Bool} (h : s.attemptRefusal response = 0) :
    (if response then s.lock.state = .isSealed ∨ s.lock.state = .unlockedL1 else s.lock.state = .isSealed) ∧
    (if response then s.lock.chal.isSome else s.lock.pwStored) = true ∧ s.lock.backOff = 0 := by
  cases response
  all_goals
    simp only [State.attemptRefusal, Bool.false_eq_true, if_false, if_true, Bool.not_eq_true', decide_eq_false_iff_not] at h ⊢
    split_ifs at h with hstate hhas hback
    exact ⟨hstate, (Bool.not_eq_false _).mp hhas, not_not.mp hback⟩

/-- R439–R441: attempts and challenges. -/
theorem attemptsAreRecordedFirst : Claim.AttemptsAreRecordedFirst := by
  intro s v h wait
  have hlock := s.heard_lock v
  refine ⟨fun x hadm => ?_, fun x hadm => ?_, fun hreached hread => ?_⟩
  · obtain ⟨hstate, hhas, hback⟩ := State.of_attemptRefusal (response := false) (State.ownRefusal_of_admits hadm)
    rw [hlock] at hstate hhas hback
    refine ⟨hstate, hhas, hback, ends_of_lockEntry rfl hadm (by decide) ?_⟩
    rw [leNum_leBytes 4 x.toNat x.isLt]
    rfl
  · obtain ⟨hstate, hhas, hback⟩ := State.of_attemptRefusal (response := true) (State.ownRefusal_of_admits hadm)
    rw [hlock] at hstate hhas hback
    exact ⟨hstate, hhas, hback, ends_of_lockEntry rfl hadm (by decide) rfl⟩
  · obtain ⟨hcore, hserves⟩ := hreached
    refine State.ends_of_run (f := (·.portRead v 0x2c10 4 1 false)) hcore rfl ((if_pos hserves).trans ?_)
    show ((s.heard v).read v 0x2c10 4 1 false (decide (v.port = .n))).2.2 = _
    unfold State.read
    dsimp only
    rw [if_neg (not_not_intro hread)]
    rfl

/-- Settles O22, clause by clause. -/
theorem fieldLockAccesses : Obligations.FieldLockAccesses := ⟨deviceStateRecordWaits, sealAndRelockSeal, attemptsAreRecordedFirst⟩
end Sys2Proof.Machine
end

section
/-! PROOFS. Calibration requests, their abort and the verdict (R349–R353, R356). -/
namespace Sys2Proof.Machine
open Sys2Proof

/-- The request of a calibration is no commit entry (R349). -/
theorem apply_of_calibration {e : Entry} (h : entryOf 0x2a00 1 = some e) : e.apply ≠ .commit := by
  cases h
  exact nofun

/-- An admitted write of 2A00h.01 ends in its live effect (R349–R351). -/
theorem ends_of_calibration {i : Instr} {s t : State} {v : Via} {data : List Byte} (hw : writes i = some (v, 0x2a00, 1, data))
    (hadm : s.admits v 0x2a00 1 data) (heffect : (s.heard v).calRequest (leNum data) = t) : Ends i s (t.complete v) :=
  ends_of_liveHigh hw hadm (fun _ he => apply_of_calibration he) (by decide) heffect

/-- A calibration that is in progress, as it begins (R349, R350, R352). -/
def State.calStarted (s : State) (kind : CalKind) : State :=
  { s with cal := { s.cal with
      run := some kind, slot := s.lcfg 0x2a00 2, lane := s.lcfg 0x2a00 3, expected := BitVec.ofNat 32 (s.lcfg 0x2a00 4)
      window := s.lcfg 0x2a00 5, left := s.lcfg 0x2a00 6, started := false, point := 0, xs := [], cause := 0 } }

/-- A calibration that starts: stopped lanes abort it, an open input rejects a system calibration (R352, R353, log entry 53). -/
theorem State.calStart_eq (s : State) (kind : CalKind) : s.calStart kind =
    if s.lanesRun = false then (s.calStarted kind).verdict .aborted 3
    else if kind ≠ .self ∧ ((s.slot (s.lcfg 0x2a00 2)).absent || s.inputFault (s.lcfg 0x2a00 2)) = true then
      (s.calStarted kind).verdict .isOpen 0
    else s.calStarted kind := by
  unfold State.calStart
  simp only [Bool.not_eq_true']
  rfl

/-- A calibration that starts, by its lanes and its input (R352, R353). -/
theorem State.calStart_cases (s : State) (kind : CalKind) :
    let isOpen := (s.slot (s.lcfg 0x2a00 2)).absent || s.inputFault (s.lcfg 0x2a00 2)
    (s.lanesRun = true → isOpen = false ∨ kind = .self → s.calStart kind = s.calStarted kind) ∧
    (s.lanesRun = false → s.calStart kind = (s.calStarted kind).verdict .aborted 3) ∧
    (s.lanesRun = true → isOpen = true → kind ≠ .self → s.calStart kind = (s.calStarted kind).verdict .isOpen 0) := by
  intro isOpen
  rw [State.calStart_eq]
  refine ⟨fun hrun hsound => ?_, fun hstop => if_pos hstop, fun hrun hopen hkind => ?_⟩
  · rw [if_neg (by simp [hrun]), if_neg]
    rintro ⟨hkind, hopen⟩
    obtain hclosed | hself := hsound
    · exact absurd (hopen.symm.trans hclosed) (by decide)
    · exact hkind hself
  · rw [if_neg (by simp [hrun]), if_pos ⟨hkind, hopen⟩]

/-- A request that has been written (R349). -/
def State.calRequested (s : State) (b : Byte) : State := { s with cal := { s.cal with request := b } }

/-- A request that is written starts as one does, with its lanes and its input those of the request (log entry 53). -/
theorem State.calRequested_cases (s : State) (b : Byte) (kind : CalKind) :
    let isOpen := (s.slot (s.lcfg 0x2a00 2)).absent || s.inputFault (s.lcfg 0x2a00 2)
    (s.lanesRun = true → isOpen = false ∨ kind = .self → (s.calRequested b).calStart kind = (s.calRequested b).calStarted kind) ∧
    (s.lanesRun = false → (s.calRequested b).calStart kind = ((s.calRequested b).calStarted kind).verdict .aborted 3) ∧
    (s.lanesRun = true → isOpen = true → kind ≠ .self →
      (s.calRequested b).calStart kind = ((s.calRequested b).calStarted kind).verdict .isOpen 0) :=
  (s.calRequested b).calStart_cases kind

/-- R349–R353: requests. -/
theorem calibrationRequestsStart : Claim.CalibrationRequestsStart := by
  intro s v h n isOpen started ends
  have hstarted (b : Byte) (kind : CalKind) : started b kind = ((s.heard v).calRequested b).calStarted kind := rfl
  clear_value started
  have hends {i : Instr} {b : Byte} {kind : CalKind} (hw : writes i = some (v, 0x2a00, 1, [b])) (hadm : s.admits v 0x2a00 1 [b])
      (hreq : (s.heard v).calRequest (leNum [b]) = ((s.heard v).calRequested b).calStart kind) : ends i b kind := by
    obtain ⟨hstarts, haborts, hrejects⟩ := (s.heard v).calRequested_cases b kind
    rw [← hstarted] at hstarts haborts hrejects
    refine ⟨fun hrun hsound => ?_, fun hstop => ?_, fun hrun hopen hkind => ?_⟩
    · exact ends_of_calibration hw hadm (hreq.trans (hstarts hrun hsound))
    · exact ends_of_calibration hw hadm (hreq.trans (haborts hstop))
    · exact ends_of_calibration hw hadm (hreq.trans (hrejects hrun hopen hkind))
  exact ⟨fun hadm => hends rfl hadm rfl, fun hadm => hends rfl hadm rfl, fun hadm => hends rfl hadm rfl⟩

/-- An abort is refused where no calibration is in progress (R351). -/
theorem State.calRefusal_of_idle {s : State} (h : s.cal.run.isSome = false) : s.calRefusal 4 = 0x509 := by
  simp [State.calRefusal, h]

/-- R351, R353: the abort. -/
theorem calibrationAbortEndsIt : Claim.CalibrationAbortEndsIt := by
  intro s v hadm h
  refine ⟨?_, ends_of_calibration rfl hadm rfl⟩
  have hown : (s.heard v).calRefusal 4 = 0 := State.ownRefusal_of_admits hadm
  by_contra hidle
  rw [Bool.not_eq_true] at hidle
  rw [State.calRefusal_of_idle hidle] at hown
  exact absurd hown (by decide)

/-- The slot of a system calibration with the result and the kind in its status (R356, log entry 54). -/
def State.verdictSlot (s : State) (x : Verdict) : SlotRt :=
  { s.slot s.cal.slot with calStatus :=
      ((s.slot s.cal.slot).calStatus &&& 0xc0) ||| BitVec.ofNat 8 (x.code + if s.cal.run = some .span then 16 else 0) }

/-- The slots after a verdict (R356). -/
theorem State.verdict_slots (s : State) (x : Verdict) (cause : Nat) : (s.verdict x cause).slots =
    if s.cal.system then (s.setSlot s.cal.slot (s.verdictSlot x)).slots else s.slots := rfl

/-- R356: the verdict. -/
theorem verdictIsWritten : Claim.VerdictIsWritten := by
  intro s x cause t
  refine ⟨rfl, rfl, rfl, rfl, rfl, rfl, fun hsystem => ?_, fun n hn => ?_, rfl, rfl⟩
  · rw [State.slot, State.verdict_slots, if_pos hsystem]
    exact congrArg SlotRt.calStatus (State.slot_setSlot s _ _)
  · rw [State.slot, State.verdict_slots]
    by_cases hsystem : s.cal.system = true
    · rw [if_pos hsystem]
      exact State.slot_setSlot_other s (hn.resolve_right (by simp [hsystem])) _
    · rw [if_neg hsystem]
      rfl

/-- Settles O21, clause by clause. -/
theorem calibrationRequestsTakeEffect : Obligations.CalibrationRequestsTakeEffect :=
  ⟨calibrationRequestsStart, calibrationAbortEndsIt, verdictIsWritten⟩
end Sys2Proof.Machine
end

section
/-! PROOFS. Update events and phase resets (R325, R326, R331, R332). -/
namespace Sys2Proof.Machine
open Sys2Proof

/-- t is s but for output n and generator n. -/
def State.onlyOutput (n : Nat) (t s : State) : Prop :=
  t = { s with gens := t.gens, outs := t.outs } ∧ ∀ k, k ≠ n → t.output k = s.output k ∧ t.gen k = s.gen k

/-- A change of one output leaves every other one and the generators. -/
theorem State.onlyOutput_updOutput (s : State) (n : Nat) (f : OutRt → OutRt) : State.onlyOutput n (s.updOutput n f) s :=
  ⟨rfl, fun _ hk => ⟨s.output_updOutput_other hk f, rfl⟩⟩

/-- A change of one generator leaves every other one and the outputs. -/
theorem State.onlyOutput_updGen (s : State) (n : Nat) (f : GenRt → GenRt) : State.onlyOutput n (s.updGen n f) s :=
  ⟨rfl, fun _ hk => ⟨rfl, tget_tput_other _ _ _ _ _ hk⟩⟩

/-- A state is itself in every output. -/
theorem State.onlyOutput_refl (n : Nat) (s : State) : State.onlyOutput n s s := ⟨rfl, fun _ _ => ⟨rfl, rfl⟩⟩

/-- Changes of one output and its generator in a row are one. -/
theorem State.onlyOutput.trans {n : Nat} {s t u : State} (h : State.onlyOutput n s t) (h' : State.onlyOutput n t u) :
    State.onlyOutput n s u := by
  obtain ⟨hframe, hother⟩ := h
  obtain ⟨hframe', hother'⟩ := h'
  refine ⟨?_, fun k hk => ⟨(hother k hk).1.trans (hother' k hk).1, (hother k hk).2.trans (hother' k hk).2⟩⟩
  rw [hframe'] at hframe
  exact hframe

/-- What a write gives a generator: f and A, and the writes that wait. -/
def GenRt.written (r : GenRt) : Nat × Nat × List (Int × Nat) × List (Int × Nat) := (r.f, r.a, r.fFresh, r.aFresh)

/-- A generator that counts its saturated cycles keeps what was written (R330). -/
theorem GenRt.moveCount_written (shape : Nat) (code : BitVec 16) (k : Nat) (r : GenRt) : (r.moveCount shape code k).written = r.written := by
  induction k generalizing r with
  | zero => rfl
  | succ k ih => exact ih _

/-- A generator that runs on keeps what was written (R328). -/
theorem State.genAdvance_written (s : State) (g c : Nat) : ((s.genAdvance g c).gen g).written = (s.gen g).written := by
  unfold State.genAdvance
  dsimp only
  split
  · rw [State.gen_updGen]
    split
    · exact GenRt.moveCount_written ..
    · rfl
  · rw [State.gen_updGen]
    rfl

/-- A generator that runs on leaves all but itself (R328). -/
theorem State.genAdvance_only (s : State) (g c : Nat) : State.onlyOutput g (s.genAdvance g c) s ∧ (s.genAdvance g c).outs = s.outs := by
  unfold State.genAdvance
  dsimp only
  split
  · exact ⟨s.onlyOutput_updGen g _, rfl⟩
  · exact ⟨s.onlyOutput_updGen g _, rfl⟩

/-- The code kept for a reading is all that changes beside the generator (R319). -/
theorem State.keepSample_only (s : State) (n j : Nat) : State.onlyOutput n (s.keepSample n j) s ∧
    ((s.keepSample n j).gen n).written = (s.gen n).written ∧
    (s.keepSample n j).output n = { s.output n with sampled := ((s.keepSample n j).output n).sampled } := by
  unfold State.keepSample
  dsimp only
  split
  · obtain ⟨honly, houts⟩ := s.genAdvance_only n (formCycle n)
    refine ⟨((s.genAdvance n (formCycle n)).onlyOutput_updOutput n _).trans honly, s.genAdvance_written n _, ?_⟩
    rw [State.output_updOutput]
    have hout : (s.genAdvance n (formCycle n)).output n = s.output n := congrArg (tget _ · n) houts
    rw [hout]
  · exact ⟨State.onlyOutput_refl n s, rfl, rfl⟩

/-- The writes taken at an update event: the last in time, and those left (R326). -/
theorem takeFresh_eq {α : Type} (e : Int) (cur : α) (l : List (Int × α)) : takeFresh e cur l =
    (((l.filter (fun w => inTime e w.1)).map (·.2)).getLastD cur, l.filter (fun w => !inTime e w.1)) := by
  have hlast (l : List (Int × α)) (cur : α) : l.foldl (fun _ w => w.2) cur = (l.map (·.2)).getLastD cur := by
    induction l generalizing cur with
    | nil => rfl
    | cons w l ih => rw [List.foldl_cons, ih, List.map_cons, List.getLastD_cons]
  rw [takeFresh, hlast]

/-- An output whose update event has come: its code and the writes left, where it follows its codes (R324, R326). -/
def OutRt.updated (r : OutRt) (e : Int) (follows : Bool) : OutRt :=
  if follows then { r with
    code := ((r.fresh.filter (fun w => inTime e w.1)).map (·.2)).getLastD r.code
    driven := r.driven || r.fresh.any (fun w => inTime e w.1)
    fresh := r.fresh.filter (fun w => !inTime e w.1) }
  else r

/-- An output follows its codes by what it is and whether the device is stopped. -/
theorem State.outFollows_congr {s t : State} {n : Nat} (hrel : (t.output n).released = (s.output n).released)
    (hfault : (t.output n).fault = (s.output n).fault) (hstop : t.stopped = s.stopped) : t.outFollows n = s.outFollows n := by
  simp only [State.outFollows, hrel, hfault, hstop]

/-- What an update event does to its output and generator (R324, R326, R331). -/
theorem State.updateAt_spec (s : State) (n e : Nat) : State.onlyOutput n (s.updateAt n e) s ∧
    (s.updateAt n e).output n = { (s.output n).updated e (s.outFollows n) with sampled := ((s.updateAt n e).output n).sampled } ∧
    ((s.updateAt n e).gen n).written = 
      ((((s.gen n).fFresh.filter (fun w => inTime e w.1)).map (·.2)).getLastD (s.gen n).f,
       (((s.gen n).aFresh.filter (fun w => inTime e w.1)).map (·.2)).getLastD (s.gen n).a,
       (s.gen n).fFresh.filter (fun w => !inTime e w.1), (s.gen n).aFresh.filter (fun w => !inTime e w.1)) := by
  obtain ⟨hkeep, hkeepGen, hkeepOut⟩ := s.keepSample_only n (e / 2)
  obtain ⟨hadv, hadvOuts⟩ := (s.keepSample n (e / 2)).genAdvance_only n (e / 2)
  have hwritten := ((s.keepSample n (e / 2)).genAdvance_written n (e / 2)).trans hkeepGen
  have honly := hadv.trans hkeep
  have hout : ((s.keepSample n (e / 2)).genAdvance n (e / 2)).output n =
      { s.output n with sampled := ((s.keepSample n (e / 2)).output n).sampled } :=
    (congrArg (tget _ · n) hadvOuts).trans hkeepOut
  unfold State.updateAt
  generalize (s.keepSample n (e / 2)).genAdvance n (e / 2) = u at *
  generalize ((s.keepSample n (e / 2)).output n).sampled = x at *
  have hfollows : u.outFollows n = s.outFollows n := by
    refine State.outFollows_congr ?_ ?_ ?_
    · rw [hout]
    · rw [hout]
    · rw [honly.1]
      rfl
  refine ⟨((State.onlyOutput_updGen _ n _).trans (State.onlyOutput_updOutput _ n _)).trans honly, ?_, ?_⟩
  · have hgen (w : State) (f : GenRt → GenRt) : (w.updGen n f).output n = w.output n := rfl
    simp only [hgen, State.output_updOutput, hout, hfollows, OutRt.updated, takeFresh_eq]
    split <;> rfl
  · simp only [GenRt.written, Prod.mk.injEq] at hwritten
    obtain ⟨hf, ha, hff, haf⟩ := hwritten
    rw [State.gen_updGen]
    have hgen (f : OutRt → OutRt) : (u.updOutput n f).gen n = u.gen n := rfl
    simp only [takeFresh_eq, GenRt.written, hgen, hf, ha, hff, haf]

/-- The code formed for an output turns on its generator and on what the output is, not on what is kept of it (R324, R330). -/
theorem State.formedCode_updOutput (s : State) {n : Nat} {f : OutRt → OutRt} (h : ∀ r, (f r).code = r.code ∧ (f r).released = r.released ∧
    (f r).fault = r.fault ∧ (f r).driven = r.driven) : (s.updOutput n f).formedCode n = s.formedCode n := by
  obtain ⟨hcode, hrel, hfault, hdriven⟩ := h (s.output n)
  have hfollows : (s.updOutput n f).outFollows n = s.outFollows n := by
    refine State.outFollows_congr ?_ ?_ rfl
    · rw [State.output_updOutput, hrel]
    · rw [State.output_updOutput, hfault]
  have hdrives : (s.updOutput n f).outDrives n = s.outDrives n := by
    rw [State.outDrives, hfollows, State.output_updOutput, hdriven]
    rfl
  have hgen : (s.updOutput n f).gen n = s.gen n := rfl
  simp only [State.formedCode, hdrives, State.output_updOutput, hcode, hgen]
  rfl

/-- The code in force that an update event at t0 forms anew (R326). -/
def State.formedAt (s : State) (n e : Nat) : State :=
  if e = 0 then s.updOutput n (fun r => { r with inForce := BitVec.ofInt 16 (s.formedCode n) }) else s

/-- Beside the code in force nothing changes. -/
theorem State.formedAt_spec (s : State) (n e : Nat) : State.onlyOutput n (s.formedAt n e) s ∧ (s.formedAt n e).gen n = s.gen n ∧
    (s.formedAt n e).output n = { s.output n with inForce := ((s.formedAt n e).output n).inForce } ∧
    ((s.formedAt n e).output n).inForce =
      if e = 0 then BitVec.ofInt 16 ((s.formedAt n e).formedCode n) else (s.output n).inForce := by
  unfold State.formedAt
  split
  · have hformed := s.formedCode_updOutput (n := n) (f := fun r => { r with inForce := BitVec.ofInt 16 (s.formedCode n) })
      fun _ => ⟨rfl, rfl, rfl, rfl⟩
    rw [hformed, State.output_updOutput]
    exact ⟨s.onlyOutput_updOutput n _, rfl, rfl, rfl⟩
  · exact ⟨State.onlyOutput_refl n s, rfl, rfl, rfl⟩

/-- The update event of a running tick (R325, R326). -/
theorem State.updateEvent_of_due {s : State} {n : Nat} (hon : s.tick.on = true) (htimer : s.acfg (0x2900 + n) 7 = 1)
    (hdue : s.updateTick n = true) : s.updateEvent n =
      let e := 2 * (s.acfg (0x2900 + n) 8 % (4 * tickN s.active))
      ((s.at e).updateAt n e).formedAt n e :=
  if_pos (by rw [hon, decide_eq_true htimer, hdue]; rfl)

/-- A command at its cycle meets the outputs and generators of its start. -/
theorem State.at_outputs (s : State) (c n : Nat) : (s.at c).output n = s.output n ∧ (s.at c).gen n = s.gen n ∧
    (s.at c).outFollows n = s.outFollows n := by
  rw [s.at_sameButTriggers c]
  exact ⟨rfl, rfl, rfl⟩

/-- R325, R326, R331: timer update events. -/
theorem updateEventAppliesCodesInTime : Claim.UpdateEventAppliesCodesInTime := by
  intro s n hcore hon htimer hdue e h o g
  obtain ⟨hconfig, -⟩ := State.frame_of_sameButTriggers (s.begin.at_sameButTriggers e)
  have hbegin (k : Nat) : h.output k = s.output k ∧ h.gen k = s.gen k ∧ h.outFollows k = s.outFollows k := s.begin.at_outputs e k
  obtain ⟨honly, hout, hwritten⟩ := h.updateAt_spec n.val e
  obtain ⟨honly', hgen', hout', hforce⟩ := (h.updateAt n.val e).formedAt_spec n.val e
  have hevent : s.begin.updateEvent n.val = (h.updateAt n.val e).formedAt n.val e := State.updateEvent_of_due (s := s.begin) hon htimer hdue
  refine State.reaches_of_run (f := (·.updateEvent n.val)) hcore rfl ?_
  rw [hevent]
  replace honly' := honly'.trans honly
  rw [(hbegin n.val).1, (hbegin n.val).2.2] at hout
  rw [(hbegin n.val).2.1, ← hgen'] at hwritten
  generalize (h.updateAt n.val e).formedAt n.val e = v at *
  generalize h.updateAt n.val e = u at *
  obtain ⟨hframe, hother⟩ := honly'
  simp only [GenRt.written, Prod.mk.injEq] at hwritten
  obtain ⟨hf, ha, hff, haf⟩ := hwritten
  obtain ⟨c, emit, hsettle⟩ := v.settle_eq
  rw [hsettle]
  refine ⟨?_, ?_, hf, hff, ha, haf, fun k hk => ?_, ?_, ?_, ?_, ?_⟩
  · show v.output n.val = _
    have hsampled : (v.output n.val).sampled = (u.output n.val).sampled := by rw [hout']
    have hboth := hout'.trans (congrArg (fun r => { r with inForce := (v.output n.val).inForce }) hout)
    rw [← hsampled] at hboth
    refine hboth.trans ?_
    unfold OutRt.updated
    split <;> rfl
  · have hkept : (u.output n.val).inForce = o.inForce := by
      refine (congrArg OutRt.inForce hout).trans ?_
      show (o.updated e (s.outFollows n.val)).inForce = o.inForce
      unfold OutRt.updated
      split <;> rfl
    exact hforce.trans (by rw [hkept]; rfl)
  · obtain ⟨ho, hg⟩ := hother k hk
    exact ⟨ho.trans (hbegin k).1, hg.trans (hbegin k).2.1⟩
  · rw [hframe]
    exact hconfig
  · rw [hframe]
    exact ⟨rfl, rfl, rfl, rfl⟩
  · rw [hframe]
    exact ⟨rfl, rfl, rfl, rfl, rfl, rfl⟩
  · rw [hframe]

/-- Two changes of one generator are one. -/
theorem State.updGen_updGen (s : State) (g : Nat) (f f' : GenRt → GenRt) : (s.updGen g f).updGen g f' = s.updGen g (fun r => f' (f r)) := by
  unfold State.updGen
  rw [show State.gen { s with gens := tput (fun _ => {}) s.gens g (f (s.gen g)) } g = f (s.gen g) from State.gen_updGen s g f, tput_tput]

/-- Changes that do the same to a generator are the same. -/
theorem State.updGen_congr {s : State} {g : Nat} {f f' : GenRt → GenRt} (h : f (s.gen g) = f' (s.gen g)) : s.updGen g f = s.updGen g f' := by
  unfold State.updGen
  rw [h]

/-- A generator that takes P0 at its reset tick t, with repeat interval q (R332). -/
def GenRt.atP0 (p0 : BitVec 32) (q : Nat) (t : TickNo) (r : GenRt) : GenRt :=
  { r with phi := p0, prbs := 0x7fffffff, adv := 0, resets := satInc r.resets, phiB := p0, again := true, armed := decide (q ≠ 0)
           next := t + BitVec.ofNat 32 q }

/-- R332: phase resets. -/
theorem phaseResetTakesP0 : Claim.PhaseResetTakesP0 := by
  intro s g hcore hon hpart harmed q p0 u
  refine ⟨fun hnext => State.ends_of_run (f := (·.phaseReset g.val)) hcore rfl ((if_pos ?_).trans ?_),
    fun hnext => State.ends_of_run (f := (·.phaseReset g.val)) hcore rfl (if_neg ?_)⟩
  · show (s.tick.on && s.tick.part = .prologue && (s.gen g.val).armed && (s.gen g.val).next = s.tick.counter) = true
    simp [hon, hpart, harmed, hnext]
  · have hgen : (s.begin.genStart g.val).updGen g.val (fun r => { r with
        adv := 0, resets := satInc r.resets, again := true, armed := decide (q ≠ 0), next := r.next + BitVec.ofNat 32 q }) =
        s.begin.updGen g.val (GenRt.atP0 p0 q s.tick.counter) := by
      refine (State.updGen_updGen ..).trans (State.updGen_congr ?_)
      show { (s.gen g.val).atP0 p0 q s.tick.counter with next := (s.gen g.val).next + BitVec.ofNat 32 q } = _
      rw [hnext]
      rfl
    exact congrArg (fun x : State => x.updOutput g.val (fun r => { r with inForce := BitVec.ofInt 16 (x.formedCode g.val) })) hgen
  · show ¬ (s.tick.on && s.tick.part = .prologue && (s.gen g.val).armed && (s.gen g.val).next = s.tick.counter) = true
    simp [hnext]

/-- Settles O44, clause by clause. -/
theorem outputEvents : Obligations.OutputEvents := ⟨updateEventAppliesCodesInTime, phaseResetTakesP0⟩
end Sys2Proof.Machine
end

section
/-! PROOFS. Readings of an output and the faults they latch (R334, R335, R343). -/
namespace Sys2Proof.Machine
open Sys2Proof

/-- A run of readings is as long as d where the cause holds at this one and held at the d − 1 before it (R334). -/
theorem run_reaches {x : Bool} {run d : Nat} (hd : 1 ≤ d) : (d ≤ if x then run + 1 else 0) ↔ (x && decide (d ≤ run + 1)) = true := by
  cases x
  · simp; omega
  · simp

/-- R334: causes over D readings. -/
theorem causesHoldOverReadings : Claim.CausesHoldOverReadings := by
  intro r x late d hd y opens compl loads reads
  have hdecided : y.decided d = if opens = true then some 3 else if compl = true then some 2 else if loads = true then some 4
      else if reads = true then some 1 else none := by
    simp only [OutRt.decided, y, OutRt.reading, run_reaches hd]
    rfl
  rw [hdecided]
  refine ⟨fun ho => ?_, fun ho hc => ?_, fun ho hc hl => ?_, fun ho hc hl hr => ?_, fun ho hc hl hr => ?_, fun hlate => ?_⟩
  · rw [if_pos ho]
  · rw [if_neg (by simp [ho]), if_pos hc]
  · rw [if_neg (by simp [ho]), if_neg (by simp [hc]), if_pos hl]
  · rw [if_neg (by simp [ho]), if_neg (by simp [hc]), if_neg (by simp [hl]), if_pos hr]
  · rw [if_neg (by simp [ho]), if_neg (by simp [hc]), if_neg (by simp [hl]), if_neg (by simp [hr])]
  · simp [y, OutRt.reading, hlate, and_assoc]

/-- Whether a reading comes after the clear that waits (R336). -/
def State.lateFor (s : State) (n : Nat) : Bool :=
  match (s.output n).clearReq with
  | some t => decide (t < (readCycle n : Int))
  | none => false

/-- The state with the generator where it formed the code that is read (R334). -/
def State.formedForReading (s : State) (n : Nat) : State :=
  if s.tick.on && (s.output n).sampled.isNone then s.genAdvance n (formCycle n) else s

/-- Forming the code changes generator n alone. -/
theorem State.formedForReading_only (s : State) (n : Nat) :
    State.onlyOutput n (s.formedForReading n) s ∧ (s.formedForReading n).outs = s.outs := by
  unfold State.formedForReading
  split
  · exact s.genAdvance_only n _
  · exact ⟨State.onlyOutput_refl n s, rfl⟩

/-- An output as a reading leaves it (R334). -/
def State.outputRead (s : State) (n : Nat) (v w i vm av : Int) : OutRt :=
  { (s.output n).reading ((s.formedForReading n).judgeOutput n v w i vm av) (s.lateFor n) with
    vRead := clampInt (-0x80000000) 0x7fffffff v
    iRead := if s.outCurrent n then clampInt (-0x80000000) 0x7fffffff i else (s.output n).iRead }

/-- Changes that do the same to an output are the same. -/
theorem State.updOutput_congr {s : State} {n : Nat} {f f' : OutRt → OutRt} (h : f (s.output n) = f' (s.output n)) :
    s.updOutput n f = s.updOutput n f' := by
  unfold State.updOutput
  rw [h]

/-- A reading that is kept, judged: a cause decided over d readings latches a fault where none is latched (R334, R335). -/
def State.readingJudged (s : State) (n d : Nat) (latched : Bool) : State :=
  match (s.output n).decided d, latched with
  | some c, false => s.outFault n c
  | _, _ => s

/-- The reading of an output that drives: kept, and judged (R334, R335). -/
theorem State.outputReading_of_driven {s : State} {n : Nat} (hon : s.converterOn = true) (hmode : s.outMode n ≠ 0) (v w i vm av : Int) :
    s.outputReading n v w i vm av =
      ((s.formedForReading n).updOutput n (fun _ => s.outputRead n v w i vm av)).readingJudged n (s.acfg 0x2920 2) (s.output n).fault := by
  have hout : (s.formedForReading n).output n = s.output n := congrArg (tget _ · n) (s.formedForReading_only n).2
  have hread : (s.formedForReading n).updOutput n (fun r => { r.reading ((s.formedForReading n).judgeOutput n v w i vm av) (s.lateFor n) with
      vRead := clampInt (-0x80000000) 0x7fffffff v
      iRead := if s.outCurrent n then clampInt (-0x80000000) 0x7fffffff i else r.iRead }) =
      (s.formedForReading n).updOutput n (fun _ => s.outputRead n v w i vm av) :=
    State.updOutput_congr (by rw [hout]; rfl)
  exact (if_pos hon).trans ((if_neg hmode).trans (congrArg (fun u : State => u.readingJudged n (s.acfg 0x2920 2) (s.output n).fault) hread))

/-- An entry that does not read as an unlisted one is listed. -/
theorem mem_of_tget_ne {α : Type} {d : Nat → α} {t : Tbl α} {k : Nat} (h : tget d t k ≠ d k) : (k, tget d t k) ∈ t := by
  induction t with
  | nil => exact absurd rfl h
  | cons e t ih =>
    unfold tget at h ⊢
    split
    next hk => exact hk ▸ List.mem_cons_self
    next hk =>
      rw [if_neg hk] at h
      exact List.mem_cons_of_mem _ (ih h)

/-- A latched output fault is a fault of the device (R432). -/
theorem State.anyFault_of_output {s : State} {n : Nat} (h : (s.output n).fault = true) : s.anyFault = true := by
  have hmem : (n, s.output n) ∈ s.outs := mem_of_tget_ne fun hdflt => by
    rw [State.output, hdflt] at h
    exact absurd h (by decide)
  have hany : s.outs.any (fun e => e.2.fault) = true := List.any_eq_true.mpr ⟨_, hmem, h⟩
  simp only [State.anyFault, hany, Bool.or_true, Bool.true_or]

/-- An output at the moment its fault is latched (R335). -/
def OutRt.faultLatched (r : OutRt) (c : Nat) : OutRt :=
  { r.mid with fault := true, cause := BitVec.ofNat 8 c, faults := satInc r.faults, clearReq := none, clearOk := false }

/-- The state in which output n has latched its fault, before it is reported (R335). -/
def State.latchOutput (s : State) (n c : Nat) : State :=
  (if s.tick.on then s.genAdvance n ((3 + n) * 24576 / 1000) else s).updOutput n (fun r => r.faultLatched c)

/-- A fault that is latched, pending and reported (R335). -/
theorem State.outFault_eq (s : State) (n c : Nat) : s.outFault n c =
    (({ s.latchOutput n c with outPend := (s.latchOutput n c).outPend ||| BitVec.ofNat 4 (2 ^ n) } : State).event
      (0x2900 + n) 11 c).emcy 0xff02 n := rfl

/-- Latching a fault changes its output and its generator alone. -/
theorem State.latchOutput_spec (s : State) (n c : Nat) : State.onlyOutput n (s.latchOutput n c) s ∧
    (s.latchOutput n c).output n = (s.output n).faultLatched c := by
  unfold State.latchOutput
  rw [State.output_updOutput]
  split
  · obtain ⟨honly, houts⟩ := s.genAdvance_only n ((3 + n) * 24576 / 1000)
    refine ⟨(State.onlyOutput_updOutput _ n _).trans honly, congrArg (OutRt.faultLatched · c) ?_⟩
    exact congrArg (tget _ · n) houts
  · exact ⟨s.onlyOutput_updOutput n _, rfl⟩

/-- R334, R335, R343: readings. -/
theorem readingsLatchFaults : Claim.ReadingsLatchFaults := by
  intro s n v w i vm av hcore hon o late clamp s1 x r
  have hread (hmode : s.outMode n.val ≠ 0) : s.begin.outputReading n.val v w i vm av =
      (s1.updOutput n.val (fun _ => r)).readingJudged n.val (s.acfg 0x2920 2) o.fault :=
    State.outputReading_of_driven (s := s.begin) hon hmode v w i vm av
  obtain ⟨honly, -⟩ : State.onlyOutput n.val s1 s.begin ∧ s1.outs = s.begin.outs := s.begin.formedForReading_only n.val
  refine ⟨fun hmode => ?_, fun hmode hkept => ?_, fun c hmode hfree hdecided => ?_⟩
  · exact State.ends_of_run (f := (·.outputReading n.val v w i vm av)) hcore rfl ((if_pos hon).trans (if_pos hmode))
  · refine State.ends_of_run (f := (·.outputReading n.val v w i vm av)) hcore rfl ((hread hmode).trans ?_)
    unfold State.readingJudged
    rw [State.output_updOutput]
    obtain hlatched | hnone := hkept
    · rw [hlatched]
      cases r.decided (s.acfg 0x2920 2) <;> rfl
    · rw [hnone]
  · refine State.reaches_of_run (f := (·.outputReading n.val v w i vm av)) hcore rfl ?_
    rw [hread hmode]
    have hfault : (s1.updOutput n.val (fun _ => r)).readingJudged n.val (s.acfg 0x2920 2) o.fault =
        (s1.updOutput n.val (fun _ => r)).outFault n.val c := by
      unfold State.readingJudged
      rw [State.output_updOutput, hdecided, hfree]
    obtain ⟨honly', hout⟩ := (s1.updOutput n.val (fun _ => r)).latchOutput_spec n.val c
    replace honly' := honly'.trans ((State.onlyOutput_updOutput _ n.val _).trans honly)
    rw [State.output_updOutput] at hout
    rw [hfault, State.outFault_eq]
    generalize (s1.updOutput n.val (fun _ => r)).latchOutput n.val c = u at *
    obtain ⟨hframe, hother⟩ := honly'
    set y : State := ({ u with outPend := u.outPend ||| BitVec.ofNat 4 (2 ^ n.val) } : State).event (0x2900 + n.val) 11 c with hy
    have hany : y.anyFault = true := State.anyFault_of_output (n := n.val) (by
      show (u.output n.val).fault = true
      rw [hout]
      rfl)
    obtain ⟨can, out, hends, hsent⟩ := State.settle_emcy (u := y) (.inr (.inr hany)) 0xff02 n.val
    rw [hends]
    refine ⟨hout, ?_, ?_, ?_, ?_, fun hsends => ?_, hother, ?_, ?_, ?_, ?_⟩
    · show (u.output n.val).code = 0x8000
      rw [hout]
      rfl
    · show (u.output n.val).released = false
      rw [hout]
      rfl
    · show u.outPend ||| _ = _
      rw [hframe]
      rfl
    · show (u.diag.event u.tick.counter (0x2900 + n.val) 11 c).events = _
      rw [hframe]
      rfl
    · have hon' : y.emcyOn = true := by
        refine (State.emcyOn_congr (s := s) ?_ ?_ ?_ ?_).trans hsends
        · show u.can = s.can
          rw [hframe]
          rfl
        · show u.active = s.active
          rw [hframe]
          rfl
        · show u.live = s.live
          rw [hframe]
          rfl
        · show u.pow = s.pow
          rw [hframe]
          rfl
      rw [hsent hon', Nat.mod_eq_of_lt (show n.val < 65536 by omega)]
    · show u.sameConfig s
      rw [hframe]
      exact ⟨rfl, rfl, rfl, rfl, rfl⟩
    · show u.sameResults s
      rw [hframe]
      exact ⟨rfl, rfl, rfl, rfl⟩
    · show u.sameLanes s
      rw [hframe]
      exact ⟨rfl, rfl, rfl, rfl, rfl, rfl⟩
    · show u.sameTime s
      rw [hframe]
      exact ⟨rfl, rfl, rfl⟩

/-- Settles O45, clause by clause. -/
theorem outputReadingsAreJudged : Obligations.OutputReadingsAreJudged := ⟨causesHoldOverReadings, readingsLatchFaults⟩
end Sys2Proof.Machine
end

section
/-! PROOFS. Comparator edges, monitor outputs and readbacks (R301–R311). -/
namespace Sys2Proof.Machine
open Sys2Proof

/-- The code in effect turns on the comparator output and the codes of the monitor (R302). -/
theorem State.thresholdCode_congr {s t : State} {m : Nat} (hcomp : (t.monitor m).comp = (s.monitor m).comp) (hlive : t.live = s.live)
    (hactive : t.active = s.active) (high : Bool) : t.thresholdCode m high = s.thresholdCode m high := by
  unfold State.thresholdCode State.lcfg State.acfg
  rw [hcomp, hlive, hactive]

/-- The state but for its capture registers. -/
def State.besideCaps (s : State) : State := { s with caps := [] }

/-- A capture register that takes an edge changes itself (R309). -/
theorem State.captureEdge_besideCaps (m : Nat) (a : Bool) (c : Nat) (s : State) (k : Nat) :
    (s.captureEdge m a c k).besideCaps = s.besideCaps := by
  unfold State.captureEdge
  dsimp only
  generalize (if a = true then s.acfg 0x2811 (1 + k) / 16 % 2 else s.acfg 0x2811 (1 + k) / 32 % 2) = sel
  split <;> rfl

/-- The edge that capture registers take changes them alone (R309). -/
theorem captures_eq (m : Nat) (a : Bool) (c : Nat) (l : List Nat) (s : State) :
    l.foldl (State.captureEdge m a c) s = { s with caps := (l.foldl (State.captureEdge m a c) s).caps } :=
  congrArg (fun u : State => { u with caps := (l.foldl (State.captureEdge m a c) s).caps })
    (foldl_keeps State.besideCaps (State.captureEdge m a c) (fun u k => u.captureEdge_besideCaps m a c k) l s)

/-- A monitor whose comparator output takes a state at an edge (R303): `lo` and `hi` say which DACs keep their codes. -/
def MonRt.edged (r : MonRt) (a : Bool) (t : TickNo) (c : Nat) (lo hi : Prop) [Decidable lo] [Decidable hi] : MonRt :=
  { r with comp := a, edge := (t, c), since := (c : Int), loAt := if lo then r.loAt else (c : Int), hiAt := if hi then r.hiAt else (c : Int) }

/-- A change of a monitor that sets its comparator output alike leaves the same codes in effect. -/
theorem State.thresholdCode_updMonitor {s : State} {m : Nat} {f g : MonRt → MonRt} (h : (f (s.monitor m)).comp = (g (s.monitor m)).comp)
    (high : Bool) : (s.updMonitor m f).thresholdCode m high = (s.updMonitor m g).thresholdCode m high := by
  have hcomp : ((s.updMonitor m f).monitor m).comp = ((s.updMonitor m g).monitor m).comp := by
    rw [State.monitor_updMonitor, State.monitor_updMonitor, h]
  exact State.thresholdCode_congr hcomp rfl rfl high

/-- A change of a monitor that keeps its comparator output keeps its codes in effect. -/
theorem State.thresholdCode_updMonitor_same {s : State} {m : Nat} {f : MonRt → MonRt} (h : (f (s.monitor m)).comp = (s.monitor m).comp)
    (high : Bool) : (s.updMonitor m f).thresholdCode m high = s.thresholdCode m high := by
  have hcomp : ((s.updMonitor m f).monitor m).comp = (s.monitor m).comp := by rw [State.monitor_updMonitor, h]
  exact State.thresholdCode_congr hcomp rfl rfl high

/-- The comparator output of a monitor at its edge, its DACs with it, before capture registers take it (R302, R303). -/
def State.edgeStamped (s : State) (m : Nat) (a : Bool) (c : Nat) : State :=
  (s.updMonitor m (fun r => { r with comp := a, edge := (s.tick.counter, c), since := (c : Int) })).dacsMoved m (s.codes m) c

/-- The stamp of an edge changes its monitor alone. -/
theorem State.edgeStamped_spec (s : State) (m : Nat) (a : Bool) (c : Nat) :
    let moved := s.updMonitor m (fun r => { r with comp := a })
    s.edgeStamped m a c = { s with mons := (s.edgeStamped m a c).mons } ∧
    (s.edgeStamped m a c).monitor m = (s.monitor m).edged a s.tick.counter c
      (moved.thresholdCode m false = s.thresholdCode m false) (moved.thresholdCode m true = s.thresholdCode m true) ∧
    ∀ q, q ≠ m → (s.edgeStamped m a c).monitor q = s.monitor q := by
  intro moved
  have hcode (high : Bool) :
      (s.updMonitor m (fun r => { r with comp := a, edge := (s.tick.counter, c), since := (c : Int) })).thresholdCode m high =
        moved.thresholdCode m high := State.thresholdCode_updMonitor (by rfl) high
  refine ⟨rfl, ?_, fun q hq => ?_⟩
  · unfold State.edgeStamped State.dacsMoved
    dsimp only
    rw [State.monitor_updMonitor, State.monitor_updMonitor]
    simp only [State.codes, hcode]
    rfl
  · unfold State.edgeStamped State.dacsMoved
    dsimp only
    rw [State.monitor_updMonitor_other _ hq, State.monitor_updMonitor_other _ hq]

/-- An edge of a comparator output is its stamp and what the capture registers take of it (R303, R309). -/
theorem State.compEdge_of_moved {s : State} {m : Nat} {a : Bool} (h : (s.monitor m).comp ≠ a) (c : Nat) :
    s.compEdge m a c = { s.edgeStamped m a c with caps := (s.compEdge m a c).caps } := by
  have hedge : s.compEdge m a c =
      if s.samplerOn then (List.range 8).foldl (State.captureEdge m a c) (s.edgeStamped m a c) else s.edgeStamped m a c := if_neg h
  rw [hedge]
  split
  · rw [captures_eq]
  · rfl

/-- The edge of a comparator that has taken a state (R302, R303, R309). -/
theorem State.compEdge_of_analog {s : State} {m : Nat} {on : Bool} (h : (s.monitor m).comp ≠ on) (c : Nat) :
    let moved := s.updMonitor m (fun r => { r with comp := on })
    let t := (s.updMonitor m (fun r => { r with analog := on })).compEdge m on c
    (∃ mons caps, t = { s with mons := mons, caps := caps }) ∧
    t.monitor m = ({ s.monitor m with analog := on } : MonRt).edged on s.tick.counter c
      (moved.thresholdCode m false = s.thresholdCode m false) (moved.thresholdCode m true = s.thresholdCode m true) ∧
    ∀ q, q ≠ m → t.monitor q = s.monitor q := by
  intro moved t
  have hcomp : ((s.updMonitor m (fun r => { r with analog := on })).monitor m).comp ≠ on := by
    rw [State.monitor_updMonitor]
    exact h
  have hcaps := State.compEdge_of_moved hcomp c
  obtain ⟨hframe, hedge, hother⟩ := (s.updMonitor m (fun r => { r with analog := on })).edgeStamped_spec m on c
  have hwas (high : Bool) : (s.updMonitor m (fun r => { r with analog := on })).thresholdCode m high = s.thresholdCode m high :=
    State.thresholdCode_updMonitor_same (by rfl) high
  have hmoved (high : Bool) : ((s.updMonitor m (fun r => { r with analog := on })).updMonitor m (fun r => { r with comp := on })).thresholdCode
      m high = moved.thresholdCode m high := by
    have hset : (moved.monitor m).comp = on := congrArg MonRt.comp (State.monitor_updMonitor s m (fun r => { r with comp := on }))
    have hcomp : (((s.updMonitor m (fun r => { r with analog := on })).updMonitor m (fun r => { r with comp := on })).monitor m).comp =
        (moved.monitor m).comp := by
      rw [State.monitor_updMonitor, hset]
    exact State.thresholdCode_congr hcomp rfl rfl high
  simp only [hwas, hmoved, State.monitor_updMonitor] at hedge
  have hmonitor (q : Nat) : t.monitor q = ((s.updMonitor m (fun r => { r with analog := on })).edgeStamped m on c).monitor q := by
    simp only [t]
    rw [hcaps]
    rfl
  refine ⟨⟨((s.updMonitor m (fun r => { r with analog := on })).edgeStamped m on c).mons, t.caps, hcaps.trans ?_⟩,
    (hmonitor m).trans hedge, fun q hq => (hmonitor q).trans ((hother q hq).trans (State.monitor_updMonitor_other s hq _))⟩
  rw [hframe]
  rfl

/-- A command at its cycle meets the monitors of its start. -/
theorem State.at_monitors (s : State) (c : Nat) : (s.at c).mons = s.mons ∧ (s.at c).mon = s.mon ∧ (s.at c).caps = s.caps ∧
    (s.at c).tick.counter = s.tick.counter ∧ (s.at c).tick.on = s.tick.on ∧ (s.at c).live = s.live ∧ (s.at c).rings = s.rings ∧ (s.at c).sameConfig s := by
  rw [s.at_sameButTriggers c]
  exact ⟨rfl, rfl, rfl, rfl, rfl, rfl, rfl, rfl, rfl, rfl, rfl, rfl⟩

/-- Whether a monitor is powered and sampled does not turn on the cycle of a command. -/
theorem State.at_powered (s : State) (c m : Nat) : (s.at c).monitorOn m = s.monitorOn m ∧ (s.at c).samplerOn = s.samplerOn ∧
    (∀ k, (s.at c).routed k m = s.routed k m) ∧ (∀ high, (s.at c).thresholdCode m high = s.thresholdCode m high) := by
  rw [s.at_sameButTriggers c]
  exact ⟨rfl, rfl, fun _ => rfl, fun _ => rfl⟩

/-- R301–R304, R309: comparator edges. -/
theorem comparatorEdgesAreStamped : Claim.ComparatorEdgesAreStamped := by
  intro s m v vref cyc hcore hon h on r moved
  obtain ⟨hmons, hmon, hcaps, hcounter, -, hlive, hrings, hconfig⟩ := s.begin.at_monitors cyc
  obtain ⟨hpowered, -, -, hcodes⟩ := s.begin.at_powered cyc m.val
  have hmonitor (q : Nat) : h.monitor q = s.monitor q := congrArg (tget _ · q) hmons
  have hevent : s.begin.comparatorEdge m.val v vref cyc = if (h.monitorOn m.val && !h.monHeld m.val cyc) = true then
      (if (h.monitor m.val).faulted = true then h.updMonitor m.val (fun r => { r with analog := on })
        else (h.updMonitor m.val (fun r => { r with analog := on })).compEdge m.val on cyc) else h := rfl
  have hon' : h.monitorOn m.val = true := hpowered.trans hon
  refine ⟨fun hheld => ?_, fun hfree hstays => ?_, fun hfree hsound hmoves => ?_⟩
  · refine State.ends_of_run (f := (·.comparatorEdge m.val v vref cyc)) hcore rfl (hevent.trans (if_neg ?_))
    simp [hheld]
  · refine State.ends_of_run (f := (·.comparatorEdge m.val v vref cyc)) hcore rfl (hevent.trans ((if_pos ?_).trans ?_))
    · simp [hon', hfree]
    · rw [hmonitor]
      split
      · rfl
      next hsound =>
        refine if_pos ?_
        rw [State.monitor_updMonitor, hmonitor]
        exact hstays.resolve_left hsound
  · refine State.reaches_of_run (f := (·.comparatorEdge m.val v vref cyc)) hcore rfl ?_
    have hboth : s.begin.comparatorEdge m.val v vref cyc = (h.updMonitor m.val (fun r => { r with analog := on })).compEdge m.val on cyc := by
      have hsound' : ¬ (h.monitor m.val).faulted = true := by
        rw [hmonitor]
        exact Bool.eq_false_iff.mp hsound
      rw [hevent, if_pos (by simp [hon', hfree]), if_neg hsound']
    have hmoved (high : Bool) : (h.updMonitor m.val (fun r => { r with comp := on })).thresholdCode m.val high = moved.thresholdCode m.val high := by
      have hcomp : ((h.updMonitor m.val (fun r => { r with comp := on })).monitor m.val).comp = (moved.monitor m.val).comp := by
        have hset : (moved.monitor m.val).comp = on := congrArg MonRt.comp (State.monitor_updMonitor s m.val (fun r => { r with comp := on }))
        rw [State.monitor_updMonitor, hset]
      exact State.thresholdCode_congr hcomp hlive hconfig.1 high
    obtain ⟨⟨mons, caps, hframe⟩, hedge, hother⟩ := h.compEdge_of_analog (m := m.val) (on := on) (by rw [hmonitor]; exact hmoves) cyc
    have hstamp : h.tick.counter = s.tick.counter := hcounter
    have hwas (high : Bool) : h.thresholdCode m.val high = s.thresholdCode m.val high := hcodes high
    simp only [hmonitor, hstamp, hwas, hmoved] at hedge hother
    rw [hboth]
    generalize (h.updMonitor m.val (fun r => { r with analog := on })).compEdge m.val on cyc = w at *
    obtain ⟨can, out, hends⟩ := w.settle_eq
    rw [hends]
    have hsame : h.sameConfig s ∧ h.mon = s.mon := ⟨hconfig, hmon⟩
    clear_value h
    obtain ⟨hconfig', hmon'⟩ := hsame
    refine ⟨hedge, hother, ?_⟩
    rw [hframe]
    exact ⟨hconfig', ⟨rfl, rfl, rfl, rfl⟩, ⟨rfl, rfl, rfl, rfl, rfl, rfl⟩, rfl, hmon'⟩

/-- The state but for monitors, the counts and records of monitor events, and the latches of the tick, which an output change may
change (R305–R308). -/
def State.besideMonitors (s : State) : State := { s with mons := [], mon := {}, tick := { s.tick with latches := [], hist := [] }, formed := [] }

/-- States that agree beside monitors. -/
theorem State.eq_of_besideMonitors {s u : State} (h : s.besideMonitors = u.besideMonitors) : ∃ mons mon latches hist formed,
    s = { u with mons := mons, mon := mon, tick := { u.tick with latches := latches, hist := hist }, formed := formed } :=
  ⟨s.mons, s.mon, s.tick.latches, s.tick.hist, s.formed, congrArg (fun x : State => { x with
    mons := s.mons, mon := s.mon, tick := { x.tick with latches := s.tick.latches, hist := s.tick.hist }, formed := s.formed }) h⟩

/-- An event record of a monitor leaves the monitors and what is pending (R308). -/
theorem State.monEvent_spec (s : State) (m code : Nat) (value : BitVec 32) (t : TickNo) :
    (s.monEvent m code value t).besideMonitors = s.besideMonitors ∧ (s.monEvent m code value t).mons = s.mons ∧
    (s.monEvent m code value t).mon.pending = s.mon.pending := by
  have htick : (s.tick.takeMonitor t).2 = { s.tick with hist := (s.tick.takeMonitor t).2.hist } := by
    unfold TickSt.takeMonitor
    split
    · split <;> rfl
    · rfl
  unfold State.monEvent
  dsimp only
  split
  · exact ⟨rfl, rfl, rfl⟩
  · split
    · exact ⟨rfl, rfl, rfl⟩
    · split
      · refine ⟨?_, rfl, rfl⟩
        unfold State.besideMonitors
        rw [htick]
      · exact ⟨rfl, rfl, rfl⟩

/-- Events that will latch are among the latches of the tick (R53). -/
theorem State.mem_willLatch {s : State} {k : Nat} {codes : List Nat} (h : k ∈ codes) (c : Nat) : (c, k) ∈ (s.willLatch codes c).tick.latches :=
  List.mem_append_left _ (List.mem_append_right _ (List.mem_map_of_mem h))

/-- A monitor whose output takes a state (R305, R307). -/
def MonRt.output (r : MonRt) (a : Bool) : MonRt := { r with out := a, asserts := if a then satInc r.asserts else r.asserts }

/-- What an output change does (R305–R307). -/
theorem State.monOutput_spec {s : State} {m : Nat} {a : Bool} (h : (s.monitor m).out ≠ a) (value : BitVec 32) (t : TickNo) (c : Nat) :
    (s.monOutput m a value t c).besideMonitors = s.besideMonitors ∧
    (s.monOutput m a value t c).mons = (s.updMonitor m (MonRt.output · a)).mons ∧
    (s.monOutput m a value t c).mon.pending = (if a then s.mon.pending ||| BitVec.ofNat 32 (2 ^ m) else s.mon.pending) ∧
    (a = true → s.routed 8 m = true → s.tick.on = true → (c + 3, 0x10 + m) ∈ (s.monOutput m a value t c).tick.latches) := by
  unfold State.monOutput
  rw [if_neg h]
  cases a with
  | false =>
    obtain ⟨hbeside, hmons, hpend⟩ := (s.updMonitor m (MonRt.output · false)).monEvent_spec m 0x41 value t
    exact ⟨hbeside, hmons, hpend, nofun⟩
  | true =>
    obtain ⟨hbeside, hmons, hpend⟩ := ((s.updMonitor m (MonRt.output · true)).monPend m).monEvent_spec m 0x40 value t
    dsimp only
    rw [if_pos rfl]
    split
    next hroute =>
      exact ⟨hbeside, hmons, hpend, fun _ _ _ => State.mem_willLatch List.mem_cons_self _⟩
    next hroute =>
      exact ⟨hbeside, hmons, hpend, fun _ hrouted hon => absurd (by rw [hrouted, hon]; rfl) hroute⟩

/-- R305–R307: output changes. -/
theorem monitorOutputFollows : Claim.MonitorOutputFollows := by
  intro s m a cyc hcore hon hsampled h r stable
  obtain ⟨hmons, hmon, hcaps, hcounter, hon', hlive, hrings, hconfig⟩ := s.begin.at_monitors cyc
  obtain ⟨hpowered, hsampler, hrouted, -⟩ := s.begin.at_powered cyc m.val
  have hmonitor (q : Nat) : h.monitor q = s.monitor q := congrArg (tget _ · q) hmons
  have hevent : s.begin.monitorChange m.val a cyc = if (h.monitorOn m.val && h.samplerOn && !(h.monitor m.val).faulted &&
      (h.monitor m.val).comp = a && decide ((h.monitor m.val).since + 3 + h.acfg (0x2800 + m.val) 7 ≤ (cyc : Int))) = true then
      h.monOutput m.val a (BitVec.ofNat 32 (h.monitor m.val).edge.2) (h.monitor m.val).edge.1 cyc else h := rfl
  have hstable : decide ((h.monitor m.val).since + 3 + h.acfg (0x2800 + m.val) 7 ≤ (cyc : Int)) = stable := by
    rw [hmonitor, State.acfg, hconfig.1]
    rfl
  rw [hstable, show h.monitorOn m.val = true from hpowered.trans hon, show h.samplerOn = true from hsampler.trans hsampled, hmonitor] at hevent
  refine ⟨fun hsound hcomp hout hstay => ?_, fun hblocked => ?_⟩
  · refine State.reaches_of_run (f := (·.monitorChange m.val a cyc)) hcore rfl ?_
    obtain ⟨hbeside, hmons', hpend, hlatch⟩ := State.monOutput_spec (s := h) (m := m.val) (a := a) (by rw [hmonitor]; exact hout)
      (BitVec.ofNat 32 (s.monitor m.val).edge.2) (s.monitor m.val).edge.1 cyc
    rw [hevent, if_pos (by simp [r] at hsound hcomp; simp [hsound, hcomp, hstay])]
    generalize h.monOutput m.val a (BitVec.ofNat 32 (s.monitor m.val).edge.2) (s.monitor m.val).edge.1 cyc = w at *
    obtain ⟨can, out, hends⟩ := w.settle_eq
    rw [hends]
    have hmonitor' (q : Nat) : w.monitor q = (h.updMonitor m.val (MonRt.output · a)).monitor q := congrArg (tget _ · q) hmons'
    refine ⟨?_, fun q hq => ?_, ?_, fun ha hroute htick => ?_, ?_⟩
    · refine (hmonitor' m.val).trans ((State.monitor_updMonitor h m.val _).trans ?_)
      rw [hmonitor]
      rfl
    · exact (hmonitor' q).trans ((h.monitor_updMonitor_other hq _).trans (hmonitor q))
    · rw [show h.mon = s.mon from hmon] at hpend
      exact hpend
    · exact hlatch ha ((hrouted 8).trans hroute) (hon'.trans htick)
    · obtain ⟨mons, mon, latches, hist, formed, hframe⟩ := State.eq_of_besideMonitors hbeside
      have hsame : h.sameConfig s ∧ h.rings = s.rings ∧ h.caps = s.caps := ⟨hconfig, hrings, hcaps⟩
      clear_value h
      obtain ⟨hconfig', hrings', hcaps'⟩ := hsame
      rw [hframe]
      exact ⟨hconfig', hrings', hcaps', rfl, rfl, rfl, rfl, rfl, rfl⟩
  · refine State.ends_of_run (f := (·.monitorChange m.val a cyc)) hcore rfl (hevent.trans ?_)
    obtain hfaulted | hcomp | hsame | hearly := hblocked
    · exact if_neg (by simp [show (s.monitor m.val).faulted = true from hfaulted])
    · exact if_neg (by simp [show (s.monitor m.val).comp ≠ a from hcomp])
    · have hkeeps (value : BitVec 32) (t : TickNo) : h.monOutput m.val a value t cyc = h := if_pos (by rw [hmonitor]; exact hsame)
      rw [hkeeps]
      exact ite_self h
    · exact if_neg (by simp [hearly])

/-- The state but for what a monitor fault changes: monitors with their captures, counts and records, and the report (R310). -/
def State.besideFault (s : State) : State := { s.besideMonitors with caps := [], diag := {}, can := {}, out := [] }

/-- A monitor at the moment its fault is latched (R310). -/
def MonRt.latched (r : MonRt) (high : Bool) : MonRt :=
  { r with faulted := true, cause := if high then 2 else 1, faults := satInc r.faults, clearReq := false, keptComp := r.comp, keptOut := r.out }

/-- A monitor fault that is latched, pending and reported, before it forces the outputs (R310). -/
def State.faultLatched (s : State) (m : Nat) (high : Bool) (diff : Int) : State :=
  ((((s.updMonitor m (MonRt.latched · high)).monPend (16 + m)).monEvent m 0x42 (BitVec.ofInt 32 diff) s.tick.counter).event (0x2800 + m) 10 (if high then 2 else 1 : BitVec 8).toNat).emcy 0xff03 m

/-- A monitor fault forces the outputs last (R310, R311). -/
theorem State.monFault_eq (s : State) (m : Nat) (high : Bool) (diff : Int) :
    s.monFault m high diff = (s.faultLatched m high diff).monForce m := rfl

/-- What a monitor fault latches (R310). -/
theorem State.faultLatched_spec (s : State) (m : Nat) (high : Bool) (diff : Int) :
    (s.faultLatched m high diff).besideFault = s.besideFault ∧
    (s.faultLatched m high diff).monitor m = (s.monitor m).latched high ∧
    (∀ q, q ≠ m → (s.faultLatched m high diff).monitor q = s.monitor q) ∧
    (s.faultLatched m high diff).mon.pending = s.mon.pending ||| BitVec.ofNat 32 (2 ^ (16 + m)) := by
  obtain ⟨hbeside, hmons, hpend⟩ := ((s.updMonitor m (MonRt.latched · high)).monPend (16 + m)).monEvent_spec m 0x42 (BitVec.ofInt 32 diff) s.tick.counter
  unfold State.faultLatched
  rw [State.eq_of_apart (State.apart_emcy _ 0xff03 m)]
  generalize ((s.updMonitor m (MonRt.latched · high)).monPend (16 + m)).monEvent m 0x42 (BitVec.ofInt 32 diff) s.tick.counter = w at *
  have hmonitor (q : Nat) : w.monitor q = (s.updMonitor m (MonRt.latched · high)).monitor q := congrArg (tget _ · q) hmons
  refine ⟨?_, (hmonitor m).trans (s.monitor_updMonitor m _), fun q hq => (hmonitor q).trans (s.monitor_updMonitor_other hq _), hpend⟩
  exact congrArg (fun u : State => { u with caps := [], diag := {}, can := {}, out := [] }) hbeside

/-- What forcing a monitor keeps of it and what it sets: comparator output, output, and the latched fault. -/
def MonRt.forcedView (r : MonRt) : Bool × Bool × Bool × BitVec 8 × Nat := (r.comp, r.out, r.faulted, r.cause, r.faults)

/-- A comparator output that takes a state, whichever it had (R303). -/
theorem State.compEdge_sets (s : State) (m : Nat) (a : Bool) (c : Nat) : (s.compEdge m a c).besideFault = s.besideFault ∧
    ((s.compEdge m a c).monitor m).forcedView =
      (a, (s.monitor m).out, (s.monitor m).faulted, (s.monitor m).cause, (s.monitor m).faults) ∧
    (∀ q, q ≠ m → (s.compEdge m a c).monitor q = s.monitor q) ∧ (s.compEdge m a c).mon = s.mon := by
  by_cases h : (s.monitor m).comp = a
  · rw [show s.compEdge m a c = s from if_pos h]
    exact ⟨rfl, by rw [← h]; rfl, fun _ _ => rfl, rfl⟩
  · obtain ⟨hframe, hedge, hother⟩ := s.edgeStamped_spec m a c
    rw [State.compEdge_of_moved h]
    generalize (s.compEdge m a c).caps = caps
    generalize s.edgeStamped m a c = w at *
    refine ⟨?_, congrArg MonRt.forcedView hedge, hother, ?_⟩
    · rw [hframe]
      rfl
    · rw [hframe]

/-- A monitor output that takes a state, whichever it had (R305). -/
theorem State.monOutput_sets (s : State) (m : Nat) (a : Bool) (value : BitVec 32) (t : TickNo) (c : Nat) :
    (s.monOutput m a value t c).besideFault = s.besideFault ∧
    ((s.monOutput m a value t c).monitor m).forcedView =
      ((s.monitor m).comp, a, (s.monitor m).faulted, (s.monitor m).cause, (s.monitor m).faults) ∧
    (∀ q, q ≠ m → (s.monOutput m a value t c).monitor q = s.monitor q) ∧
    ∃ x, (s.monOutput m a value t c).mon.pending = s.mon.pending ||| x := by
  by_cases h : (s.monitor m).out = a
  · rw [show s.monOutput m a value t c = s from if_pos h]
    exact ⟨rfl, by rw [← h]; rfl, fun _ _ => rfl, 0, (BitVec.or_zero).symm⟩
  · obtain ⟨hbeside, hmons, hpend, -⟩ := State.monOutput_spec h value t c
    generalize s.monOutput m a value t c = w at *
    have hmonitor (q : Nat) : w.monitor q = (s.updMonitor m (MonRt.output · a)).monitor q := congrArg (tget _ · q) hmons
    refine ⟨congrArg (fun u : State => { u with caps := [], diag := {}, can := {}, out := [] }) hbeside, ?_,
      fun q hq => (hmonitor q).trans (s.monitor_updMonitor_other hq _), if a then BitVec.ofNat 32 (2 ^ m) else 0, ?_⟩
    · rw [hmonitor, State.monitor_updMonitor]
      rfl
    · rw [hpend]
      split
      · rfl
      · exact (BitVec.or_zero).symm

/-- What forcing the outputs of a faulted monitor does (R311). -/
theorem State.monForce_spec (s : State) (m : Nat) : (s.monForce m).besideFault = s.besideFault ∧
    ((s.monForce m).monitor m).forcedView =
      ((s.forced m).1, (s.forced m).2, (s.monitor m).faulted, (s.monitor m).cause, (s.monitor m).faults) ∧
    (∀ q, q ≠ m → (s.monForce m).monitor q = s.monitor q) ∧ ∃ x, (s.monForce m).mon.pending = s.mon.pending ||| x := by
  obtain ⟨hbeside, hcomp, hother, hmon⟩ := s.compEdge_sets m (s.forced m).1 s.tick.cyc
  obtain ⟨hbeside', hout, hother', hpend⟩ := (s.compEdge m (s.forced m).1 s.tick.cyc).monOutput_sets m (s.forced m).2
    (BitVec.ofNat 32 s.tick.cyc) s.tick.counter s.tick.cyc
  unfold State.monForce
  dsimp only
  generalize s.compEdge m (s.forced m).1 s.tick.cyc = w at *
  simp only [MonRt.forcedView, Prod.mk.injEq] at hcomp
  obtain ⟨hc, -, hf, hcause, hfaults⟩ := hcomp
  rw [hc, hf, hcause, hfaults] at hout
  rw [hmon] at hpend
  exact ⟨hbeside'.trans hbeside, hout, fun q hq => (hother' q hq).trans (hother q hq), hpend⟩

/-- States that agree beside a monitor fault have the same configuration, rings and lanes. -/
theorem State.same_of_besideFault {s u : State} (h : s.besideFault = u.besideFault) :
    s.sameConfig u ∧ s.rings = u.rings ∧ s.sameLanes u := by
  simp only [State.besideFault, State.besideMonitors, State.mk.injEq] at h
  simp only [State.sameConfig, State.sameLanes, h, and_self]

/-- What the fault action of a monitor forces (R311). -/
theorem State.forced_eq (s : State) (m : Nat) :
    (s.forced m).1 = (match s.acfg (0x2800 + m) 8 with
      | 0 => true
      | 1 => false
      | _ => (s.monitor m).keptComp) ∧
    (s.forced m).2 = (match s.acfg (0x2800 + m) 8 with
      | 0 => true
      | 1 => false
      | _ => (s.monitor m).keptOut) := by
  unfold State.forced
  generalize s.acfg (0x2800 + m) 8 = action
  match action with
  | 0 => exact ⟨rfl, rfl⟩
  | 1 => exact ⟨rfl, rfl⟩
  | _ + 2 => exact ⟨rfl, rfl⟩

/-- A monitor with a reading of one of its DACs (R310). -/
def MonRt.readback (r : MonRt) (high : Bool) (reading : Nat) (ok : Bool) : MonRt :=
  if high then { r with rbHigh := reading, okHigh := ok } else { r with rbLow := reading, okLow := ok }

/-- R310: readbacks. -/
theorem readbackJudgesTheDac : Claim.ReadbackJudgesTheDac := by
  intro s m high x cyc hcore hon hsampled h r d fresh
  obtain ⟨hmons, hmon, -, -, -, hlive, hrings, hconfig⟩ := s.begin.at_monitors cyc
  obtain ⟨hpowered, hsampler, -, hcodes⟩ := s.begin.at_powered cyc m.val
  have hmonitor (q : Nat) : h.monitor q = s.monitor q := congrArg (tget _ · q) hmons
  have hcode : h.thresholdCode m.val high = s.thresholdCode m.val high := hcodes high
  have hevent : s.begin.monReadback m.val high x.val cyc = if fresh = true then h else
      if (!decide (d ≤ 2) && !r.faulted) = true then
        (h.updMonitor m.val (MonRt.readback · high x.val (decide (d ≤ 2)))).monFault m.val high ((x.val : Int) - s.thresholdCode m.val high)
      else h.updMonitor m.val (MonRt.readback · high x.val (decide (d ≤ 2))) := by
    have hraw : s.begin.monReadback m.val high x.val cyc =
        if (h.monitorOn m.val && h.samplerOn &&
          !decide (((cyc : Int) - (if high then (h.monitor m.val).hiAt else (h.monitor m.val).loAt)) * 100000 < 737280)) = true then
          if (!decide (((x.val : Int) - (h.thresholdCode m.val high : Int)).natAbs ≤ 2) && !(h.monitor m.val).faulted) = true then
            (h.updMonitor m.val (MonRt.readback · high x.val
              (decide (((x.val : Int) - (h.thresholdCode m.val high : Int)).natAbs ≤ 2)))).monFault m.val high
                ((x.val : Int) - (h.thresholdCode m.val high : Int))
          else h.updMonitor m.val (MonRt.readback · high x.val
            (decide (((x.val : Int) - (h.thresholdCode m.val high : Int)).natAbs ≤ 2)))
        else h := rfl
    rw [hraw, hcode, hmonitor, show h.monitorOn m.val = true from hpowered.trans hon,
      show h.samplerOn = true from hsampler.trans hsampled]
    change (if (true && true && !fresh) = true then _ else h) = _
    cases fresh <;> rfl
  have hends {u : State} (hu : s.begin.monReadback m.val high x.val cyc = u) : Ends (.monitorReadback m high ⟨x, cyc⟩) s u :=
    State.ends_of_run (f := (·.monReadback m.val high x.val cyc)) hcore rfl hu
  refine ⟨fun hfresh => hends (hevent.trans (if_pos hfresh)), fun hold hgood => hends (hevent.trans ((if_neg ?_).trans ?_)),
    fun hold hbad hfaulted => hends (hevent.trans ((if_neg ?_).trans ?_)), fun hold hbad hsound => ?_⟩
  · simp [hold]
  · rw [decide_eq_true hgood]
    rfl
  · simp [hold]
  · have hkept : (!decide (d ≤ 2) && !r.faulted) = false := by simp [hfaulted]
    rw [if_neg (by simp [hkept]), decide_eq_false (not_le.mpr hbad)]
    rfl
  · refine State.reaches_of_run (f := (·.monReadback m.val high x.val cyc)) hcore rfl ?_
    have hfaults : (!decide (d ≤ 2) && !r.faulted) = true := by
      rw [decide_eq_false (not_le.mpr hbad), hsound]
      rfl
    rw [hevent, if_neg (by simp [hold]), if_pos hfaults, State.monFault_eq]
    obtain ⟨hbeside, hlatched, hother, hpend⟩ := (h.updMonitor m.val (MonRt.readback · high x.val (decide (d ≤ 2)))).faultLatched_spec
      m.val high ((x.val : Int) - s.thresholdCode m.val high)
    generalize (h.updMonitor m.val (MonRt.readback · high x.val (decide (d ≤ 2)))).faultLatched m.val high
      ((x.val : Int) - s.thresholdCode m.val high) = w at *
    obtain ⟨hbeside', hforced, hother', y, hpend'⟩ := w.monForce_spec m.val
    rw [State.monitor_updMonitor, hmonitor] at hlatched
    have haction : w.acfg (0x2800 + m.val) 8 = s.acfg (0x2800 + m.val) 8 := by
      obtain ⟨⟨hactive, -⟩, -⟩ := State.same_of_besideFault hbeside
      unfold State.acfg
      rw [hactive]
      exact congrArg (cfg · _ 8) hconfig.1
    have hkept : (w.monitor m.val).keptComp = r.comp ∧ (w.monitor m.val).keptOut = r.out ∧
        (w.monitor m.val).faulted = true ∧ (w.monitor m.val).cause = (if high then 2 else 1) ∧ (w.monitor m.val).faults = satInc r.faults := by
      rw [hlatched]
      unfold MonRt.readback
      cases high <;> exact ⟨rfl, rfl, rfl, rfl, rfl⟩
    obtain ⟨hkeptComp, hkeptOut, hfaulted, hcause, hcount⟩ := hkept
    obtain ⟨hforcedComp, hforcedOut⟩ := w.forced_eq m.val
    rw [haction, hkeptComp] at hforcedComp
    rw [haction, hkeptOut] at hforcedOut
    rw [hforcedComp, hforcedOut, hfaulted, hcause, hcount] at hforced
    simp only [MonRt.forcedView, Prod.mk.injEq] at hforced
    obtain ⟨hcomp, hout, hfaulted', hcause', hcount'⟩ := hforced
    obtain ⟨hsame, hrings', hlanes⟩ := State.same_of_besideFault (hbeside'.trans hbeside)
    generalize w.monForce m.val = v at *
    obtain ⟨can, out, hends⟩ := v.settle_eq
    rw [hends]
    refine ⟨hfaulted', hcause', hcount', ?_, hcomp, hout, fun q hq => ?_, State.sameConfig.trans hsame hconfig, hrings'.trans hrings, hlanes⟩
    · show v.mon.pending.getLsbD (16 + m.val) = true
      rw [hpend', hpend]
      have hbit : (BitVec.ofNat 32 (2 ^ (16 + m.val))).getLsbD (16 + m.val) = true := by
        rw [BitVec.getLsbD_ofNat, Nat.testBit_two_pow_self, decide_eq_true (show 16 + m.val < 32 by omega)]
        rfl
      rw [BitVec.getLsbD_or, BitVec.getLsbD_or, hbit, Bool.or_true, Bool.true_or]
    · exact (hother' q hq).trans ((hother q hq).trans ((h.monitor_updMonitor_other hq _).trans (hmonitor q)))

/-- Settles O43, clause by clause. -/
theorem monitorEvents : Obligations.MonitorEvents := ⟨comparatorEdgesAreStamped, monitorOutputFollows, readbackJudgesTheDac⟩
end Sys2Proof.Machine
end

section
/-! PROOFS. Records and sectors of the journal (R368–R382, R441, R498). -/
namespace Sys2Proof.Machine
open Sys2Proof

/-- The length of a number in bytes. -/
theorem length_leBytes (n v : Nat) : (leBytes n v).length = n := by simp [leBytes]

/-- What concatenated bytes hold at an offset: the part that begins there. -/
theorem take_drop_append {l a b c : List Byte} {i n : Nat} (hl : l = a ++ (b ++ c)) (hi : a.length = i) (hn : b.length = n) :
    (l.drop i).take n = b := by
  rw [hl, ← hi, ← hn, List.drop_left, List.take_left]

/-- The number that concatenated bytes hold at an offset. -/
theorem leNum_field {l a c : List Byte} {i n v : Nat} (hl : l = a ++ (leBytes n v ++ c)) (hi : a.length = i) (hv : v < 256 ^ n) :
    leNum ((l.drop i).take n) = v := by
  rw [take_drop_append hl hi (length_leBytes n v), leNum_leBytes n v hv]

/-- The first eight bytes of a record (R369). -/
def recordHead (typ cls seq : Nat) (p : List Byte) : List Byte := leBytes 1 typ ++ leBytes 1 cls ++ leBytes 2 p.length ++ leBytes 4 seq

/-- The fields before the CRC, one after another (R369). -/
theorem recordHead_append (typ cls seq : Nat) (p rest : List Byte) : recordHead typ cls seq p ++ rest =
    leBytes 1 typ ++ (leBytes 1 cls ++ (leBytes 2 p.length ++ (leBytes 4 seq ++ rest))) := by
  simp only [recordHead, List.append_assoc]

/-- Their number. -/
theorem length_recordHead (typ cls seq : Nat) (p : List Byte) : (recordHead typ cls seq p).length = 8 := by
  simp [recordHead, length_leBytes]

/-- The image of a record from its parts (R369). -/
theorem recordImage_eq (typ cls seq : Nat) (p : List Byte) : recordImage typ cls seq p =
    recordHead typ cls seq p ++ (leBytes 4 (crc32 (recordHead typ cls seq p ++ p)).toNat ++
      (p ++ (List.replicate ((p.length + 3) / 4 * 4 - p.length) 0xff ++ leBytes 4 0xa5c33c5a))) := by
  simp only [recordImage, recordHead, List.append_assoc]

/-- R369: the image of a record. -/
theorem recordImageIsLaidOut : Claim.RecordImageIsLaidOut := by
  intro typ cls seq p htyp hcls hseq hlen m pad field
  have hm : m = _ := recordImage_eq typ cls seq p
  obtain ⟨rest, hparts⟩ : ∃ rest, m = leBytes 1 typ ++ (leBytes 1 cls ++ (leBytes 2 p.length ++ (leBytes 4 seq ++ rest))) :=
    ⟨_, hm.trans (recordHead_append ..)⟩
  have hhead := length_recordHead typ cls seq p
  have hpad : p.length ≤ pad := by simp only [pad]; omega
  have hfill : (List.replicate (pad - p.length) (0xff : Byte)).length = pad - p.length := List.length_replicate ..
  have htake : m.take 8 = recordHead typ cls seq p := by
    rw [hm]
    exact List.take_left' hhead
  refine ⟨?_, ?_, ?_, ?_, ?_, ?_, ?_, ?_, fun k hk hkpad => ?_⟩
  · rw [hm]
    simp only [List.length_append, length_leBytes, hhead]
    rw [show (List.replicate ((p.length + 3) / 4 * 4 - p.length) (0xff : Byte)).length = pad - p.length from hfill]
    omega
  · exact leNum_field (a := []) hparts rfl (by omega)
  · exact leNum_field hparts (length_leBytes ..) (by omega)
  · exact leNum_field (hparts.trans (List.append_assoc ..).symm) (by simp [length_leBytes]) (by omega)
  · refine leNum_field (a := leBytes 1 typ ++ leBytes 1 cls ++ leBytes 2 p.length) (c := rest) ?_ (by simp [length_leBytes]) (by omega)
    simp only [hparts, List.append_assoc]
  · rw [htake]
    exact leNum_field hm hhead (BitVec.isLt _)
  · exact take_drop_append (hm.trans (List.append_assoc ..).symm) (by simp [length_leBytes, hhead]) rfl
  · refine leNum_field (a := recordHead typ cls seq p ++ (leBytes 4 (crc32 (recordHead typ cls seq p ++ p)).toNat ++
      (p ++ List.replicate (pad - p.length) 0xff))) (c := []) (hm.trans ?_) ?_ (by decide)
    · simp only [List.append_assoc, List.append_nil]
      rfl
    · simp only [List.length_append, length_leBytes, hhead, hfill]
      omega
  · have hsplit : m = (recordHead typ cls seq p ++ (leBytes 4 (crc32 (recordHead typ cls seq p ++ p)).toNat ++ p)) ++
        (List.replicate (pad - p.length) 0xff ++ leBytes 4 0xa5c33c5a) := by
      refine hm.trans ?_
      simp only [List.append_assoc]
      rfl
    have hbefore : (recordHead typ cls seq p ++ (leBytes 4 (crc32 (recordHead typ cls seq p ++ p)).toNat ++ p)).length = 12 + p.length := by
      simp only [List.length_append, length_leBytes, hhead]
      omega
    rw [hsplit, List.getD_append_right _ _ _ _ (by omega), List.getD_append _ _ _ _ (by omega), List.getD_replicate]
    omega

/-- The journal that has the record p in its flash (R368, R376): what RECORD_PROGRAM does before its effect. -/
def JournalSt.programmed (j : JournalSt) (p : Prog) (weak : Bool) : JournalSt :=
  { j with
    flash := burn j.flash p.addr p.image, seq := p.seq, prog := none
    used := if p.spare then j.used else j.used + recordSize p.jr.length
    spareUsed := if p.spare then j.spareUsed + recordSize p.jr.length else j.spareUsed
    weak := if weak then p.addr :: j.weak else j.weak
    bad := j.bad || (weak && !p.spare)
    run := if p.spare && p.jr.typ = 2 then 0 else j.run }

/-- What a programmed record brings (R372, R375, R378, R441). -/
def State.recordEffect (s : State) (p : Prog) (weak : Bool) : State :=
  match s.jn.compact with
  | .copying (_ :: rest) => s.copyDone weak rest
  | _ =>
    if p.jr.typ = 4 then s.devDone p.jr weak
    else if p.stray || s.jn.plans.isEmpty || s.jn.cut.isSome then { s with jn := s.jn.cutDone weak }
    else if weak then (if s.sup.shutdown then s.storeFails 2 else s.rewrite (decide (p.jr.typ = 2)))
    else if p.jr.typ = 1 then { s with jn := { s.jn with todo := s.jn.todo.drop 1 } }
    else s.planDone

/-- RECORD_PROGRAM: the program, its effect, and the journal moves on (R376, R378, R380). -/
theorem State.recordProgram_eq {s : State} {p : Prog} (h : s.jn.prog = some p) (weak : Bool) :
    s.recordProgram weak = (({ s with jn := s.jn.programmed p weak } : State).recordEffect p weak).jnMove := by
  unfold State.recordProgram
  rw [h]
  rfl

/-- The state but for what the effect of a record may change, with the flash, the sequence number and the weak records. -/
def State.besideRecord (s : State) : State × Tbl Nat × Nat × List Nat × FieldLock × Bool :=
  ({ s with jn := {}, lock := {}, slots := [], diag := {}, can := {}, out := [] }, s.jn.flash, s.jn.seq, s.jn.weak, s.lock.state, s.lock.fuse)

/-- The journal once the generation of a plan stands (R375). -/
def JournalSt.planEntered (j : JournalSt) (p : Plan) (rest : List Plan) : JournalSt :=
  { j with
    gens := tput (fun _ => none) j.gens p.cls (some p.payloads)
    lastCls := BitVec.ofNat 8 p.cls, plans := rest, run := 0, retries := 0 }

/-- The state once the generation of a plan stands: the password and the calibrations stored with it (R358, R375, R387). -/
def State.planStands (s : State) (p : Plan) (job : Job) (rest : List Plan) : State :=
  let s1 : State :=
    if p.cls = 3 then ({ s with jn := s.jn.planEntered p rest }).clearUnstored p.captured job.isStore else { s with jn := s.jn.planEntered p rest }
  if p.cls = 3 ∧ job.isStore = true ∧ p.captured.any (fun e => e.1 = key 0x2c10 9) then
    { s1 with lock := { s1.lock with pwStored := true } }
  else if p.cls = 3 ∧ job.isStore = false then { s1 with lock := { s1.lock with pwStored := false } }
  else s1

/-- It changes the journal, the slots and whether a password is stored. -/
theorem State.planStands_frame (s : State) (p : Plan) (job : Job) (rest : List Plan) :
    ∃ slots stored, s.planStands p job rest =
      { s with jn := s.jn.planEntered p rest, slots := slots, lock := { s.lock with pwStored := stored } } := by
  have hclear : ∃ slots, (if p.cls = 3 then ({ s with jn := s.jn.planEntered p rest } : State).clearUnstored p.captured job.isStore
      else { s with jn := s.jn.planEntered p rest }) = { s with jn := s.jn.planEntered p rest, slots := slots } := by
    unfold State.clearUnstored
    split
    · split
      · exact ⟨_, rfl⟩
      · exact ⟨_, rfl⟩
    · exact ⟨_, rfl⟩
  obtain ⟨slots, hslots⟩ := hclear
  unfold State.planStands
  rw [hslots]
  dsimp only
  split
  · exact ⟨slots, true, rfl⟩
  · split
    · exact ⟨slots, false, rfl⟩
    · exact ⟨slots, s.lock.pwStored, rfl⟩

/-- The end of a plan: with the last the request ends, else the records of the next follow (R375). -/
theorem State.planDone_eq {s : State} {p : Plan} {rest : List Plan} {job : Job} {more : List Job} (hplans : s.jn.plans = p :: rest)
    (hqueue : s.jn.queue = job :: more) : s.planDone =
      if rest.isEmpty then { s.planStands p job rest with jn := { (s.planStands p job rest).jn.endJob with
        result := 1, tick := (s.planStands p job rest).tick.counter } }
      else { s.planStands p job rest with jn := { (s.planStands p job rest).jn with todo := (s.planStands p job rest).jn.planRecords } } := by
  unfold State.planDone
  rw [hplans, hqueue]
  rfl

/-- The end of a plan changes the journal, the field lock and the slots (R375, R387). -/
theorem State.planDone_besideRecord (s : State) : s.planDone.besideRecord = s.besideRecord := by
  cases hplans : s.jn.plans with
  | nil =>
    unfold State.planDone
    rw [hplans]
  | cons p rest =>
    cases hqueue : s.jn.queue with
    | nil =>
      unfold State.planDone
      rw [hplans, hqueue]
    | cons job more =>
      obtain ⟨slots, stored, hframe⟩ := s.planStands_frame p job rest
      rw [State.planDone_eq hplans hqueue, hframe]
      split <;> rfl

/-- The effect of a record leaves what it may not change (R378, R441). -/
theorem State.recordEffect_besideRecord (s : State) (p : Prog) (weak : Bool) : (s.recordEffect p weak).besideRecord = s.besideRecord := by
  unfold State.recordEffect
  split
  · rfl
  · split
    · unfold State.devDone
      dsimp only
      split <;> rfl
    · split
      · unfold JournalSt.cutDone
        split <;> rfl
      · split
        · split
          · rfl
          · unfold State.rewrite
            split <;> rfl
        · split
          · rfl
          · exact s.planDone_besideRecord

/-- RECORD_PROGRAM on a record under program, brought to its end: the effect of the record on the journal that has it (R376). -/
theorem State.reaches_of_program {s : State} (hcore : s.coreRuns = true) {p : Prog} (h : s.jn.prog = some p) {weak : Bool}
    {q : State → Prop} (hq : q (({ s.begin with jn := s.jn.programmed p weak } : State).recordEffect p weak).jnMove.settle) :
    Reaches (.recordProgram weak) s q := by
  refine State.reaches_of_run (f := (·.recordProgram weak)) hcore rfl ?_
  rwa [State.recordProgram_eq (s := s.begin) h]

/-- R368, R370, R376, R378: programs. -/
theorem programsFillTheFlash : Claim.ProgramsFillTheFlash := by
  refine fun s weak hcore => ⟨fun hnone => ?_, fun p hp => State.reaches_of_program hcore hp ?_⟩
  · refine State.ends_of_run (f := (·.recordProgram weak)) hcore rfl ?_
    unfold State.recordProgram
    rw [show s.begin.jn.prog = none from hnone]
    rfl
  · have hbeside := ({ s.begin with jn := s.jn.programmed p weak } : State).recordEffect_besideRecord p weak
    generalize ({ s.begin with jn := s.jn.programmed p weak } : State).recordEffect p weak = w at *
    obtain ⟨hflash, -, -, -, hseq, hweak, -⟩ := w.jnMove_kept
    simp only [State.besideRecord, Prod.mk.injEq] at hbeside
    obtain ⟨hstate, hflash', hseq', hweak', hlock, hfuse⟩ := hbeside
    have hframe : w.jnMove = { s with jn := w.jnMove.jn, lock := w.lock, slots := w.slots, diag := w.diag, can := w.can, out := w.out } :=
      w.jnMove_eq.trans (congrArg (fun x : State => { x with
        jn := w.jnMove.jn, lock := w.lock, slots := w.slots, diag := w.diag, can := w.can, out := w.out }) hstate)
    generalize w.jnMove = v at *
    obtain ⟨can, out, hends⟩ := v.settle_eq
    rw [hends]
    refine ⟨fun k hk => ?_, fun a ha => ?_, hseq.trans hseq', hweak.trans hweak', ?_, ?_, ?_⟩
    · show tget erased v.jn.flash (p.addr + k) = _
      rw [hflash.trans hflash']
      exact tget_burn_inside _ _ _ _ hk
    · show tget erased v.jn.flash a = _
      rw [hflash.trans hflash']
      obtain hbelow | habove := ha
      · exact tget_burn_below _ _ _ _ hbelow
      · exact tget_burn_above _ _ _ _ habove
    · rw [hframe]
    · rw [hframe]
      exact hlock
    · rw [hframe]
      exact hfuse

/-- The end of the last plan of a request: its generation stands, and the request ends with 01h (R375). -/
theorem State.planDone_of_last {s : State} {x : Plan} {job : Job} {more : List Job} (hplans : s.jn.plans = [x])
    (hqueue : s.jn.queue = job :: more) : s.planDone.jn.gens = tput (fun _ => none) s.jn.gens x.cls (some x.payloads) ∧
      s.planDone.jn.result = 1 ∧ s.planDone.jn.tick = s.tick.counter ∧ s.planDone.jn.queue = more := by
  obtain ⟨slots, stored, hframe⟩ := s.planStands_frame x job []
  rw [State.planDone_eq hplans hqueue, hframe]
  refine ⟨rfl, rfl, rfl, ?_⟩
  show s.jn.queue.drop 1 = more
  rw [hqueue]
  rfl

/-- The effect of a record that no compaction copies (R376). -/
theorem State.recordEffect_of_idle {s : State} (h : s.jn.compact = .idle) (p : Prog) (weak : Bool) : s.recordEffect p weak =
    if p.jr.typ = 4 then s.devDone p.jr weak
    else if p.stray || s.jn.plans.isEmpty || s.jn.cut.isSome then { s with jn := s.jn.cutDone weak }
    else if weak then (if s.sup.shutdown then s.storeFails 2 else s.rewrite (decide (p.jr.typ = 2)))
    else if p.jr.typ = 1 then { s with jn := { s.jn with todo := s.jn.todo.drop 1 } }
    else s.planDone := by
  unfold State.recordEffect
  rw [h]

/-- R372, R375, R378, R441: what a programmed record brings. -/
theorem programmedRecordsTakeEffect : Claim.ProgrammedRecordsTakeEffect := by
  intro s weak p hcore hp hidle hcut
  refine ⟨fun x job more htyp hstray hsound hplans hqueue => State.reaches_of_program hcore hp ?_,
    fun htyp hstray hweak hplans hshut hretries => State.reaches_of_program hcore hp ?_,
    fun htyp hown => State.reaches_of_program hcore hp ?_⟩
  all_goals
    set u : State := { s.begin with jn := s.jn.programmed p weak } with hu
    have heffect := State.recordEffect_of_idle (s := u) hidle p weak
  · have hdone : u.recordEffect p weak = u.planDone := by
      rw [heffect, if_neg (by simp [htyp]), if_neg, if_neg (by simp [hsound]), if_neg (by simp [htyp])]
      simp [hu, JournalSt.programmed, hstray, hplans, hcut]
    obtain ⟨hgens, hresult, htick, hqueue'⟩ := State.planDone_of_last (s := u) hplans hqueue
    rw [hdone]
    obtain ⟨-, hq, -, hg, -, -, hr, ht, -⟩ := u.planDone.jnMove_kept
    obtain ⟨can, out, hends⟩ := u.planDone.jnMove.settle_eq
    rw [hends]
    refine ⟨?_, hr.trans hresult, ht.trans htick, hq.trans hqueue'⟩
    show tget _ u.planDone.jnMove.jn.gens x.cls = _
    rw [hg, hgens]
    exact tget_tput_same ..
  · have hfails : u.recordEffect p weak = u.storeFails 3 := by
      have hdata : p.jr.typ ≠ 4 := by omega
      rw [heffect, if_neg hdata, if_neg, if_pos hweak, if_neg (by simp [hu, State.begin, hshut])]
      · exact if_pos hretries
      · simp [hu, JournalSt.programmed, hstray, hplans, hcut]
    rw [hfails]
    obtain ⟨-, hq, -, hg, -, -, hr, -, -⟩ := (u.storeFails 3).jnMove_kept
    have hmove := (u.storeFails 3).jnMove_eq
    generalize (u.storeFails 3).jnMove = w at *
    obtain ⟨can, out, hends⟩ := w.settle_eq
    rw [hends]
    refine ⟨hr, hq, hg, ?_⟩
    show w.diag.events = _
    rw [hmove]
    rfl
  · have hdone : u.recordEffect p weak = u.devDone p.jr weak := heffect.trans (if_pos htyp)
    rw [hdone]
    obtain ⟨-, hq, -, hg, -⟩ := (u.devDone p.jr weak).jnMove_kept
    have hmove := (u.devDone p.jr weak).jnMove_eq
    have hdev : (u.devDone p.jr weak).lock = { s.lock with
        attempt := s.lock.attempt.map (fun a => { a with verified := true })
        fails := if weak then s.lock.fails else min (s.lock.fails + 1) 65535
        verifyFailed := weak } ∧ (u.devDone p.jr weak).jn.queue = s.jn.queue ∧ (u.devDone p.jr weak).jn.gens = s.jn.gens := by
      unfold State.devDone
      dsimp only
      rw [if_pos hown]
      exact ⟨rfl, rfl, rfl⟩
    obtain ⟨hlock, hqueue, hgens⟩ := hdev
    generalize (u.devDone p.jr weak) = d at *
    generalize d.jnMove = w at *
    obtain ⟨can, out, hends⟩ := w.settle_eq
    rw [hends]
    refine ⟨?_, hq.trans hqueue, hg.trans hgens⟩
    show w.lock = _
    rw [hmove]
    exact hlock

/-- What a table reads as once the keys that fail a test are gone. -/
theorem tget_filter {α : Type} (d : Nat → α) (keep : Nat → Bool) (t : Tbl α) (a : Nat) :
    tget d (t.filter (fun e => keep e.1)) a = if keep a then tget d t a else d a := by
  induction t with
  | nil => simp [tget]
  | cons e t ih =>
    obtain ⟨j, v⟩ := e
    by_cases hkeep : keep j = true
    · simp only [List.filter_cons, hkeep, if_true, tget]
      split
      next ha => rw [ha, if_pos hkeep]
      · exact ih
    · simp only [List.filter_cons, hkeep, tget, Bool.false_eq_true, if_false]
      rw [ih]
      by_cases ha : a = j
      · rw [ha, if_neg hkeep, if_neg hkeep]
      · rw [if_neg ha]

/-- The state with a sector erased and counted (R381). -/
def State.sectorGone (s : State) (sec : Nat) : State :=
  { s with jn := { s.jn with
      flash := s.jn.flash.filter (fun e => e.1 / 32768 ≠ sec), erase := none
      weak := s.jn.weak.filter (fun a => a / 32768 ≠ sec)
      erases0 := if sec = 0 then satInc s.jn.erases0 else s.jn.erases0
      erases1 := if sec = 0 then s.jn.erases1 else satInc s.jn.erases1 } }

/-- ERASE_COMPLETE where an erase runs: suspended, or ended (R380–R382, R498). -/
theorem State.eraseComplete_eq {s : State} {sec : Nat} (h : s.jn.erase = some sec) : s.eraseComplete =
    if (s.jn.prog.isSome || s.sup.shutdown || s.netHalted || s.pow.state = .standby) = true then s else (s.sectorGone sec).jnMove := by
  unfold State.eraseComplete
  rw [h]
  rfl

/-- R380–R382, R498: erases. -/
theorem erasesClearTheirSector : Claim.ErasesClearTheirSector := by
  intro s hcore
  refine ⟨fun hkept => State.ends_of_run (f := State.eraseComplete) hcore rfl ?_, fun sec hsec hprog hshut hnet hawake =>
    State.reaches_of_run (f := State.eraseComplete) hcore rfl ?_⟩
  · cases herase : s.jn.erase with
    | none =>
      unfold State.eraseComplete
      rw [show s.begin.jn.erase = none from herase]
      rfl
    | some sec =>
      rw [State.eraseComplete_eq (s := s.begin) herase]
      refine if_pos ?_
      show (s.jn.prog.isSome || s.sup.shutdown || s.netHalted || s.pow.state = .standby) = true
      obtain hnone | hprog | hshut | hnet | hsleep := hkept
      · exact absurd (herase.symm.trans hnone) nofun
      · simp [Option.isSome_iff_ne_none.mpr hprog]
      · simp [hshut]
      · simp [hnet]
      · simp [hsleep]
  · have hends : s.begin.eraseComplete = (s.begin.sectorGone sec).jnMove := by
      refine (State.eraseComplete_eq (s := s.begin) hsec).trans (if_neg ?_)
      show ¬ (s.jn.prog.isSome || s.sup.shutdown || s.netHalted || s.pow.state = .standby) = true
      simp [hprog, hshut, hnet, hawake]
    rw [hends]
    obtain ⟨hflash, hqueue, hdev, hgens, hseq, -, -, -, h0, h1⟩ := (s.begin.sectorGone sec).jnMove_kept
    have hmove := (s.begin.sectorGone sec).jnMove_eq
    have hread (a : Nat) : tget erased (s.begin.sectorGone sec).jn.flash a = if decide (a / 32768 ≠ sec) = true then tget erased s.jn.flash a
        else erased a := tget_filter erased (fun a => decide (a / 32768 ≠ sec)) s.jn.flash a
    generalize (s.begin.sectorGone sec).jnMove = w at *
    obtain ⟨can, out, hsettle⟩ := w.settle_eq
    rw [hsettle]
    refine ⟨fun a ha => ?_, fun a ha => ?_, h0, h1, hseq, hgens, hqueue, hdev, ?_⟩
    · show tget erased w.jn.flash a = 0xff
      rw [hflash, hread, if_neg (by simp [ha])]
      rfl
    · show tget erased w.jn.flash a = _
      rw [hflash, hread, if_pos (by simp [ha])]
    · rw [hmove]
      rfl

/-- Settles O46, clause by clause. -/
theorem journalProgramsAndErases : Obligations.JournalProgramsAndErases :=
  ⟨recordImageIsLaidOut, programsFillTheFlash, programmedRecordsTakeEffect, erasesClearTheirSector⟩
end Sys2Proof.Machine
end

section
/-! PROOFS. O49: NMT commands, the controller, heartbeat and EMCY (R428, R431, R432, R466). -/
namespace Sys2Proof.Machine
open Sys2Proof

/-- R466: what the master passes on. -/
theorem masterPassesNmtOn : Claim.MasterPassesNmtOn := by
  refine fun s command node => ⟨fun hrole => ?_, fun hrole => ?_, fun a hnode hproxy => ?_, fun hnode hproxy => ?_⟩
  · unfold State.relayNmt
    split
    · exact if_neg hrole
    · have hnone : s.proxied node = none := if_neg hrole
      rw [hnone]
  · exact (if_pos rfl).trans (if_pos hrole)
  · rw [State.relayNmt, if_neg hnode, hproxy]
  · rw [State.relayNmt, if_neg hnode, hproxy]

/-- A frame sent on GaltLink is all that changes (R455). -/
theorem State.galtSend_frame (s : State) (typ dst : Nat) (payload : List Byte) : ∃ out, s.galtSend typ dst payload = { s with out := out } := by
  unfold State.galtSend
  split
  · exact ⟨_, rfl⟩
  · exact ⟨s.out, rfl⟩

/-- What the master passes on is sent, and nothing else changes (R466). -/
theorem State.relayNmt_frame (s : State) (node : Nat) (command : Byte) : ∃ out, s.relayNmt node command = { s with out := out } := by
  unfold State.relayNmt
  split
  · split
    · exact s.galtSend_frame ..
    · exact ⟨s.out, rfl⟩
  · split
    · exact s.galtSend_frame ..
    · exact ⟨s.out, rfl⟩

/-- The end of a command sends an EMCY at most, and of the port touches 1003h, 1001h and the count of frames sent (R432). -/
theorem State.settle_can (s : State) : ∃ errs tx err more,
    s.settle = { s with can := { s.can with errs := errs, txFrames := tx, err := err }, out := s.out ++ more } := by
  by_cases h : s.can.err ≠ 0 ∧ s.errReg = 0
  · rw [State.settle_of_returns h.1 h.2]
    cases hon : s.emcyOn with
    | false =>
      rw [State.emcy_of_off hon]
      exact ⟨s.can.errs, s.can.txFrames, s.errReg, [], by rw [List.append_nil]⟩
    | true =>
      rw [State.emcy_of_on hon]
      exact ⟨_, _, _, _, rfl⟩
  · rw [State.settle_of_stays h]
    exact ⟨s.can.errs, s.can.txFrames, s.errReg, [], by rw [List.append_nil]⟩

/-- An NMT command that the port takes, brought to its end: relayed, and effective where it is addressed (R431). -/
theorem State.nmtCommand_of_taken {s : State} (htakes : s.canTakes = true) (node command : Byte) (f : State → State) :
    s.begin.nmtCommand node command f =
      if node.toNat = 0 ∨ node.toNat = s.nodeId then f (s.begin.relayNmt node.toNat command).canRx else s.begin.relayNmt node.toNat command := by
  refine (if_pos htakes).trans ?_
  obtain ⟨out, hframe⟩ := s.begin.relayNmt_frame node.toNat command
  rw [hframe]
  rfl

/-- The NMT state that a command sets, and the frames held (R431, log entry 61). -/
theorem State.setNmt_relayed (s : State) (node : Nat) (command : Byte) (n : Nmt) :
    ((s.begin.relayNmt node command).canRx.setNmt n) = { s.begin.relayNmt node command with
      can := { s.can with rxFrames := satInc s.can.rxFrames, nmt := n, held := if n = .operational then s.can.held else [] } } := by
  obtain ⟨out, hframe⟩ := s.begin.relayNmt_frame node command
  rw [hframe]
  rfl

/-- Whether the port can send turns on the controller, the supply and the clocks (R428). -/
theorem State.canOn_of_taken {s : State} (h : s.canTakes = true) :
    s.canOn = true ∧ s.netHalted = false ∧ s.pow.state ≠ .standby ∧ s.vioOn = true := by
  simp only [State.canTakes, State.canOn, Bool.and_eq_true, Bool.not_eq_true', decide_eq_true_eq] at h ⊢
  obtain ⟨-, ⟨⟨⟨hstarted, hnet⟩, hawake⟩, hbus⟩, hvio⟩ := h
  exact ⟨⟨⟨⟨⟨hstarted, hnet⟩, hawake⟩, hbus⟩, hvio⟩, hnet, hawake, hvio⟩

/-- Reset communication where the port can send (R431). -/
theorem State.resetComm_eq {s : State} (hnet : s.netHalted = false) (hawake : s.pow.state ≠ .standby) (hvio : s.vioOn = true) :
    s.resetComm = { s with
      live := s.commStored.live
      can := { s.can with
        started := true, sessions := [], txErr := 0, rxErr := 0, busState := 0, nmt := .preOperational, held := []
        txFrames := satInc s.can.txFrames }
      out := s.out ++ [.can (0x700 + s.nodeId) [0] s.canBrs] } := by
  unfold State.resetComm State.canBoot
  dsimp only
  rw [State.sendCan_eq]
  have hon : State.canOn { ({ s with can := { s.can with txErr := 0, rxErr := 0, busState := 0 } } : State).commStored with
      can := { ({ s with can := { s.can with txErr := 0, rxErr := 0, busState := 0 } } : State).commStored.can with
        started := true, sessions := [] } } = true := by
    show (true && !s.netHalted && s.pow.state ≠ .standby && (0 : BitVec 8) ≠ 2 && s.vioOn) = true
    simp [hnet, hawake, hvio]
  rw [if_pos hon, if_pos hon]
  rfl

/-- What the live communication entries take where nothing is stored: their Defaults; every other entry stays (R431). -/
theorem State.commStored_of_unstored {s : State} (h : s.jn.gen 1 = none) (k : Nat) :
    tget dflt s.commStored.live k = if liveComm k then dflt k else tget dflt s.live k := by
  have hlive : s.commStored.live = s.live.filter (fun e => !liveComm e.1) := by
    unfold State.commStored
    rw [h]
    rfl
  rw [hlive, tget_filter dflt (fun k => !liveComm k)]
  cases liveComm k <;> rfl

/-- Reset communication (R431). -/
theorem nmtResetCommunicationBoots {s : State} (hcore : s.coreRuns = true) (htakes : s.canTakes = true) {node : Byte}
    (hnode : node.toNat = 0 ∨ node.toNat = s.nodeId) : Reaches (.nmtResetCommunication node) s fun t =>
        t.can.nmt = .preOperational ∧ t.can.txErr = 0 ∧ t.can.rxErr = 0 ∧ t.can.busState = 0 ∧ t.can.sessions = [] ∧
          t.can.held = [] ∧ Emit.can (0x700 + s.nodeId) [0] s.canBrs ∈ t.out ∧
          (∀ k, liveComm k = false → s.jn.gen 1 = none → tget dflt t.live k = tget dflt s.live k) ∧
          (∀ k, liveComm k = true → s.jn.gen 1 = none → tget dflt t.live k = dflt k) ∧
          t = { s with live := s.commStored.live, can := t.can, out := t.out } := by
  obtain ⟨-, hnet, hawake, hvio⟩ := State.canOn_of_taken htakes
  refine State.reaches_of_run (f := (·.nmtCommand node 0x82 State.resetComm)) hcore rfl ?_
  rw [State.nmtCommand_of_taken htakes, if_pos hnode]
  obtain ⟨out, hframe⟩ := s.begin.relayNmt_frame node.toNat 0x82
  rw [hframe, State.resetComm_eq (s := ({ s.begin with out := out } : State).canRx) hnet hawake hvio]
  obtain ⟨errs, tx, err, more, hends⟩ := State.settle_can { ({ s.begin with out := out } : State).canRx with
      live := ({ s.begin with out := out } : State).canRx.commStored.live
      can := { ({ s.begin with out := out } : State).canRx.can with
        started := true, sessions := [], txErr := 0, rxErr := 0, busState := 0, nmt := .preOperational, held := []
        txFrames := satInc ({ s.begin with out := out } : State).canRx.can.txFrames }
      out := ({ s.begin with out := out } : State).canRx.out ++
        [.can (0x700 + ({ s.begin with out := out } : State).canRx.nodeId) [0] ({ s.begin with out := out } : State).canRx.canBrs] }
  rw [hends]
  refine ⟨rfl, rfl, rfl, rfl, rfl, rfl, List.mem_append_left _ (List.mem_append_right _ List.mem_cons_self), fun k hk hnone => ?_,
    fun k hk hnone => ?_, rfl⟩
  · exact (s.commStored_of_unstored hnone k).trans (by rw [hk]; rfl)
  · exact (s.commStored_of_unstored hnone k).trans (by rw [hk]; rfl)

/-- Reset node on the state that the relayed command leaves: what was sent goes out, the rest is reset (R431, R488). -/
theorem State.nmtReset_relayed (s : State) (node : Nat) :
    ((s.begin.relayNmt node 0x81).canRx).nmtReset =
      { (s.begin.relayNmt node 0x81).deviceReset (match s.jn.prog with
          | some p => (Config.freeWord s.draws).toNat % (p.image.length + 1)
          | none => 0) with draws := s.draws + 1, out := (s.begin.relayNmt node 0x81).out } := by
  obtain ⟨out, hframe⟩ := s.begin.relayNmt_frame node 0x81
  rw [hframe]
  rfl

/-- R431, R488: NMT commands. -/
theorem nmtCommandsSetTheState : Claim.NmtCommandsSetTheState := by
  intro s node hcore htakes rx relayed sets
  have hends {i : Instr} {command : Byte} {f : State → State} {u : State} (hi : ∀ s : State, exec i s = s.run (·.nmtCommand node command f))
      (hu : (if node.toNat = 0 ∨ node.toNat = s.nodeId then f (relayed command).canRx else relayed command) = u) : Ends i s u :=
    State.ends_of_run (f := (·.nmtCommand node command f)) hcore (hi s) ((State.nmtCommand_of_taken htakes node command f).trans hu)
  refine ⟨fun hne hother => ?_, fun hmine => ⟨?_, ?_, ?_, ?_, nmtResetCommunicationBoots hcore htakes hmine⟩⟩
  · have hnot : ¬ (node.toNat = 0 ∨ node.toNat = s.nodeId) := not_or.mpr ⟨hne, hother⟩
    exact ⟨hends (fun _ => rfl) (if_neg hnot), hends (fun _ => rfl) (if_neg hnot), hends (fun _ => rfl) (if_neg hnot),
      hends (fun _ => rfl) (if_neg hnot), hends (fun _ => rfl) (if_neg hnot)⟩
  · exact hends (fun _ => rfl) ((if_pos hmine).trans (s.setNmt_relayed ..))
  · exact hends (fun _ => rfl) ((if_pos hmine).trans (s.setNmt_relayed ..))
  · exact hends (fun _ => rfl) ((if_pos hmine).trans (s.setNmt_relayed ..))
  · exact ⟨_, fun hidle => by rw [hidle], hends (fun _ => rfl) ((if_pos hmine).trans (s.nmtReset_relayed node.toNat))⟩

/-- R428, R431, R432, R458: the controller. -/
theorem canControllerEventsAreKept : Claim.CanControllerEventsAreKept := by
  refine fun s hcore => ⟨fun htakes hperiod => ?_, fun hnone => ?_, fun hstarted hoff hnet hawake => ?_, fun tec rec off htakes => ?_, fun hboot => ?_⟩
  · refine State.ends_of_run (f := State.heartbeat) hcore rfl ?_
    have hbeats : (s.begin.canTakes && s.begin.lcfg 0x1017 0 ≠ 0) = true := Bool.and_eq_true_iff.mpr ⟨htakes, decide_eq_true hperiod⟩
    have hon : s.begin.canOn = true := (State.canOn_of_taken htakes).1
    rw [State.heartbeat, if_pos hbeats, State.sendCan_eq, if_pos hon, if_pos hon]
    rfl
  · have hmute : ¬ (s.begin.canTakes && s.begin.lcfg 0x1017 0 ≠ 0) = true := fun hbeats =>
      (Bool.and_eq_true_iff.mp hbeats).elim fun htakes hperiod => hnone.elim
        (fun hnot => Bool.false_ne_true (hnot.symm.trans htakes)) (absurd · (of_decide_eq_true hperiod))
    exact State.ends_of_run (f := State.heartbeat) hcore rfl (if_neg hmute)
  · refine State.ends_of_run (f := State.busOffRecovery) hcore rfl (if_pos ?_)
    show (s.can.started && s.can.busState = 2 && !s.netHalted && s.pow.state ≠ .standby) = true
    simp [hstarted, hoff, hnet, hawake]
  · intro st u
    have hst : (if off then 2 else if (decide (128 ≤ tec.toNat) || decide (128 ≤ rec.toNat)) = true then 1 else 0 : BitVec 8) = st := by
      simp only [Bool.or_eq_true, decide_eq_true_eq, st]
    have hrun : s.begin.errorConfinement tec rec off =
        if st = 1 ∧ s.can.busState = 0 then u.emcy 0x8120 (tec.toNat + 256 * rec.toNat) else u := by
      refine (if_pos htakes).trans ?_
      dsimp only
      rw [hst]
      rfl
    exact ⟨fun hpassive hactive => State.ends_of_run (f := (·.errorConfinement tec rec off)) hcore rfl (hrun.trans (if_pos ⟨hpassive, hactive⟩)),
      fun hother => State.ends_of_run (f := (·.errorConfinement tec rec off)) hcore rfl
        (hrun.trans (if_neg fun ⟨hpassive, hactive⟩ => hother.elim (· hpassive) (· hactive)))⟩
  · exact State.ends_of_run (f := State.crxd) hcore rfl (if_neg hboot)

/-- Settles O49, clause by clause. -/
theorem nmtAndController : Obligations.NmtAndController :=
  ⟨masterPassesNmtOn, nmtCommandsSetTheState, canControllerEventsAreKept, emcyIsEnteredAndSent⟩
end Sys2Proof.Machine
end

section
/-! PROOFS. O48: the USDO server (R398, R399, R430). -/
namespace Sys2Proof.Machine
open Sys2Proof

/-- R430: what the USDO server sends, and its sessions. -/
theorem usdoFramesGoOut : Claim.UsdoFramesGoOut := by
  refine fun s e node => ⟨fun hon => if_pos hon, fun hoff => if_neg (by rw [hoff]; exact Bool.false_ne_true), fun x => ?_, fun x => ?_⟩
  · simp [State.closeUsdo]
  · simp only [State.openUsdo, List.mem_cons, List.mem_filter, decide_eq_true_eq]
    tauto

/-- A USDO abort carries the node-ID it was asked for (R430). -/
theorem State.abortUsdo_eq (s : State) (node : BitVec 7) (code : Nat) :
    s.abortUsdo node.toNat code = (s.closeUsdo node.toNat).sendUsdo (.usdoAbort node (BitVec.ofNat 32 code) s.canBrs) := by
  rw [State.abortUsdo, BitVec.ofNat_toNat, BitVec.setWidth_eq]

/-- A USDO answer carries the node-ID it was asked for (R430). -/
theorem State.answerUsdo_eq (s : State) (node : BitVec 7) (data : List Byte) :
    s.answerUsdo node.toNat data =
      (if 56 < data.length then s.openUsdo node.toNat else s).sendUsdo (.usdoDone node data s.canBrs) := by
  rw [State.answerUsdo, BitVec.ofNat_toNat, BitVec.setWidth_eq]

/-- A protocol abort touches the port alone. -/
theorem State.abortUsdo_active (s : State) (node code : Nat) : (s.abortUsdo node code).active = s.active := by
  unfold State.abortUsdo State.sendUsdo
  split <;> rfl

/-- So does the abort of a session that a new request ends. -/
theorem State.newUsdo_active (s : State) (node : Nat) : (s.newUsdo node).active = s.active := by
  unfold State.newUsdo
  split
  · exact s.abortUsdo_active ..
  · rfl

/-- A node does not serve itself by proxy (R466). -/
theorem State.proxied_own {s : State} {node : Nat} (h : node = s.nodeId) : s.proxied node = none := by
  unfold State.proxied
  (repeat' split) <;> simp_all

/-- An access to this node's USDO server is done here (R398, R430). -/
theorem State.usdoAccess_own {s u : State} {node : Nat} (hnode : node = s.nodeId) (hactive : u.active = s.active) (write : Bool)
    (idx sub : Nat) (data : List Byte) (cyc : Nat) : u.usdoAccess node write idx sub data cyc = u.usdoHere node write idx sub data cyc := by
  have hown : node = u.nodeId := by rw [hnode, State.nodeId, State.nodeId, State.acfg, State.acfg, hactive]
  rw [State.usdoAccess, State.proxied_own hown]

/-- A USDO frame for this node reaches its server (R430). -/
theorem State.usdoTakes_own {s : State} {node : Nat} (hserves : s.begin.portServes .n = true) (hnode : node = s.nodeId) :
    s.begin.usdoTakes node = true :=
  Bool.and_eq_true_iff.mpr ⟨hserves, Bool.or_eq_true_iff.mpr (.inl (decide_eq_true hnode))⟩

/-- R398, R399, R430: USDO requests to this node. -/
theorem usdoRequestsAreServed : Claim.UsdoRequestsAreServed := by
  intro s node cyc hcore hserves hnode h via abort answer fresh writes
  have hrun {req : UsdoReq} {u : State} (hu : h.usdoServe node.toNat req cyc = u) : Ends (.usdoRequest node req cyc) s u :=
    State.ends_of_run (f := (·.usdoRequest node.toNat req cyc)) hcore rfl ((if_pos (State.usdoTakes_own hserves hnode)).trans hu)
  have hactive : h.active = s.active := (s.begin.at_keeps cyc).2.2.2.1
  have hcan : h.can.sessions = s.can.sessions := congrArg (·.sessions) (s.begin.at_syncs_can cyc).2
  clear_value h
  have hfresh : h.newUsdo node.toNat = fresh := by
    simp only [State.newUsdo, State.abortUsdo_eq, List.contains_iff_mem, hcan, fresh, abort]
  have hfreshActive : fresh.active = s.active := hfresh ▸ (h.newUsdo_active _).trans hactive
  clear_value fresh
  have hwrite {u v : State} {idx sub : Nat} {data : List Byte} (hu : u.active = s.active)
      (hv : writes v (u.write via idx sub data true)) : u.usdoAccess node.toNat true idx sub data cyc = v := by
    rw [State.usdoAccess_own hnode hu]
    simp only [State.usdoHere, State.answerUsdo_eq, State.abortUsdo_eq, if_true]
    simp only [writes] at hv
    split at hv
    · next hdone => exact (if_pos hdone).trans hv
    · next hrefused => exact (if_neg hrefused).trans hv
  refine ⟨fun idx sub => ?_, fun idx sub data u => ⟨fun hu => ?_, fun hopen hu => ?_, fun hclosed => ?_⟩, ?_, ?_, ?_, ?_⟩
  · have hread : h.usdoServe node.toNat (.read idx sub) cyc = fresh.usdoHere node.toNat false idx.toNat sub.toNat [] cyc :=
      (congrArg (·.usdoAccess node.toNat false idx.toNat sub.toNat [] cyc) hfresh).trans (State.usdoAccess_own hnode hfreshActive ..)
    refine ⟨fun hdone => hrun (hread.trans ?_), fun hrefused => hrun (hread.trans ?_)⟩
    · exact (if_pos hdone).trans (State.answerUsdo_eq ..)
    · exact (if_neg hrefused).trans (State.abortUsdo_eq ..)
  · exact hrun ((congrArg (·.usdoAccess node.toNat true idx.toNat sub.toNat data cyc) hfresh).trans (hwrite hfreshActive hu))
  · have hsession : h.can.sessions.contains node.toNat = true := List.contains_iff_mem.mpr (hcan ▸ hopen)
    exact hrun ((if_pos hsession).trans (hwrite hactive hu))
  · have hsession : ¬ h.can.sessions.contains node.toNat = true := fun hmem => hclosed (hcan ▸ List.contains_iff_mem.mp hmem)
    exact hrun ((if_neg hsession).trans (State.abortUsdo_eq ..))
  · exact hrun (congrArg (·.openUsdo node.toNat) hfresh)
  · exact hrun rfl
  · exact hrun (State.abortUsdo_eq ..)
  · exact hrun (State.abortUsdo_eq ..)

/-- R399, R430: how USDO sessions end. -/
theorem usdoSessionsEnd : Claim.UsdoSessionsEnd := by
  intro s node hcore hserves hnode
  have htakes := State.usdoTakes_own hserves hnode
  refine ⟨?_, fun hopen => ?_, fun hclosed => ?_⟩
  · exact State.ends_of_run (f := (·.usdoAborted node.toNat)) hcore rfl (if_pos htakes)
  · have hdue : (s.begin.usdoTakes node.toNat && s.begin.can.sessions.contains node.toNat) = true :=
      Bool.and_eq_true_iff.mpr ⟨htakes, List.contains_iff_mem.mpr hopen⟩
    exact State.ends_of_run (f := (·.usdoTimeout node.toNat)) hcore rfl ((if_pos hdue).trans (State.abortUsdo_eq ..))
  · have hidle : ¬ (s.begin.usdoTakes node.toNat && s.begin.can.sessions.contains node.toNat) = true := fun hdue =>
      hclosed (List.contains_iff_mem.mp (Bool.and_eq_true_iff.mp hdue).2)
    exact State.ends_of_run (f := (·.usdoTimeout node.toNat)) hcore rfl (if_neg hidle)

/-- Settles O48, clause by clause. -/
theorem usdoServesTheNetwork : Obligations.UsdoServesTheNetwork := ⟨usdoFramesGoOut, usdoRequestsAreServed, usdoSessionsEnd⟩
end Sys2Proof.Machine
end

section
/-! PROOFS. O47: frames on the SPI and the service port (R422–R427, R450). -/
namespace Sys2Proof.Machine
open Sys2Proof

/-- An op byte is 02h as a byte or as a number. -/
theorem ite_op_write (o : Byte) (a b : Nat) : (if o.toNat = 2 then a else b) = if o = 2 then a else b :=
  if_congr ⟨fun h => BitVec.eq_of_toNat_eq h, fun h => congrArg BitVec.toNat h⟩ rfl rfl

/-- What frame bytes of a known op are, once their length and count are in range (R422). -/
theorem frameOf_of_op {o : Byte} {rest : List Byte} {lo hi : Nat} (hlong : (o :: rest).length ≤ 300)
    (hop : opCounts o.toNat = some (lo, hi)) : frameOf false (o :: rest) =
      if (o :: rest).length < 6 then .form
      else if ((o :: rest).getD 5 0).toNat < lo ∨ hi < ((o :: rest).getD 5 0).toNat then .form
      else reqOf (o :: rest) o.toNat ((o :: rest).getD 5 0).toNat := by
  simp only [frameOf, if_neg (Nat.not_lt.mpr hlong), hop]
  rfl

/-- R422, R426: what the bytes of a frame are. -/
theorem framesAreJudged : Claim.FramesAreJudged := by
  refine fun b o rest => ⟨rfl, rfl, ?_, ?_⟩
  · simp [frameOf, opCounts]
  rintro rfl ho
  have hboth : frameOf false (o :: rest) = frameOf true (o :: rest) := by
    have hop : ¬ o = 0#8 := ho
    simp [frameOf, hop]
  rw [← hboth]
  refine ⟨rfl, fun hlong => ?_, fun hop => ?_, fun lo hi hlong hop => ?_⟩
  · simp only [frameOf, if_pos hlong, if_neg (fun h : false = true ∧ o = 0 => Bool.false_ne_true h.1)]
  · simp [frameOf, hop]
  intro count n
  rw [frameOf_of_op hlong hop]
  refine ⟨fun hform => ?_, fun hsix hlo hhi => ?_⟩
  · split
    · rfl
    · next hsix => exact if_pos (hform.resolve_left hsix)
  rw [if_neg (Nat.not_lt.mpr hsix), if_neg (not_or.mpr ⟨Nat.not_lt.mpr hlo, Nat.not_lt.mpr hhi⟩)]
  rw [reqOf, reqLength, ite_op_write, ite_op_write]
  refine ⟨fun hshort => if_pos hshort, fun hlong hcrc => ?_, fun hlong hcrc => ?_⟩
  · exact (if_neg (Nat.not_le.mpr hlong)).trans (if_pos hcrc)
  · exact (if_neg (Nat.not_le.mpr hlong)).trans (if_neg (not_not.mpr hcrc))

/-- Bytes behind a first one, with FFh behind them, cut to a length (R424). -/
theorem getD_padded (x : Byte) (l : List Byte) {n k : Nat} (h : k + 1 < n) :
    ((x :: l ++ List.replicate n 0xff).take n).getD (k + 1) 0 = l.getD k 0xff := by
  rw [List.getD_eq_getElem?_getD, List.getElem?_take_of_lt h, List.cons_append, List.getElem?_cons_succ, List.getD_eq_getElem?_getD]
  by_cases hk : k < l.length
  · rw [List.getElem?_append_left hk, List.getElem?_eq_getElem hk]
    rfl
  · have hpad : k - l.length < n := by omega
    rw [List.getElem?_append_right (Nat.le_of_not_lt hk), List.getElem?_replicate_of_lt hpad, List.getElem?_eq_none (Nat.le_of_not_lt hk)]
    rfl

/-- R424: what goes out on SPI, and the layout of a response. -/
theorem spiAnswersByteForByte : Claim.SpiAnswersByteForByte := by
  refine ⟨fun s ready n hn => ⟨?_, ?_, fun b k hready hresp hk => ?_, fun k hnone hk => ?_⟩, fun tag status data => ?_⟩
  · rw [State.sdo, List.length_take_of_le]
    simp only [List.length_append, List.length_cons, List.length_replicate]
    omega
  · simp only [State.sdo, List.cons_append, List.head?_take, if_neg (Nat.ne_of_gt hn), List.head?_cons]
  · refine (getD_padded _ _ hk).trans ?_
    rw [hready, hresp]
    rfl
  · refine (getD_padded _ _ hk).trans ?_
    have hmute : (ready && s.spi.resp.isSome) = false := by
      rcases hnone with h | h <;> simp [h]
    rw [hmute]
    rfl
  · intro b
    have hword (n : Nat) : leBytes 2 n = [BitVec.ofNat 8 (n / 256 ^ 0), BitVec.ofNat 8 (n / 256 ^ 1)] := rfl
    have hbody : (tag :: (leBytes 2 status ++ leBytes 2 data.length ++ data)).length = data.length + 5 := by simp [hword]
    refine ⟨rfl, ?_, ?_, ?_, ?_, ?_⟩
    · simp [b, responseBytes, hword]
    · simp [b, responseBytes, hword]
    · simp [b, responseBytes, hword]
    · simp [b, responseBytes, hword]
    · have htake : b.take (data.length + 5) = tag :: (leBytes 2 status ++ leBytes 2 data.length ++ data) := List.take_left' hbody
      rw [htake]
      exact List.getLast?_concat

/-- What goes out while VIO is on is all that changes. -/
theorem State.sendLogic_frame (s : State) (e : Emit) : ∃ out, s.sendLogic e = { s with out := out } := by
  unfold State.sendLogic
  split
  · exact ⟨_, rfl⟩
  · exact ⟨s.out, rfl⟩

/-- The ports of frames do not turn on the cycle of a command. -/
theorem State.at_ports (s : State) (c : Nat) : (s.at c).spi = s.spi ∧ (s.at c).svc = s.svc := by
  rw [s.at_sameButTriggers c]
  exact ⟨rfl, rfl⟩

/-- A write asked for by a frame (R422). -/
theorem State.execReq_write (s : State) (via : Via) (last : Option (List Byte)) {r : Req} (h : r.op = 2) : s.execReq via last r =
    (some (responseBytes r.tag (s.write via r.idx r.sub r.data false).1 []), (s.write via r.idx r.sub r.data false).2) := by
  simp [State.execReq, State.reqAccess, h]

/-- A read asked for by a frame (R422). -/
theorem State.execReq_read (s : State) (via : Via) (last : Option (List Byte)) {r : Req} (h : r.op = 1 ∨ r.op = 3) :
    s.execReq via last r =
      let d := s.read via r.idx r.sub (if r.op = 3 then r.count else 1) (decide (r.op = 3)) false
      (some (responseBytes r.tag d.1 d.2.1), d.2.2) := by
  have htwo : r.op ≠ 2 := by omega
  have hfive : r.op ≠ 5 := by omega
  rw [State.execReq, if_neg hfive, State.reqAccess, if_neg htwo]

/-- Op 05h (R425). -/
theorem State.execReq_repeat (s : State) (via : Via) (last : Option (List Byte)) {r : Req} (h : r.op = 5) :
    s.execReq via last r = (last, s) := if_pos h

/-- A port after a request: an op but 05h ends the repetition (R425). -/
theorem FramePort.await_of_access {r : Req} (h : r.op ≠ 5) (p : FramePort) (resp : Option (List Byte)) :
    p.await r resp = { p with resp := resp, last := none } := by
  rw [FramePort.await, if_neg h]

/-- A port after op 05h (R425). -/
theorem FramePort.await_of_repeat {r : Req} (h : r.op = 5) (p : FramePort) (resp : Option (List Byte)) :
    p.await r resp = { p with resp := resp } := by
  rw [FramePort.await, if_pos h]

/-- The SPI port behind the answer that a frame of n bytes shifts out (R425). -/
def State.shifted (s : State) (ready : Bool) (n : Nat) : FramePort :=
  if ready && s.spi.resp.isSome && decide ((s.spi.resp.getD []).length < n) then { s.spi with resp := none, last := s.spi.resp } else s.spi

/-- What a frame on SPI does behind its answer, on the port that this leaves (R425, R426). -/
def State.spiServed (u : State) (p : FramePort) (f : Framed) (cyc : Nat) : State :=
  let q := p.judged f p.resp.isSome
  match f, p.resp.isSome with
  | .req r, false =>
    let x := ({ u with spi := q }).execReq { port := .h, cyc := cyc } q.last r
    { x.2 with spi := x.2.spi.await r x.1 }
  | _, _ => { u with spi := q }

/-- A frame on SPI at a port that is served: its answer goes out, and it is judged (R424–R426). -/
theorem State.spiFrame_of_served {s : State} (hserves : s.portServes .h = true) {sdi : List Byte} (hsdi : sdi ≠ []) (cyc : Nat)
    (ready : Bool) : s.spiFrame sdi cyc ready =
      ((s.at cyc).sendLogic (.spi ((s.at cyc).sdo ready sdi.length))).spiServed ((s.at cyc).shifted ready sdi.length) (frameOf true sdi) cyc := by
  have hrun : (s.portServes .h && !sdi.isEmpty) = true := by simp [hserves, hsdi]
  refine (if_pos hrun).trans ?_
  obtain ⟨out, hu⟩ := (s.at cyc).sendLogic_frame (.spi ((s.at cyc).sdo ready sdi.length))
  have hspi : ((s.at cyc).sendLogic (.spi ((s.at cyc).sdo ready sdi.length))).spi = (s.at cyc).spi := by rw [hu]
  dsimp only
  rw [hspi]
  rfl

/-- R424–R426: frames on SPI. -/
theorem spiFramesMoveThePort : Claim.SpiFramesMoveThePort := by
  intro s sdi cyc ready hcore hserves hsdi h u gone p
  have hrun {t : State} (ht : s.begin.spiFrame sdi cyc ready = t) : Ends (.spiFrame sdi cyc ready) s t :=
    State.ends_of_run (f := (·.spiFrame sdi cyc ready)) hcore rfl ht
  have hspi : s.begin.spiFrame sdi cyc ready = u.spiServed p (frameOf true sdi) cyc := State.spiFrame_of_served hserves hsdi cyc ready
  clear_value p u
  clear gone
  refine ⟨fun hf => hrun ?_, fun hf => hrun ?_, fun hf => hrun ?_, fun r hf hheld => hrun ?_, fun r hf hfree => ?_⟩
  · rw [hspi, hf]
    rfl
  · rw [hspi, hf]
    rfl
  · rw [hspi, hf]
    rfl
  · rw [hspi, hf]
    unfold State.spiServed
    rw [hheld]
    rfl
  intro q via w d
  have hq : s.begin.spiFrame sdi cyc ready =
      { (q.execReq via q.spi.last r).2 with spi := (q.execReq via q.spi.last r).2.spi.await r (q.execReq via q.spi.last r).1 } := by
    rw [hspi, hf]
    unfold State.spiServed
    rw [hfree]
    rfl
  have hlast : q.spi.last = p.last := rfl
  clear_value q
  refine ⟨fun hop => hrun ?_, fun hop => hrun ?_, fun hop => hrun ?_⟩
  · rw [hq, State.execReq_write _ _ _ hop, FramePort.await_of_access (by omega)]
  · rw [hq, State.execReq_read _ _ _ hop, FramePort.await_of_access (by omega)]
  · rw [hq, State.execReq_repeat _ _ _ hop, FramePort.await_of_repeat hop, ← hlast]

/-- What a frame on the service port does once it is judged (R427). -/
def State.svcServed (u : State) (f : Framed) (cyc : Nat) : State :=
  match f with
  | .req r => u.svcExec cyc r
  | _ => u.svcReply none

/-- A frame on the service port, where it is served (R427). -/
theorem State.serviceFrame_of_served {s : State} (hserves : s.portServes .s = true) {b : List Byte} (hb : b ≠ []) (cyc : Nat) :
    s.serviceFrame b cyc =
      State.svcServed { s.at cyc with svc := (s.at cyc).svc.judged (frameOf false b) false } (frameOf false b) cyc := by
  have hrun : (s.portServes .s && !b.isEmpty) = true := by simp [hserves, hb]
  exact if_pos hrun

/-- R427: frames on the service port. -/
theorem serviceFramesAreAnswered : Claim.ServiceFramesAreAnswered := by
  intro s b cyc hcore hserves hb h reply
  have hrun {t : State} (ht : s.begin.serviceFrame b cyc = t) : Ends (.serviceFrame b cyc) s t :=
    State.ends_of_run (f := (·.serviceFrame b cyc)) hcore rfl ht
  have hsvc : s.begin.serviceFrame b cyc = _ := State.serviceFrame_of_served hserves hb cyc
  refine ⟨fun hf => hrun ?_, fun hf => hrun ?_, fun r hf => ?_⟩
  · rw [hsvc, hf]
    rfl
  · rw [hsvc, hf]
    rfl
  intro q via w d wr dr
  have hq : s.begin.serviceFrame b cyc = q.svcExec cyc r := by
    rw [hsvc, hf]
    rfl
  have hexec : q.svcExec cyc r = (({ (q.execReq via q.svc.last r).2 with
      svc := ((q.execReq via q.svc.last r).2.svc.await r (q.execReq via q.svc.last r).1).consume } : State)).svcReply
        (q.execReq via q.svc.last r).1 := rfl
  clear_value q
  refine ⟨fun hop => hrun ?_, fun hop => hrun ?_, fun hop => hrun ?_⟩
  · rw [hq, hexec, State.execReq_write _ _ _ hop, FramePort.await_of_access (by omega)]
    rfl
  · rw [hq, hexec, State.execReq_read _ _ _ hop, FramePort.await_of_access (by omega)]
    rfl
  · rw [hq, hexec, State.execReq_repeat _ _ _ hop, FramePort.await_of_repeat hop]
    rfl

/-- The request of op 05h (R422). -/
def repeatReq (tag : Byte) : Req := { op := 5, tag := tag, idx := 0, sub := 0, count := 0, data := [] }

/-- Op 05h on SPI (R425). -/
theorem State.repeatLast_spi {s : State} {v : Via} (hserves : s.portServes v.port = true) (hport : v.port = .h) (tag : Byte) :
    s.repeatLast v tag = { s.at v.cyc with
      spi :=
        if (s.at v.cyc).spi.resp.isSome = true then (s.at v.cyc).spi.judged (.req (repeatReq tag)) (s.at v.cyc).spi.resp.isSome
        else ((s.at v.cyc).spi.judged (.req (repeatReq tag)) (s.at v.cyc).spi.resp.isSome).await (repeatReq tag)
          ((s.at v.cyc).spi.judged (.req (repeatReq tag)) (s.at v.cyc).spi.resp.isSome).last } := by
  unfold State.repeatLast
  rw [hserves, hport]
  rfl

/-- Op 05h on the service port (R425, R427). -/
theorem State.repeatLast_svc {s : State} {v : Via} (hserves : s.portServes v.port = true) (hport : v.port = .s) (tag : Byte) :
    s.repeatLast v tag =
      State.svcExec { s.at v.cyc with svc := (s.at v.cyc).svc.judged (.req (repeatReq tag)) false } v.cyc (repeatReq tag) := by
  unfold State.repeatLast
  rw [hserves, hport]
  rfl

/-- R425, R450: op 05h. -/
theorem repeatGivesTheLastResponse : Claim.RepeatGivesTheLastResponse := by
  rintro s v tag ⟨hcore, hserves⟩ h
  have hrun {t : State} (ht : s.begin.repeatLast v tag = t) : Ends (.repeatLastResponse v tag) s t :=
    State.ends_of_run (f := (·.repeatLast v tag)) hcore rfl ht
  have hout : { h with out := [] } = h := by
    show { s.begin.at v.cyc with out := [] } = s.begin.at v.cyc
    rw [s.begin.at_sameButTriggers v.cyc]
    rfl
  have hmute (p : FramePort) : { ({ h with spi := p } : State) with out := [] } = { h with spi := p } :=
    congrArg (fun u : State => { u with spi := p }) hout
  have hports : h.spi = s.spi ∧ h.svc = s.svc := s.begin.at_ports v.cyc
  obtain ⟨hspi, hsvc⟩ := hports
  have hh : s.begin.at v.cyc = h := rfl
  clear_value h
  refine ⟨fun hport hfree => hrun ?_, fun hport hheld => hrun ?_, fun hport => ?_⟩
  · rw [State.repeatLast_spi hserves hport, hh, hmute, hspi, hfree]
    rfl
  · have hsome : s.spi.resp.isSome = true := Option.isSome_iff_ne_none.mpr hheld
    rw [State.repeatLast_spi hserves hport, hh, hmute, hspi, if_pos hsome, hsome]
    rfl
  · intro u
    have hu : u = { h with svc := { s.svc with rej := false, frames := satInc s.svc.frames, resp := none } } := by
      show ({ h with svc := { h.svc with rej := false, frames := satInc s.svc.frames, resp := none } } : State) = _
      rw [hsvc]
    refine hrun ?_
    rw [hu, State.repeatLast_svc hserves hport, hh, hsvc]
    rfl

/-- Settles O47, clause by clause. -/
theorem framePorts : Obligations.FramePorts :=
  ⟨framesAreJudged, spiAnswersByteForByte, spiFramesMoveThePort, serviceFramesAreAnswered, repeatGivesTheLastResponse⟩
end Sys2Proof.Machine
end

section
/-! PROOFS. O56: accesses and NMT commands through the ring (R431, R435, R456, R466, R467). -/
namespace Sys2Proof.Machine
open Sys2Proof

/-- The low bytes of a number do not turn on what lies above them (R1). -/
theorem leBytes_mod (n v : Nat) : leBytes n (v % 256 ^ n) = leBytes n v := by
  refine List.map_congr_left fun i hi => BitVec.eq_of_toNat_eq ?_
  have hin : i < n := List.mem_range.mp hi
  obtain ⟨k, rfl⟩ := Nat.exists_eq_add_of_lt hin
  rw [BitVec.toNat_ofNat, BitVec.toNat_ofNat, Nat.add_assoc, Nat.pow_add, Nat.mod_mul_right_div_self, Nat.pow_succ]
  exact Nat.mod_mul_left_mod ..

/-- A frame passed on is sent at most (R456). -/
theorem State.pass_frame (s : State) (typ : Nat) (hd : FrameHead) (p : List Byte) : ∃ out, s.pass typ hd p = { s with out := out } := by
  unfold State.pass State.forward
  split
  · exact ⟨s.out, rfl⟩
  · split
    · exact ⟨s.out, rfl⟩
    · exact ⟨_, rfl⟩

/-- The payload of an answer to a relayed access, of its code and data (R435, log entry 64). -/
theorem responsePayload_of_code (session : Byte) (write : Bool) (idx : BitVec 16) (sub : BitVec 8) {code : Nat} (hcode : code < 65536)
    (value : List Byte) :
    responsePayload session write idx sub (BitVec.ofNat 16 code) (BitVec.ofNat 32 (abortCode code)) value =
      session :: ([if write then (2 : Byte) else 1] ++ leBytes 2 idx.toNat ++ [sub] ++ leBytes 2 code ++
        if code = 0 then value else leBytes 4 (abortCode code)) := by
  have hzero : BitVec.ofNat 16 code = 0 ↔ code = 0 :=
    ⟨fun h => (Nat.mod_eq_of_lt hcode).symm.trans (congrArg BitVec.toNat h), fun h => h ▸ rfl⟩
  have habort : leBytes 4 (BitVec.ofNat 32 (abortCode code)).toNat = leBytes 4 (abortCode code) := leBytes_mod 4 _
  have hstatus : leBytes 2 (BitVec.ofNat 16 code).toNat = leBytes 2 code := leBytes_mod 2 _
  rw [responsePayload, accessBody, habort, hstatus, if_congr hzero rfl rfl, List.append_assoc _ (leBytes 2 code)]

/-- Whether a port is served does not turn on what a command has sent. -/
theorem State.pass_portServes (s : State) (typ : Nat) (hd : FrameHead) (payload : List Byte) (p : Port) :
    (s.pass typ hd payload).portServes p = s.portServes p := by
  obtain ⟨out, hframe⟩ := s.pass_frame typ hd payload
  rw [hframe]
  rfl

/-- R435, R456: accesses relayed to this node. -/
theorem relayedAccessesAreAnswered : Claim.RelayedAccessesAreAnswered := by
  intro s hd session op write idx sub data cyc named p hcore hon hgood via passed h w d answer here
  have hrun {t : State} (ht : (if here = true then passed.serveAccess hd.org session op write idx sub data cyc else passed) = t) :
      Ends (.accessFrame hd session op write idx sub data cyc) s t :=
    State.ends_of_run (f := (·.accessFrame hd session op write idx sub data cyc)) hcore rfl
      ((State.galtFrame_of_good (s := s.begin) hon hgood _).trans ht)
  have hserves : passed.portServes .g = s.begin.portServes .g := s.begin.pass_portServes ..
  have hanswer {t : State} (hhere : here = true) (hg : s.begin.portServes .g = true) (code : Nat) (value : List Byte) (v : State)
      (hr : (if write then ((h.write via idx.toNat sub.toNat data false).1, ([] : List Byte), (h.write via idx.toNat sub.toNat data false).2)
        else h.read via idx.toNat sub.toNat 1 false false) = (code, value, v)) (hcode : code < 65536)
      (ht : answer v code value = t) : Ends (.accessFrame hd session op write idx sub data cyc) s t := by
    refine hrun ((if_pos hhere).trans ((if_pos (hserves.trans hg)).trans ?_))
    refine Eq.trans ?_ ht
    dsimp only [answer, named]
    rw [← responsePayload_of_code session write idx sub hcode value]
    exact congrArg (fun r : Nat × List Byte × State => r.2.2.galtSend 6 hd.org.toNat
      (responsePayload session write idx sub (BitVec.ofNat 16 r.1) (BitVec.ofNat 32 (abortCode r.1)) r.2.1)) hr
  refine ⟨fun hnot => hrun ?_, fun hhere hg hwrite hcode => ?_, fun hhere hg hread hcode => ?_⟩
  · by_cases hhere : here = true
    · have hg : ¬ passed.portServes .g = true := fun hg => hnot.elim (fun h => Bool.false_ne_true (h.symm.trans hhere))
        (fun h => Bool.false_ne_true (h.symm.trans (hserves.symm.trans hg)))
      exact (if_pos hhere).trans (if_neg hg)
    · exact if_neg hhere
  · exact hanswer hhere hg _ _ _ (if_pos hwrite) hcode rfl
  · exact hanswer hhere hg _ _ _ (if_neg (by rw [hread]; exact Bool.false_ne_true)) hcode rfl

/-- A session ends on what a frame that was passed on leaves (R467). -/
theorem State.endSession_passed (s : State) (typ : Nat) (hd : FrameHead) (p : List Byte) (id : Byte) :
    (s.begin.pass typ hd p).endSession id = { s.begin.pass typ hd p with
      galt := { s.galt with sessions := s.galt.sessions.filter (fun q => q.id ≠ id) } } := by
  obtain ⟨out, hframe⟩ := s.begin.pass_frame typ hd p
  rw [hframe]
  rfl

/-- R466, R467: the responses of relayed accesses and their timeouts. -/
theorem relaySessionsEnd : Claim.RelaySessionsEnd := by
  intro s hd id write idx sub hcore ended found here
  refine ⟨fun st abort data => ?_, fun q hq => ?_, fun hnone => ?_⟩
  · intro i p hon hgood passed
    have hrun {t : State} (ht : (if here = true then passed.response id st abort data else passed) = t) : Ends i s t :=
      State.ends_of_run (f := (·.responseFrame hd id write idx sub st abort data)) hcore rfl
        ((State.galtFrame_of_good (s := s.begin) hon hgood _).trans ht)
    have hfound : passed.galt.sessions.find? (fun q => q.id = id) = found := by
      obtain ⟨out, hframe⟩ := s.begin.pass_frame 6 hd p
      show (s.begin.pass 6 hd p).galt.sessions.find? _ = _
      rw [hframe]
      rfl
    have hended : passed.endSession id = ended passed := s.endSession_passed 6 hd p id
    refine ⟨fun hnot => hrun ?_, fun q hhere hq hst => hrun ?_, fun q hhere hq hst => hrun ?_⟩
    · by_cases hhere : here = true
      · have hnone : found = none := hnot.resolve_left fun h => Bool.false_ne_true (h.symm.trans hhere)
        rw [if_pos hhere, State.response, hfound, hnone]
      · exact if_neg hhere
    · rw [if_pos hhere, State.response, hfound, hq, ← hended]
      exact if_pos hst
    · rw [if_pos hhere, State.response, hfound, hq, ← hended]
      exact if_neg hst
  · refine State.ends_of_run (f := (·.accessTimeout id)) hcore rfl ?_
    have hfound : s.begin.galt.sessions.find? (fun q => q.id = id) = some q := hq
    rw [State.accessTimeout, hfound]
    rfl
  · refine State.ends_of_run (f := (·.accessTimeout id)) hcore rfl ?_
    have hfound : s.begin.galt.sessions.find? (fun q => q.id = id) = none := hnone
    rw [State.accessTimeout, hfound]
    rfl

/-- Reset communication takes the stored entries, boots anew and leaves the rest (R431). -/
theorem State.resetComm_frame (s : State) : ∃ tx out, s.resetComm = { s with
    live := s.commStored.live
    can := { s.can with started := true, sessions := [], txErr := 0, rxErr := 0, busState := 0, nmt := .preOperational, held := []
                        txFrames := tx }
    out := out } := by
  unfold State.resetComm State.canBoot
  dsimp only
  rw [State.sendCan_eq]
  exact ⟨_, _, rfl⟩

/-- A byte that is no NMT command changes nothing (R431). -/
theorem State.nmtByte_of_other (s : State) {c : Byte} (h : c ∉ [1, 2, 0x80, 0x81, 0x82]) : s.nmtByte c = s := by
  have hne (k : Byte) (hk : k ∈ ([1, 2, 0x80, 0x81, 0x82] : List Byte)) : c.toNat ≠ k.toNat :=
    fun heq => h (BitVec.eq_of_toNat_eq heq ▸ hk)
  unfold State.nmtByte
  split
  · next heq => exact absurd heq (hne 1 (by decide))
  · next heq => exact absurd heq (hne 2 (by decide))
  · next heq => exact absurd heq (hne 0x80 (by decide))
  · next heq => exact absurd heq (hne 0x81 (by decide))
  · next heq => exact absurd heq (hne 0x82 (by decide))
  · rfl

/-- R431, R466: NMT commands of the master. -/
theorem masterCommandsNmt : Claim.MasterCommandsNmt := by
  intro s hd c hcore hon hgood u takes
  have hframe : s.begin.galtNmt hd c = if takes = true then u.nmtByte c else u :=
    (State.galtFrame_of_good (s := s.begin) hon hgood _).trans rfl
  have hpassed : ∃ out, u = { s with out := out } := s.begin.pass_frame 0x0c hd [c]
  have hrun {t : State} (ht : (if takes = true then u.nmtByte c else u) = t) : Ends (.galtlinkNmtFrame hd c) s t :=
    State.ends_of_run (f := (·.galtNmt hd c)) hcore rfl (hframe.trans ht)
  clear_value u
  obtain ⟨out, rfl⟩ := hpassed
  refine ⟨fun hnot => hrun (if_neg (by rw [hnot]; exact Bool.false_ne_true)), fun htakes => ⟨?_, ?_, ?_, ?_, ?_, fun hother => ?_⟩⟩
  · rintro rfl
    exact hrun (if_pos htakes)
  · rintro rfl
    exact hrun (if_pos htakes)
  · rintro rfl
    exact hrun (if_pos htakes)
  · rintro rfl
    refine State.reaches_of_run (f := (·.galtNmt hd 0x81)) hcore rfl ?_
    obtain ⟨errs, tx, err, more, hsettle⟩ := State.settle_can (s.begin.galtNmt hd 0x81)
    rw [hsettle, hframe, if_pos htakes]
    exact ⟨rfl, rfl, rfl, rfl, rfl, rfl⟩
  · rintro rfl
    refine State.reaches_of_run (f := (·.galtNmt hd 0x82)) hcore rfl ?_
    obtain ⟨errs, tx, err, more, hsettle⟩ := State.settle_can (s.begin.galtNmt hd 0x82)
    obtain ⟨frames, sent, hreset⟩ := State.resetComm_frame { s with out := out }
    have hbyte : ({ s with out := out } : State).nmtByte 0x82 = ({ s with out := out } : State).resetComm := rfl
    rw [hsettle, hframe, if_pos htakes, hbyte, hreset]
    exact ⟨rfl, rfl, rfl, rfl, rfl, rfl, ⟨rfl, rfl, rfl, rfl, rfl, rfl⟩, rfl, rfl, rfl, rfl⟩
  · exact hrun ((if_pos htakes).trans (State.nmtByte_of_other _ hother))

/-- Settles O56, clause by clause. -/
theorem galtLinkRelay : Obligations.GaltLinkRelay := ⟨relayedAccessesAreAnswered, relaySessionsEnd, masterCommandsNmt⟩
end Sys2Proof.Machine
end

section
/-! PROOFS. O54: the enumeration of the ring (R457–R459, R463, R474). -/
namespace Sys2Proof.Machine
open Sys2Proof

/-- R457, R458: ENUM at a member. -/
theorem enumGivesTheAddress : Claim.EnumGivesTheAddress := by
  intro s hd count l hcore hon hgood hrole hnet hmine u v next
  have hrun {t : State} (ht : s.begin.enumMember hd count l = t) : Ends (.enumFrame hd count l) s t := by
    refine State.ends_of_run (f := (·.enumFrame hd count l)) hcore rfl ((State.galtFrame_of_good (s := s.begin) hon hgood _).trans ?_)
    have hmember : s.begin.role ≠ 1 := fun h => absurd (h.symm.trans hrole) (by decide)
    exact (if_neg fun h => hmember h.1).trans ((if_pos ⟨hmember, hmine⟩).trans ht)
  have hsends : ¬ s.begin.netHalted = true := fun h => Bool.false_ne_true (hnet.symm.trans h)
  refine ⟨fun hroom => hrun ?_, fun hfull => hrun ?_⟩
  · unfold State.enumMember
    rw [decide_eq_true hroom, if_neg hsends]
    rfl
  · unfold State.enumMember
    rw [decide_eq_false (Nat.not_le.mpr hfull), if_neg hsends]
    rfl

/-- R457, R459, R469, R470: ENUM at node 0. -/
theorem enumReturnsToNodeZero : Claim.EnumReturnsToNodeZero := by
  intro s hd count l hcore hon hgood hrole u
  have hrun {t : State} (ht : (if s.begin.role = 1 ∧ hd.org = 0 then s.begin.enumDone count l
      else if s.begin.role ≠ 1 ∧ s.begin.mine hd = true then s.begin.enumMember hd count l
      else s.begin.forward 1 hd (enumPayload count l)) = t) : Ends (.enumFrame hd count l) s t :=
    State.ends_of_run (f := (·.enumFrame hd count l)) hcore rfl ((State.galtFrame_of_good (s := s.begin) hon hgood _).trans ht)
  refine ⟨fun horg => hrun ?_, fun horg hfew => hrun ?_, fun horg hmany => hrun ?_⟩
  · exact (if_neg fun h => horg h.2).trans (if_neg fun h => h.1 hrole)
  · exact (if_pos ⟨hrole, horg⟩).trans (if_neg (Nat.not_lt.mpr hfew))
  · exact (if_pos ⟨hrole, horg⟩).trans (if_pos hmany)

/-- R457, R459, R474: when node 0 enumerates again, and RESTORED. -/
theorem masterEnumerates : Claim.MasterEnumerates := by
  intro s hcore hon started locked
  have hlock {t : State} (ht : s.begin.characterLock = t) : Ends .characterLock s t :=
    State.ends_of_run (f := State.characterLock) hcore rfl ht
  have hfirst (h : s.galt.locked = false) : s.begin.characterLock =
      if s.begin.role = 1 then locked.enumerate else if s.galt.detected then locked.galtSend 0x0b 0xff [s.galt.addr] else locked := by
    have hgo : (s.begin.galtOn && !s.begin.galt.locked) = true :=
      Bool.and_eq_true_iff.mpr ⟨hon, (congrArg (!·) h).trans rfl⟩
    exact if_pos hgo
  refine ⟨fun hrole hretry => ?_, fun hnot => ?_, fun hlocked => hlock ?_, fun hopen hrole => hlock ?_, fun hopen hrole => hlock ?_,
    fun hd a hgood => ?_⟩
  · have hdue : (s.begin.galtOn && s.begin.role = 1 && s.begin.galt.retry) = true :=
      Bool.and_eq_true_iff.mpr ⟨Bool.and_eq_true_iff.mpr ⟨hon, decide_eq_true hrole⟩, hretry⟩
    exact State.ends_of_run (f := State.enumRetry) hcore rfl (if_pos hdue)
  · have hidle : ¬ (s.begin.galtOn && s.begin.role = 1 && s.begin.galt.retry) = true := fun h => by
      obtain ⟨hnode, hretry⟩ := Bool.and_eq_true_iff.mp h
      exact hnot.elim (· (of_decide_eq_true (Bool.and_eq_true_iff.mp hnode).2)) fun hno => Bool.false_ne_true (hno.symm.trans hretry)
    exact State.ends_of_run (f := State.enumRetry) hcore rfl (if_neg hidle)
  · have hstays : ¬ (s.begin.galtOn && !s.begin.galt.locked) = true := fun h =>
      absurd (Bool.and_eq_true_iff.mp h).2 (by rw [show s.begin.galt.locked = true from hlocked]; decide)
    exact if_neg hstays
  · exact (hfirst hopen).trans (if_pos hrole)
  · exact (hfirst hopen).trans (if_neg hrole)
  · exact State.ends_of_run (f := (·.restoredFrame hd a)) hcore rfl (State.galtFrame_of_good (s := s.begin) hon hgood _)

/-- The node of an address in the table of a closed ring (R457, R463). -/
theorem tget_tableNodes (delays : List (BitVec 32)) (l : List EnumEntry) (base a : Nat) :
    tget (fun _ => ({} : NodeRt)) (tableNodes delays base l) (base + a) = match l[a]? with
      | some e => { present := true, product := e.product, revision := e.revision, serial := e.serial, offBus := e.offBus
                    delay := delays.getD (base + a) 0 }
      | none => {} := by
  induction l generalizing base a with
  | nil => rfl
  | cons e t ih =>
    cases a with
    | zero => exact if_pos rfl
    | succ a =>
      have hother : base + (a + 1) ≠ base := by omega
      have hshift : base + (a + 1) = base + 1 + a := by omega
      refine (if_neg hother).trans ?_
      rw [hshift, ih, List.getElem?_cons_succ]

/-- R457, R463, R474: the ring closes. -/
theorem ringClosesWithItsThreeFrames : Claim.RingClosesWithItsThreeFrames := by
  intro s
  refine ⟨fun l htable hstate hdelay htime => ?_, fun hnot => ?_⟩
  · have hclose : s.tryClose = { s with galt := { s.galt with
        state := 2, broke := false, count := BitVec.ofNat 8 l.length, nodes := tableNodes s.galt.advances 0 l
        streams := tmapVals (fun _ => {}) (fun _ x => { x with sent := 0 }) s.galt.streams } } := by
      rw [State.tryClose, htable]
      exact if_pos (by simp [hstate, hdelay, htime])
    rw [hclose]
    have hnode (a : Nat) : tget (fun _ => ({} : NodeRt)) (tableNodes s.galt.advances 0 l) a = _ :=
      (congrArg (tget _ _) (Nat.zero_add a).symm).trans (tget_tableNodes s.galt.advances l 0 a)
    refine ⟨rfl, rfl, rfl, rfl, fun a e he => (hnode a).trans ?_, fun a ha => (hnode a).trans ?_, fun r => ?_, rfl, rfl, rfl⟩
    · rw [he, Nat.zero_add]
    · rw [List.getElem?_eq_none ha]
    · exact tget_tmapVals (fun _ => ({} : StreamRt)) (fun _ (x : StreamRt) => { x with sent := 0 }) _ _ rfl
  · unfold State.tryClose
    split
    · next l hsome =>
      refine if_neg fun h => ?_
      obtain ⟨hrest, htime⟩ := Bool.and_eq_true_iff.mp h
      obtain ⟨hstate, hdelay⟩ := Bool.and_eq_true_iff.mp hrest
      simp [hsome, of_decide_eq_true hstate, hdelay, htime] at hnot
    · rfl

/-- The link's state after a frame that went on (R456). -/
theorem State.updGalt_passed (s : State) (typ : Nat) (hd : FrameHead) (p : List Byte) (f : GaltSt → GaltSt) :
    (s.begin.pass typ hd p).updGalt f = { s.begin.pass typ hd p with galt := f s.galt } := by
  obtain ⟨out, hframe⟩ := s.begin.pass_frame typ hd p
  rw [hframe]
  rfl

/-- R456, R457, R462: TABLE and DELAY. -/
theorem tableAndDelayAreTaken : Claim.TableAndDelayAreTaken := by
  intro s hd hcore hon
  refine ⟨fun l => ?_, fun c hgood => ?_⟩
  · intro p hgood
    have hrun {t : State} (ht : (if s.begin.mine hd then
        ((s.begin.pass 2 hd p).updGalt (fun g => { g with table := some l })).tryClose else s.begin.pass 2 hd p) = t) :
        Ends (.tableFrame hd l) s t :=
      State.ends_of_run (f := (·.tableFrame hd l)) hcore rfl ((State.galtFrame_of_good (s := s.begin) hon hgood _).trans ht)
    refine ⟨fun hmine => hrun ((if_pos hmine).trans ?_), fun hother => hrun (if_neg fun h => Bool.false_ne_true (hother.symm.trans h))⟩
    rw [State.updGalt_passed]
  · have hrun {t : State} (ht : (if s.begin.mine hd then
        ((s.begin.pass 4 hd (leBytes 4 c.toNat)).updGalt (fun g => { g with cableNext := some c, gotDelay := true })).tryClose
        else s.begin.pass 4 hd (leBytes 4 c.toNat)) = t) : Ends (.delayFrame hd c) s t :=
      State.ends_of_run (f := (·.delayFrame hd c)) hcore rfl ((State.galtFrame_of_good (s := s.begin) hon hgood _).trans ht)
    refine ⟨fun hmine => hrun ((if_pos hmine).trans ?_), fun hother => hrun (if_neg fun h => Bool.false_ne_true (hother.symm.trans h))⟩
    rw [State.updGalt_passed]

/-- Settles O54, clause by clause. -/
theorem galtLinkEnumeration : Obligations.GaltLinkEnumeration :=
  ⟨enumGivesTheAddress, enumReturnsToNodeZero, masterEnumerates, ringClosesWithItsThreeFrames, tableAndDelayAreTaken⟩
end Sys2Proof.Machine
end

section
/-! PROOFS. O55: TICK, SOUND and TIME (R460–R465, R470, R472). -/
namespace Sys2Proof.Machine
open Sys2Proof

/-- A number within a half of an integer rounds to it (R2). -/
theorem roundEven_of_near {r : Rat} {k : Int} (hlo : (k : Rat) - 1 / 2 < r) (hhi : r < (k : Rat) + 1 / 2) : roundEven r = k := by
  have hhalf : mkRat 1 2 = (1 / 2 : Rat) := by norm_num
  by_cases hk : (k : Rat) ≤ r
  · have hfloor : r.floor = k := Int.floor_eq_iff.mpr ⟨hk, by linarith⟩
    rw [roundEven, hfloor, hhalf]
    exact if_pos (by linarith)
  · have hcast : ((k - 1 : Int) : Rat) = (k : Rat) - 1 := by push_cast; ring
    have hfloor : r.floor = k - 1 := (Int.floor_eq_iff (a := r) (z := k - 1)).mpr ⟨by rw [hcast]; linarith, by rw [hcast]; linarith⟩
    rw [roundEven, hfloor, hhalf, hcast]
    exact (if_neg (by linarith)).trans ((if_pos (by linarith)).trans (by ring))

/-- Where a node has a role, a frame goes out while its transmit domain runs (R455). -/
theorem State.galtSend_of_role {s : State} (hrole : s.role ≠ 0) (typ dst : Nat) (payload : List Byte) : s.galtSend typ dst payload = { s with
    out := s.out ++ if s.netHalted = false then
      [galtFrameOf (BitVec.ofNat 8 typ) (BitVec.ofNat 8 dst) s.galt.addr payload] else [] } := by
  unfold State.galtSend
  by_cases hnet : s.netHalted = false
  · rw [if_pos ⟨hrole, hnet⟩, if_pos hnet]
    rfl
  · rw [if_neg fun h => hnet h.2, if_neg hnet, List.append_nil]

/-- A node with GaltLink on has a role (R452). -/
theorem State.role_of_galtOn {s : State} (hon : s.galtOn = true) : s.role ≠ 0 := by
  simp only [State.galtOn, Bool.and_eq_true, decide_eq_true_eq] at hon
  exact hon.1.2

/-- The link where the boundary takes a cable delay that has been sounded anew (R462). -/
def State.hopTaken (s : State) : GaltSt :=
  match s.galt.cableNext with
  | some c => { s.galt with cableNext := none, hop := c + BitVec.ofNat 32 Config.receivePathPs }
  | none => s.galt

/-- Taking a cable delay leaves the role, the address and the break that was detected. -/
theorem State.hopTaken_keeps (s : State) :
    s.hopTaken.glmaster = s.galt.glmaster ∧ s.hopTaken.addr = s.galt.addr ∧ s.hopTaken.detected = s.galt.detected := by
  unfold State.hopTaken
  split <;> exact ⟨rfl, rfl, rfl⟩

/-- What goes out at a boundary: node 0's TICK, and the BREAK of a node that has detected one (R460, R472). -/
def State.boundarySent (s u : State) : State :=
  let v := if s.role = 1 && !s.netHalted then
      { u.send (.galtTick (BitVec.ofNat 32 ((Config.freeWord s.draws).toNat % 50000))) with draws := s.draws + 1 }
    else u
  if s.galt.detected then v.galtSend 0x0a 0xff [s.galt.addr] else v

/-- A boundary takes the cable delay first. -/
theorem State.galtBoundary_of_on {s : State} (hon : s.galtOn = true) : s.galtBoundary = s.boundarySent { s with galt := s.hopTaken } := by
  have hcable : (match s.galt.cableNext with
      | some c => s.updGalt (fun g => { g with cableNext := none, hop := c + BitVec.ofNat 32 Config.receivePathPs })
      | none => s) = { s with galt := s.hopTaken } := by
    unfold State.hopTaken
    split <;> rfl
  exact (if_pos hon).trans (congrArg s.boundarySent hcable)

/-- The link at a tick boundary (R460–R462, R472). -/
theorem State.galtBoundary_eq {s : State} (hon : s.galtOn = true) : ∃ (off : BitVec 32) (draws : Nat), off.toNat < 50000 ∧
    s.galtBoundary = { s with
      galt := s.hopTaken
      draws := draws
      out := s.out ++ (if s.role = 1 ∧ s.netHalted = false then [.galtTick off] else []) ++
        if s.galt.detected = true ∧ s.netHalted = false then [galtFrameOf 0x0a 0xff s.galt.addr [s.galt.addr]] else [] } := by
  have hoff : (BitVec.ofNat 32 ((Config.freeWord s.draws).toNat % 50000)).toNat < 50000 :=
    (Nat.mod_le _ _).trans_lt (Nat.mod_lt _ (by decide))
  obtain ⟨hmaster, haddr, hdetected⟩ := s.hopTaken_keeps
  have hrole (draws : Nat) (out : List Emit) : State.role { s with galt := s.hopTaken, draws := draws, out := out } ≠ 0 := by
    show roleOf s.active s.hopTaken.glmaster ≠ 0
    rw [hmaster]
    exact State.role_of_galtOn hon
  have hbreak (draws : Nat) (out : List Emit) :
      (if s.galt.detected then
        ({ s with galt := s.hopTaken, draws := draws, out := out } : State).galtSend 0x0a 0xff [s.galt.addr]
        else { s with galt := s.hopTaken, draws := draws, out := out }) =
      { s with galt := s.hopTaken, draws := draws, out := out ++
        if s.galt.detected = true ∧ s.netHalted = false then [galtFrameOf 0x0a 0xff s.galt.addr [s.galt.addr]] else [] } := by
    cases hdet : s.galt.detected with
    | false => simp
    | true =>
      rw [if_pos rfl, State.galtSend_of_role (hrole draws out)]
      dsimp only
      rw [haddr]
      simp only [true_and]
      rfl
  rw [State.galtBoundary_of_on hon]
  unfold State.boundarySent
  dsimp only
  by_cases hsends : s.role = 1 ∧ s.netHalted = false
  · refine ⟨_, s.draws + 1, hoff, ?_⟩
    have htick : (s.role = 1 && !s.netHalted) = true := by simp [hsends.1, hsends.2]
    rw [if_pos hsends, if_pos htick]
    exact hbreak (s.draws + 1) _
  · refine ⟨_, s.draws, hoff, ?_⟩
    have hmute : ¬ (s.role = 1 && !s.netHalted) = true := by simpa using hsends
    rw [if_neg hsends, if_neg hmute, List.append_nil]
    exact hbreak s.draws s.out

/-- R460–R462, R472: the link at a boundary. -/
theorem boundariesSendTick : Claim.BoundariesSendTick := by
  intro s hon t brk
  obtain ⟨off, draws, hoff, ht⟩ := State.galtBoundary_eq hon
  have htout : t = _ := ht
  clear_value t
  rw [htout]
  refine ⟨fun hrole hnet => ⟨off, hoff, ?_⟩, fun hmute => ?_, fun c hc => ?_, fun hc => ?_, rfl⟩
  · dsimp only
    rw [if_pos ⟨hrole, hnet⟩, List.append_assoc]
    rfl
  · have hnot : ¬ (s.role = 1 ∧ s.netHalted = false) := fun h =>
      hmute.elim (· h.1) fun hhalted => Bool.false_ne_true (h.2.symm.trans hhalted)
    dsimp only
    rw [if_neg hnot, List.append_nil]
  · dsimp only
    rw [State.hopTaken, hc]
  · dsimp only
    rw [State.hopTaken, hc]

/-- R460, R461, R463: TICK at a member. -/
theorem ticksTravel : Claim.TicksTravel := by
  intro s off r hcore hon
  refine ⟨fun hrole => ?_, fun hrole => ?_⟩
  · exact State.ends_of_run (f := (·.tickSymbol off r)) hcore rfl (if_neg fun h => hrole (of_decide_eq_true (Bool.and_eq_true_iff.mp h).2))
  · have hgo : (s.begin.galtOn && s.begin.role = 2) = true := Bool.and_eq_true_iff.mpr ⟨hon, decide_eq_true hrole⟩
    refine State.ends_of_run (f := (·.tickSymbol off r)) hcore rfl ((if_pos hgo).trans ?_)
    have hcounts : s.begin.tickCounts = true ↔ s.galt.state = 2 ∨ (s.galt.state = 3 ∧ s.galt.broke = false ∧ s.tick.lock = .locked) := by
      show s.tickCounts = true ↔ _
      simp [State.tickCounts, and_assoc]
    have hmute : (s.begin.galt.state = 3 || s.begin.netHalted) = true ↔ s.galt.state = 3 ∨ s.netHalted = true := by
      rw [Bool.or_eq_true, decide_eq_true_eq]
      rfl
    dsimp only
    by_cases hc : s.begin.tickCounts = true <;> by_cases hm : (s.begin.galt.state = 3 || s.begin.netHalted) = true
    · rw [if_pos hc, if_pos hm, if_pos (hcounts.mp hc), if_pos (hmute.mp hm)]
      rfl
    · rw [if_pos hc, if_neg hm, if_pos (hcounts.mp hc), if_neg (mt hmute.mpr hm)]
      rfl
    · rw [if_neg hc, if_pos hm, if_neg (mt hcounts.mpr hc), if_pos (hmute.mp hm)]
      rfl
    · rw [if_neg hc, if_neg hm, if_neg (mt hcounts.mpr hc), if_neg (mt hmute.mpr hm)]
      rfl

/-- A whole number of ps as the mean of 16 round trips (R462). -/
theorem cableDelay_of_mean {trips : List Nat} {c : Nat} (hlen : trips.length = 16) (hsum : trips.sum = 32 * c) :
    cableDelay trips = BitVec.ofInt 32 ((c : Int) - (Config.transmitPathPs : Int)) := by
  have hmean : mkRat trips.sum (2 * trips.length) = ((c : Int) : Rat) := by
    rw [hlen, hsum, Rat.mkRat_eq_div]
    push_cast
    ring
  rw [cableDelay, hmean, roundEven_of_near (k := (c : Int)) (by linarith) (by linarith)]

/-- The outgoing segment sounded: SOUND, then DELAY to the neighbour (R462). -/
theorem State.soundSegment_sent {s : State} (hon : s.galtOn = true) (hnet : s.netHalted = false) (trips : List Nat) :
    s.begin.soundSegment trips = { s with
      out := [.galtSound, galtFrameOf 4 (BitVec.ofNat 8 s.downstream) s.galt.addr (leBytes 4 (cableDelay trips).toNat)] } := by
  have hsends : ¬ s.begin.netHalted = true := fun h => Bool.false_ne_true (hnet.symm.trans h)
  refine (if_neg hsends).trans ((State.galtSend_of_role (s := s.begin.send .galtSound) (State.role_of_galtOn hon) ..).trans ?_)
  have hsent : (s.begin.send .galtSound).netHalted = false := hnet
  rw [if_pos hsent]
  rfl

/-- R462: soundings. -/
theorem segmentsAreSounded : Claim.SegmentsAreSounded := by
  intro s trips hcore hon heard due
  have hsound {t : State} (ht : s.begin.sound trips = t) : Ends (.sound trips) s t :=
    State.ends_of_run (f := (·.sound trips)) hcore rfl ht
  have hstart {t : State} (ht : s.begin.soundingStart trips = t) : Ends (.soundingStart trips) s t :=
    State.ends_of_run (f := (·.soundingStart trips)) hcore rfl ht
  have hasks : (s.begin.galtOn && s.begin.role = 2 && s.begin.galt.state ≠ 3) = true ↔ s.role = 2 ∧ s.galt.state ≠ 3 := by
    rw [show s.begin.galtOn = true from hon, Bool.true_and, Bool.and_eq_true, decide_eq_true_eq, decide_eq_true_eq]
    rfl
  have hbegins : (s.begin.galtOn && s.begin.role = 1 && (s.begin.galt.soundDue || (s.begin.tick.on && s.begin.tick.counter.toNat % 1024 = 512)))
      = true ↔ s.role = 1 ∧ (s.galt.soundDue = true ∨ due = true) := by
    rw [show s.begin.galtOn = true from hon, Bool.true_and, Bool.and_eq_true, decide_eq_true_eq, Bool.or_eq_true]
    rfl
  refine ⟨fun c hlen hsum => cableDelay_of_mean hlen hsum, fun hnet hrole hstate => hsound ?_, fun hnot => hsound ?_,
    fun hnet hrole hidle hdue => hstart ?_, fun hnet hrole hdue => hstart ?_, fun hnot => hstart ?_⟩
  · exact (if_pos (hasks.mpr ⟨hrole, hstate⟩)).trans (State.soundSegment_sent hon hnet trips)
  · by_cases hasked : s.role = 2 ∧ s.galt.state ≠ 3
    · have hhalted : s.begin.netHalted = true := (hnot.resolve_left (not_not.mpr hasked.1)).resolve_left hasked.2
      exact (if_pos (hasks.mpr hasked)).trans (if_pos hhalted)
    · exact if_neg (mt hasks.mp hasked)
  · refine (if_pos (hbegins.mpr ⟨hrole, .inr hdue⟩)).trans ?_
    dsimp only
    rw [if_neg (show ¬ s.begin.galt.soundDue = true from fun h => Bool.false_ne_true (hidle.symm.trans h)),
      State.soundSegment_sent hon hnet]
    have hgalt : { s.galt with soundDue := false } = s.galt := by rw [← hidle]
    exact congrArg (fun g => ({ s with galt := g, out := heard } : State)) hgalt
  · refine (if_pos (hbegins.mpr ⟨hrole, .inl hdue⟩)).trans ?_
    dsimp only
    rw [if_pos (show s.begin.galt.soundDue = true from hdue), State.soundSegment_sent hon hnet]
    rfl
  · refine if_neg fun h => ?_
    obtain ⟨hrole, hcause⟩ := hbegins.mp h
    obtain ⟨hidle, hnone⟩ := hnot.resolve_left (not_not.mpr hrole)
    exact hcause.elim (fun hd => Bool.false_ne_true (hidle.symm.trans hd)) fun hd => Bool.false_ne_true (hnone.symm.trans hd)

/-- R463, R465, R470: node 0 sends TIME. -/
theorem timeIsSent : Claim.TimeIsSent := by
  intro s hcore n delay time due
  refine ⟨?_, fun o => ⟨fun a ha => ?_, fun hnone => ?_⟩, fun hdue => ?_, fun hidle => ?_⟩
  · obtain ⟨out, hframe⟩ := s.galtSend_frame 3 0xff time
    show (s.galtSend 3 0xff time).galt.origins.foldl State.sendCredit (s.galtSend 3 0xff time) = _
    rw [hframe]
  · rw [State.sendCredit, ha]
  · rw [State.sendCredit, hnone]
  · exact State.ends_of_run (f := State.timeSend) hcore rfl (if_pos hdue)
  · exact State.ends_of_run (f := State.timeSend) hcore rfl (if_neg fun h => Bool.false_ne_true (hidle.symm.trans h))

/-- R456, R463: TIME is taken or goes on. -/
theorem timeIsTaken : Claim.TimeIsTaken := by
  intro s hd n inst e adv hcore hon hgood own kept
  have hrun {t : State} (ht : (if s.begin.role = 1 ∧ hd.org = 0 then s.begin.takeAdvances adv
      else if s.begin.role ≠ 1 ∧ s.begin.mine hd = true then
        ((s.begin.pass 3 hd (timePayload n e (if s.begin.addressed then adv.set s.galt.addr.toNat s.galt.advance else adv))).takeAdvances
          (if s.begin.addressed then adv.set s.galt.addr.toNat s.galt.advance else adv)).adoptCounter n inst e
      else s.begin.pass 3 hd (timePayload n e adv)) = t) : Ends (.timeFrame hd ⟨n, inst⟩ e adv) s t :=
    State.ends_of_run (f := (·.timeFrame hd n inst e adv)) hcore rfl ((State.galtFrame_of_good (s := s.begin) hon hgood _).trans ht)
  refine ⟨fun hrole horg => hrun (if_pos ⟨hrole, horg⟩), fun hnot => hrun ?_, fun hrole hmine => hrun ?_⟩
  · obtain ⟨hrole, horg⟩ | ⟨hrole, hother⟩ := hnot
    · exact (if_neg fun h => horg h.2).trans (if_neg fun h => h.1 hrole)
    · exact (if_neg fun h => hrole h.1).trans (if_neg fun h => Bool.false_ne_true (hother.symm.trans h.2))
  · have haddressed : s.begin.addressed = true ↔ s.galt.addr ≠ 0 := by
      rw [State.addressed, Bool.or_eq_true, decide_eq_true_eq, decide_eq_true_eq]
      exact or_iff_right hrole
    refine (if_neg fun h => hrole h.1).trans ((if_pos ⟨hrole, hmine⟩).trans ?_)
    rw [if_congr haddressed rfl rfl]
    rfl

/-- An epoch and a number in one count (R465). -/
theorem toNat_epoch_append (e : BitVec 16) (n : TickNo) : (e ++ n).toNat = e.toNat * 2 ^ 32 + n.toNat := by
  rw [BitVec.toNat_append, ← Nat.shiftLeft_add_eq_or_of_lt n.isLt, Nat.shiftLeft_eq]

/-- A count gives its number and its epoch back (R465). -/
theorem epoch_and_number_of_count {m : BitVec 48} {e : BitVec 16} {n : TickNo} (h : m.toNat = e.toNat * 2 ^ 32 + n.toNat) :
    (m.setWidth 32, m.extractLsb' 32 16) = (n, e) := by
  refine Prod.ext (BitVec.eq_of_toNat_eq ?_) (BitVec.eq_of_toNat_eq ?_)
  · show (m.setWidth 32).toNat = n.toNat
    rw [BitVec.toNat_setWidth, h]
    omega
  · show (m.extractLsb' 32 16).toNat = e.toNat
    rw [BitVec.extractLsb'_toNat, Nat.shiftRight_eq_div_pow, h]
    omega

/-- One tick on, the epoch counts where the number wraps (R465). -/
theorem toNat_epoch_succ (e : BitVec 16) (n : TickNo) :
    ((e ++ n) + 1).toNat = (if n = 0xffffffff then e + 1 else e).toNat * 2 ^ 32 + (n + 1).toNat := by
  rw [BitVec.toNat_add, toNat_epoch_append, BitVec.toNat_add]
  split
  · next hwraps =>
    subst hwraps
    rw [BitVec.toNat_add]
    have he := e.isLt
    simp
    omega
  · next hgoes =>
    have hlt : n.toNat ≠ 0xffffffff := fun h => hgoes (BitVec.eq_of_toNat_eq h)
    have he := e.isLt
    have hn := n.isLt
    simp
    omega

/-- One tick back, the epoch counts back where the number wraps (R465). -/
theorem toNat_epoch_pred (e : BitVec 16) (n : TickNo) :
    ((e ++ n) + -1).toNat = (if n = 0 then e - 1 else e).toNat * 2 ^ 32 + (n - 1).toNat := by
  have he := e.isLt
  have hn := n.isLt
  rw [BitVec.toNat_add, toNat_epoch_append, BitVec.toNat_sub]
  split
  · next hwraps =>
    subst hwraps
    rw [BitVec.toNat_sub]
    simp
    omega
  · next hgoes =>
    have hlt : n.toNat ≠ 0 := fun h => hgoes (BitVec.eq_of_toNat_eq h)
    simp
    omega

/-- The next number of a member whose number differs from the master's goes on from the master's (R465, log entry 87). -/
theorem State.adoptCounter_of_differs {s : State} {n : TickNo} {inst : Int} (hfollows : s.tick.lock = .locked ∨ s.tick.lock = .acquiring)
    (hne : n ≠ s.boundaryNumber inst) (e : BitVec 16) {next : TickNo × BitVec 16}
    (hnext : ((e ++ n) + (s.tick.counter - s.boundaryNumber inst).signExtend 48).toNat = next.2.toNat * 2 ^ 32 + next.1.toNat) :
    s.adoptCounter n inst e = { s with galt := { s.galt with counterNext := some next } } :=
  (if_pos ⟨hfollows, hne⟩).trans
    (congrArg (fun next => ({ s with galt := { s.galt with counterNext := some next } } : State)) (epoch_and_number_of_count hnext))

/-- The boundary nearest to an instant less than half a tick away is the running tick's (R465). -/
theorem State.boundaryNumber_of_near {s : State} {inst : Int} (h : 2 * ratAbs (psCycles inst) < s.tickLen) :
    s.boundaryNumber inst = s.tick.counter := by
  have hbounds : -s.tickLen < 2 * psCycles inst ∧ 2 * psCycles inst < s.tickLen := by
    unfold ratAbs at h
    split at h <;> constructor <;> linarith
  have hpos : 0 < s.tickLen := by linarith
  have hround : roundEven (psCycles inst / s.tickLen) = 0 := by
    refine roundEven_of_near ?_ ?_
    · rw [lt_div_iff₀ hpos]
      push_cast
      linarith
    · rw [div_lt_iff₀ hpos]
      push_cast
      linarith
  rw [State.boundaryNumber, hround]
  exact BitVec.add_zero _

/-- The boundary nearest to an instant between a half and one and a half ticks on is the next one (R465). -/
theorem State.boundaryNumber_of_next {s : State} {inst : Int} (hlo : s.tickLen < 2 * psCycles inst)
    (hhi : 2 * psCycles inst < 3 * s.tickLen) : s.boundaryNumber inst = s.openNumber.1 := by
  have hpos : 0 < s.tickLen := by linarith
  have hround : roundEven (psCycles inst / s.tickLen) = 1 := by
    refine roundEven_of_near ?_ ?_
    · rw [lt_div_iff₀ hpos]
      push_cast
      linarith
    · rw [div_lt_iff₀ hpos]
      push_cast
      linarith
  rw [State.boundaryNumber, hround]
  exact BitVec.add_zero _

/-- R465: the number that TIME sets. -/
theorem timeSetsTheNextNumber : Claim.TimeSetsTheNextNumber := by
  intro s n inst e own follows steps
  have htoNat := toNat_epoch_append e n
  have hadopts {next : TickNo × BitVec 16} (hf : follows = true) (hne : n ≠ own)
      (hnext : ((e ++ n) + (s.tick.counter - own).signExtend 48).toNat = next.2.toNat * 2 ^ 32 + next.1.toNat) : steps next :=
    State.adoptCounter_of_differs (of_decide_eq_true hf) hne e hnext
  refine ⟨State.boundaryNumber_of_near, State.boundaryNumber_of_next, fun hnot => if_neg fun h => ?_,
    fun hf hne hrun => hadopts hf hne ?_, fun hf hne hrun => hadopts hf hne ?_, fun hf hne hrun => hadopts hf hne ?_⟩
  · exact hnot.elim (fun hf => of_decide_eq_false hf h.1) fun heq => h.2 heq
  · have hstep : (s.tick.counter - own).signExtend 48 = 0 := by rw [hrun, BitVec.sub_self]; rfl
    rw [hstep]
    exact (congrArg BitVec.toNat (BitVec.add_zero (e ++ n))).trans htoNat
  · have hstep : (s.tick.counter - own).signExtend 48 = 1 := by rw [hrun, BitVec.add_comm, BitVec.add_sub_cancel]; rfl
    rw [hstep]
    exact toNat_epoch_succ e n
  · have hstep : (s.tick.counter - own).signExtend 48 = -1 := by
      rw [← hrun, sub_add_cancel_left]; rfl
    rw [hstep]
    exact toNat_epoch_pred e n

/-- Settles O55, clause by clause. -/
theorem galtLinkTime : Obligations.GaltLinkTime :=
  ⟨boundariesSendTick, ticksTravel, segmentsAreSounded, timeIsSent, timeIsTaken, timeSetsTheNextNumber⟩
end Sys2Proof.Machine
end
